-- ==== Sys2Proof/Word.lean ====
section
/-! DEFINITION. Bytes, and tables of a fixed number of like cells (heads, fans, bays, bytes of an image). -/

namespace Sys2Proof

/-- A byte of a frame, a record or the configuration image. -/
abbrev Byte := BitVec 8

/-- `n` like things in index order: the four heads, the 48 bays, the 512 bytes of an image. The length travels with
the data, so that an index in range always names a cell. -/
structure Tbl (n : Nat) (α : Type) where
  cells : List α
  size : cells.length = n
  deriving DecidableEq, Repr

namespace Tbl

variable {n : Nat} {α β : Type}

/-- The cell at an index. -/
def get (t : Tbl n α) (i : Fin n) : α := t.cells[i.val]'(t.size.symm ▸ i.isLt)

/-- The table with one cell replaced. -/
def set (t : Tbl n α) (i : Fin n) (a : α) : Tbl n α := ⟨t.cells.set i a, by simp [t.size]⟩

/-- The table whose cell `i` is `f i`. -/
def ofFn (f : Fin n → α) : Tbl n α := ⟨List.ofFn f, List.length_ofFn⟩

/-- Every cell changed by one function. -/
def map (f : α → β) (t : Tbl n α) : Tbl n β := ⟨t.cells.map f, by simp [t.size]⟩

/-- Every cell changed by a function of its index and contents. -/
def mapIdx (f : Fin n → α → β) (t : Tbl n α) : Tbl n β := ofFn fun i => f i (t.get i)

/-- One cell changed by a function. -/
def modify (t : Tbl n α) (i : Fin n) (f : α → α) : Tbl n α := t.set i (f (t.get i))

/-- `n` equal cells. -/
def const (n : Nat) (a : α) : Tbl n α := ⟨List.replicate n a, List.length_replicate⟩

@[simp] theorem get_set_self (t : Tbl n α) (i : Fin n) (a : α) : (t.set i a).get i = a := by
  simp [get, set]

theorem get_set_ne (t : Tbl n α) {i j : Fin n} (a : α) (h : j ≠ i) : (t.set i a).get j = t.get j := by
  have : (i : Nat) ≠ j := fun e => h (Fin.ext e.symm)
  simp [get, set, this]

@[simp] theorem get_ofFn (f : Fin n → α) (i : Fin n) : (ofFn f).get i = f i := by
  simp [get, ofFn]

@[simp] theorem get_map (f : α → β) (t : Tbl n α) (i : Fin n) : (t.map f).get i = f (t.get i) := by
  simp [get, map]

@[simp] theorem get_mapIdx (f : Fin n → α → β) (t : Tbl n α) (i : Fin n) :
    (t.mapIdx f).get i = f i (t.get i) := by
  simp [mapIdx]

@[simp] theorem get_modify_self (t : Tbl n α) (i : Fin n) (f : α → α) :
    (t.modify i f).get i = f (t.get i) := by
  simp [modify]

theorem get_modify_ne (t : Tbl n α) {i j : Fin n} (f : α → α) (h : j ≠ i) :
    (t.modify i f).get j = t.get j :=
  get_set_ne t _ h

@[simp] theorem get_const (a : α) (i : Fin n) : (const n a).get i = a := by
  simp [get, const]

/-- Two tables with equal cells are equal. -/
theorem ext_get {t u : Tbl n α} (h : ∀ i, t.get i = u.get i) : t = u := by
  cases t with
  | mk l hl =>
    cases u with
    | mk m hm =>
      have : l = m := by
        apply List.ext_getElem (hl.trans hm.symm)
        intro i h1 _
        have := h ⟨i, hl ▸ h1⟩
        simpa [get] using this
      subst this
      rfl

end Tbl

end Sys2Proof
end

