-- ==== Sys2Proof/Syntax.lean ====
section
/-! DEFINITION. The commands the block takes: one constructor for each row of spec/opcode_table.json. -/

namespace Sys2Proof

/-- What a bay detector answers (R103). -/
inductive Reading where
  | vacant
  | occupied
  deriving DecidableEq, Repr

/-- The two loops of a lane detector pair; A is on the zone's outer side (R110). -/
inductive Loop where
  | a
  | b
  deriving DecidableEq, Repr

/-- The 512 bytes of the store's image area, or of the staging buffer (R164, R166). -/
abbrev Image := Tbl 512 Byte

/-- The five bytes of the lock record (R181). -/
abbrev LockRecord := Tbl 5 Byte

/-- The loop levels of one lane, true where a loop is active (R110). -/
structure Loops where
  a : Bool
  b : Bool
  deriving DecidableEq, Repr

/-- The pins a start reads: the COMMISSION strap (R165), the PURGE input (R162) and the loop inputs (R110). -/
structure Pins where
  /-- the strap is low: COMMISSION is asked for -/
  strapLow : Bool
  /-- the PURGE input stands asserted -/
  purge : Bool
  loops : Tbl 4 Loops
  deriving DecidableEq, Repr

/-- One command, one whole step of the part. The operands are what the row's rule speaks of (log 3): a head, fan,
port, bay or channel index, a converter code, the bytes of a frame as received, the pins a start reads. A service
request's own bytes are kept as bytes, so that an index out of range can be named. -/
inductive Instr where
  -- resets
  | powerOnReset (pins : Pins)
  | restartTaken (pins : Pins)
  -- gas heads and the converter
  | warmUpTimerExpiry (h : Fin 4)
  | headValueAgesTs (h : Fin 4)
  | headValueAges2Ts (h : Fin 4)
  | sampleConversionComplete (code : BitVec 12)
  | zeroConversionComplete (code : BitVec 12)
  | zeroProtectedPartEnd
  | settleTimerExpiry (h : Fin 4)
  | zeroIntervalTimerExpiry (h : Fin 4)
  | clearHeadFault (index : Byte)
  -- fume computation
  | gasUpdateTimerExpiry
  | minuteBoundary
  | movementRoll
  -- fans
  | dwellTimerExpiry
  | localSpacingTimerExpiry
  | tachPulse (fan : Fin 4) (periodUs : Nat)
  | tachTimeout (fan : Fin 4)
  | spinUpTimerExpiry (fan : Fin 4)
  | runningCheck (fan : Fin 4)
  | checkHoldTimerExpiry (fan : Fin 4)
  | rotationTimerExpiry
  | boostTimerExpiry
  | lockFan (index : Byte)
  | unlockFan (index : Byte)
  | clearFanFault (index : Byte)
  | boostStage (stage minutes : Byte)
  -- this station's frames
  | busFree
  | arbitrationLost
  | lateCollision
  | frameDelivered
  | attemptVoided
  | attemptUnheard
  -- other parties' frames
  | zoneReportTaken (sender : BitVec 6) (payload : Tbl 13 Byte)
  | startNoticeTaken (sender : BitVec 6) (fan window : Byte)
  | transitNoticeTaken (sender : BitVec 6) (target direction port : Byte)
  | serviceRequestTaken (sender : BitVec 6) (target kind argument : Byte) (data : List Byte)
  | unpassedFrameTaken (sender : BitVec 6) (kind : BitVec 5)
  | receivedFrameDiscarded (checkError : Bool)
  | brokenFrame
  | stretchBegin
  | stretchTimerExpiry
  | stuckTimerExpiry
  | joinTimerExpiry
  | lateCollisionRecordLapse
  | periodicRequest
  | spacingTimerExpiry
  -- peer table
  | staleTimerExpiry (place : Fin 8)
  | lostTimerExpiry (place : Fin 8)
  | startNoticeEntryExpiry (unit : BitVec 6) (fan : Byte)
  -- bays and lanes
  | scanTimerExpiry
  | bayPollAnswer (bay : Fin 48) (reading : Reading)
  | bayNoAnswer (bay : Fin 48)
  | flashTimerExpiry
  | loopChange (port : Fin 4) (loop : Loop) (on : Bool)
  | lanePresenceTimerExpiry (port : Fin 4)
  | loopStuckTimerExpiry (port : Fin 4) (loop : Loop)
  | clearDetector (index selector : Byte)
  -- arrivals, signs, lamps
  | arrivalExpiry
  | signRefreshTimerExpiry
  | signRecordEnd
  | lampPresenceTimerExpiry (channel : Fin 8)
  | rampTick
  | pwmPeriodStart
  -- zone state
  | purgeAssertionTaken
  | purgeReleaseTaken
  | alarmHoldTimerExpiry
  -- store and service
  | lockWriteEnd (readBack : LockRecord)
  | commitWriteEnd (readBack : Image)
  | statusQuery (part : Byte)
  | counterQuery (group page : Byte)
  | clearStoreError
  | configWrite (argument : Byte) (data : Tbl 8 Byte)
  | configRead (argument : Byte)
  | configCommit
  | restart
  | unknownRequestKind (kind argument : Byte)
  deriving DecidableEq, Repr

end Sys2Proof
end

