-- ==== Sys2Proof/Config.lean ====
section
/-! DEFINITION. What the part fixes for every station, and the values the manual leaves open. -/

namespace Sys2Proof.Config

/-- Full scale of CO, in cu (R18). -/
def fullScaleCo : Nat := 5000
/-- Full scale of NO2, in cu (R18). -/
def fullScaleNo2 : Nat := 2000
/-- The highest score (02, R28) and the highest lamp level (09, R143). -/
def top : Nat := 1023
/-- Event counters stop here (R17 and every counter rule). -/
def counterTop : Nat := 65535
/-- Head warm-up, in ms (R3). -/
def warmUpMs : Nat := 60000
/-- Settle of a zero check, in ms (R9). -/
def settleMs : Nat := 2000
/-- A conversion, in ms (R6, R11). -/
def conversionMs : Nat := 40
/-- The minute timer, in ms (R24). -/
def minuteMs : Nat := 60000
/-- The movement roll timer, in ms (R30). -/
def rollMs : Nat := 10000
/-- A one-head gas may rest its head while FS is below this (R9). -/
def oneHeadFsLimit : Nat := 128
/-- The spin-up timer, in ms (R48). -/
def spinUpMs : Nat := 10000
/-- The check hold after a rise of duty, in ms (R49). -/
def holdMs : Nat := 10000
/-- The interval of running checks, in ms (R49). -/
def checkMs : Nat := 1000
/-- Full duty, the duty of stage 4 (R41). -/
def fullDuty : Nat := 255
/-- Bit periods after which the bus is free (R61). -/
def busFreeBits : Nat := 16
/-- Places of the transmit queue (R84). -/
def queuePlaces : Nat := 8
/-- Places of the service request queue (R175). -/
def servicePlaces : Nat := 2
/-- Entries of the start-notice list (R95). -/
def noticePlaces : Nat := 16
/-- Entries of the arrival list (R117). -/
def arrivalPlaces : Nat := 16
/-- The stuck timer, in ms (R76). -/
def stuckMs : Nat := 20
/-- The stretch timer, in ms (R74). -/
def stretchMs : Nat := 2
/-- A late collision stays in its record for this long, in ms (R79). -/
def lateRecordMs : Nat := 60000
/-- Spacing of event reports, in ms (R88). -/
def spacingMs : Nat := 500
/-- Polls without an answer that put a bay in FAULT (R105). -/
def noAnswerLimit : Nat := 5
/-- A loop active for this long is stuck, in ms (R113). -/
def loopStuckMs : Nat := 300000
/-- The flash timer, in ms (R109). -/
def flashMs : Nat := 500
/-- The sign refresh timer, in ms (R139). -/
def refreshMs : Nat := 5000
/-- A sign record on the line, in ms (R139). -/
def signRecordMs : Nat := 4
/-- The ramp timer, in ms (R149). -/
def rampMs : Nat := 10
/-- The rise of a lamp level at one tick (R149). -/
def rise : Nat := 21
/-- A PWM period, in ms (R150). -/
def pwmMs : Nat := 1
/-- Counts of a PWM period (R150). -/
def pwmCounts : Nat := 1023
/-- An offer stops after this many hops (R131). -/
def hopLimit : Nat := 8
/-- Bytes of the store's image area (R164). -/
def imageBytes : Nat := 512
/-- The length of a ZS240 configuration image (R181). -/
def imageLength : Nat := 394

/-- FREE VALUE (log 6). Two frames of one class queued at the same moment may stand in either order (R84): the one
with the lower rank stands first, and nothing says which that is. -/
opaque tieRank : Nat → Nat

/-- FREE VALUE (log 7). Another party may have made a start condition on a bus this station saw free, before this
station's own (R61): at each moment, whether one has. -/
opaque othersStart : Nat → Bool

/-- FREE VALUE (log 13). The bytes that a lock write abandoned by a reset leaves in the lock record (R168). -/
opaque abandonedByte : Nat → Byte

end Sys2Proof.Config
end

