-- ==== Sys2Proof/Machine/State.lean ====
section
/-! DEFINITION. Everything the manual gives the station, as plain data, and the state right after a power-on reset. -/

namespace Sys2Proof.Machine

/-! ## Settings (the configuration image's fields, R181) -/

/-- Bit rates of the zone bus (R180). -/
inductive BitRate where
  | k10
  | k20
  | k40
  deriving DecidableEq, Repr

/-- Bay classes (06, 6.1). -/
inductive BayClass where
  | general
  | accessible
  deriving DecidableEq, Repr

/-- One thing for each of the two gases. -/
structure PerGas (α : Type) where
  co : α
  no2 : α
  deriving DecidableEq, Repr

/-- Settings of a head (01, 1.1). -/
structure HeadCfg where
  present : Bool
  zc : Nat
  span : Nat
  drift : Nat
  deriving DecidableEq, Repr

/-- Settings of a fan (03, 3.1). -/
structure FanCfg where
  present : Bool
  rated : Nat
  pulses : Nat
  deriving DecidableEq, Repr

/-- Settings of a neighbour place (05, 5.1). -/
structure NeighbourCfg where
  inUse : Bool
  unit : Nat
  port : Option (Fin 4)
  cost : Nat
  weight : Nat
  deriving DecidableEq, Repr

/-- Settings of a port (06, 6.1). -/
structure PortCfg where
  owned : Bool
  lamp : Option (Fin 8)
  deriving DecidableEq, Repr

/-- Settings of a bay (06, 6.1). -/
structure BayCfg where
  inUse : Bool
  cls : BayClass
  closed : Bool
  rank : Nat
  lamp : Option (Fin 8)
  deriving DecidableEq, Repr

/-- Settings of a lamp channel (09, 9.1). -/
structure LampCfg where
  background : Nat
  presence : Nat
  leadIn : Nat
  hold : Nat
  fade : Nat
  maskPresence : Bool
  maskLeadIn : Bool
  deriving DecidableEq, Repr

/-- Every configured setting, as the image gives it (R164, R181). Stages and duties are indexed 0 to 2 for the stages
1 to 3. -/
structure Settings where
  version : Nat
  heads : Tbl 4 HeadCfg
  tsTenths : Nat
  zeroHours : Nat
  shortLimit : PerGas Nat
  exposureLimit : PerGas Nat
  km : Nat
  kq : Nat
  fans : Tbl 4 FanCfg
  lead : List (Fin 4)
  count : Tbl 3 Nat
  duty : Tbl 3 Nat
  entry : Tbl 3 Nat
  exit : Tbl 3 Nat
  failSafe : Nat
  dwell : Nat
  rotationHours : Nat
  allowance : Nat
  window : Nat
  bitRate : BitRate
  unit : Nat
  lifetime : Nat
  divertOn : Nat
  divertOff : Nat
  alarmOn : Nat
  alarmOff : Nat
  alarmHold : Nat
  reportPeriod : Nat
  staleTime : Nat
  lostTime : Nat
  neighbours : Tbl 8 NeighbourCfg
  scanTenths : Nat
  confirm : Nat
  queueTime : Nat
  ports : Tbl 4 PortCfg
  bays : Tbl 48 BayCfg
  lamps : Tbl 8 LampCfg
  slots : Tbl 2 (Tbl 4 (Option (Fin 4)))
  deriving DecidableEq, Repr

/-- No configuration: what stands while no valid image is loaded (R166; log 21). -/
def Settings.blank : Settings where
  version := 0
  heads := Tbl.const 4 ⟨false, 0, 0, 0⟩
  tsTenths := 0
  zeroHours := 0
  shortLimit := ⟨0, 0⟩
  exposureLimit := ⟨0, 0⟩
  km := 0
  kq := 0
  fans := Tbl.const 4 ⟨false, 0, 0⟩
  lead := []
  count := Tbl.const 3 0
  duty := Tbl.const 3 0
  entry := Tbl.const 3 0
  exit := Tbl.const 3 0
  failSafe := 0
  dwell := 0
  rotationHours := 0
  allowance := 0
  window := 0
  bitRate := .k10
  unit := 0
  lifetime := 0
  divertOn := 0
  divertOff := 0
  alarmOn := 0
  alarmOff := 0
  alarmHold := 0
  reportPeriod := 0
  staleTime := 0
  lostTime := 0
  neighbours := Tbl.const 8 ⟨false, 0, none, 0, 0⟩
  scanTenths := 0
  confirm := 0
  queueTime := 0
  ports := Tbl.const 4 ⟨false, none⟩
  bays := Tbl.const 48 ⟨false, .general, false, 0, none⟩
  lamps := Tbl.const 8 ⟨0, 0, 0, 0, 0, false, false⟩
  slots := Tbl.const 2 (Tbl.const 4 none)

/-! ## Timers -/

/-- A timer: stopped, running with the milliseconds left, or standing expired where the manual lets a timer do so (the
dwell timer, R35; the settle timer, R10; the spin-up timer under a check hold, R48). -/
inductive Timer where
  | stopped
  | running (left : Nat)
  | expired
  deriving DecidableEq, Repr

/-! ## Gas front end (Chapter 1) -/

/-- Station mode (R165). -/
inductive Mode where
  | commission
  | operating
  deriving DecidableEq, Repr

/-- Head states (R1). -/
inductive HeadState where
  | absent
  | warming
  | active
  | zeroing
  | drift
  | openCircuit
  deriving DecidableEq, Repr

/-- A head's latest value in cu and its age in ms (R1). -/
structure Latest where
  value : Nat
  age : Nat
  deriving DecidableEq, Repr

/-- A head record (R1). The role is the index: CO-A, CO-B, NO2-A, NO2-B. -/
structure Head where
  state : HeadState
  latest : Option Latest
  zr : Nat
  backlog : Nat
  warmUp : Timer
  settle : Timer
  zeroInterval : Timer
  deriving DecidableEq, Repr

/-- What the measurement converter runs (R4, R6, R11), with the time left. -/
inductive Converter where
  | idle
  | sample (h : Fin 4) (left : Nat)
  /-- `guarded` is true in the first 20 ms, the protected part (R11). -/
  | zero (h : Fin 4) (guarded : Bool) (left : Nat)
  deriving DecidableEq, Repr

/-- Counter group GAS (R17). -/
structure GasCounters where
  zeroChecks : Nat
  zeroAborts : Nat
  zeroWithdrawn : Nat
  driftFaults : Nat
  openFaults : Nat
  deriving DecidableEq, Repr

/-- The gas front end: head records, the converter, and the head last granted (R5). -/
structure GasFront where
  heads : Tbl 4 Head
  converter : Converter
  pointer : Fin 4
  counters : GasCounters
  deriving DecidableEq, Repr

/-! ## Fume unit (Chapter 2) -/

/-- A sticky range flag (R19): whether it is set, and whether the report built last carried that setting. -/
structure RangeFlag where
  isSet : Bool
  carried : Bool
  deriving DecidableEq, Repr

/-- What the fume unit keeps for one gas (R19, R22 to R27). -/
structure GasFume where
  acc : Nat
  sum : Nat
  count : Nat
  ring : Tbl 15 (Option Nat)
  exposure : Option Nat
  skips : Nat
  valid : Bool
  shortScore : Nat
  exposureScore : Nat
  overRange : RangeFlag
  underRange : RangeFlag
  deriving DecidableEq, Repr

/-- Counter group FUME (R34). -/
structure FumeCounters where
  skippedUpdates : Nat
  gasInvalid : Nat
  absentBins : Nat
  overSamples : Nat
  underSamples : Nat
  deriving DecidableEq, Repr

/-- The fume unit. The rings are held oldest first. -/
structure Fume where
  gases : PerGas GasFume
  fs : Nat
  terms : Tbl 8 (Option Nat)
  es0 : Nat
  es : Nat
  movement : Tbl 6 Nat
  q : Nat
  update : Timer
  minute : Timer
  roll : Timer
  counters : FumeCounters
  deriving DecidableEq, Repr

/-! ## Fan controller (Chapter 3) -/

/-- Fan states (R39). -/
inductive FanState where
  | stopped
  | waitPermit
  | spinup
  | running
  | fault
  | locked
  deriving DecidableEq, Repr

/-- Fault causes of a fan (R39). -/
inductive FaultCause where
  | noStart
  | stall
  deriving DecidableEq, Repr

/-- A fan record (R39), with the timers of R48 and R49. -/
structure Fan where
  state : FanState
  duty : Nat
  speed : Option Nat
  failing : Nat
  cause : Option FaultCause
  handover : Bool
  hold : Timer
  spinUp : Timer
  check : Timer
  deriving DecidableEq, Repr

/-- A boost override (R56). -/
structure Boost where
  stage : Nat
  left : Nat
  deriving DecidableEq, Repr

/-- Counter group FAN (R58). -/
structure FanCounters where
  fanStarts : Nat
  localStarts : Nat
  noticeDeferred : Nat
  noticeDropped : Nat
  noStartFaults : Nat
  stallFaults : Nat
  rotations : Nat
  lockedFans : Nat
  boostsEnded : Nat
  deriving DecidableEq, Repr

/-- The fan controller. `incoming` is the fan that entered the wanted set in the place of the outgoing (marked) fan of
the handover in progress (R53). -/
structure FanCtl where
  fans : Tbl 4 Fan
  lead : List (Fin 4)
  stage : Nat
  dwell : Timer
  rotationLeft : Nat
  spacing : Timer
  release : Option (Fin 4)
  boost : Option Boost
  incoming : Option (Fin 4)
  fanShort : Bool
  noVent : Bool
  counters : FanCounters
  deriving DecidableEq, Repr

/-! ## Zone bus link, queues and peers (Chapters 4 and 5) -/

/-- Link states (04, 4.9). -/
inductive LinkState where
  | off
  | joining
  | active
  | isolated
  | silent
  deriving DecidableEq, Repr

/-- Directions of a TRANSIT NOTICE (R179). -/
inductive Direction where
  | into
  | outOf
  deriving DecidableEq, Repr

/-- Result codes of a SERVICE REPLY (R179). -/
inductive ResultCode where
  | done
  | badIndex
  | busy
  | wrongMode
  | notFaulted
  | badConfig
  | storeError
  deriving DecidableEq, Repr

/-- A SERVICE REPLY: the request kind, the result and the reply data (R175). -/
structure Reply where
  kind : Byte
  result : ResultCode
  data : List Byte
  deriving DecidableEq, Repr

/-- What a frame of this station is, with the fields fixed when it is queued. The fields of a ZONE REPORT, a START
NOTICE's W and every class are taken when the frame enters arbitration (R63, R83). -/
inductive Payload where
  | report
  | startNotice (fan : Fin 4)
  | transit (target : Nat) (direction : Direction) (port : Fin 4)
  | reply (r : Reply)
  deriving DecidableEq, Repr

/-- A frame in the transmit queue (R84). `unheard` holds while every failed attempt was unheard (R72); `queuedAt` is the
moment it entered the queue; `draw` names the free value that settles a tie (log 6). -/
structure Frame where
  payload : Payload
  attempt : Nat
  unheard : Bool
  queuedAt : Nat
  draw : Nat
  inFlight : Bool
  deriving DecidableEq, Repr

/-- Counter group LINK (R82). -/
structure LinkCounters where
  framesDelivered : Nat
  framesTaken : Nat
  arbLost : Nat
  voidedAttempts : Nat
  unheardAttempts : Nat
  framesDropped : Nat
  lateCollisions : Nat
  checkErrors : Nat
  brokenFrames : Nat
  stuckLine : Nat
  stretches : Nat
  serviceOverruns : Nat
  unitClash : Nat
  isolations : Nat
  deriving DecidableEq, Repr

/-- Counter group PEER (R99). -/
structure PeerCounters where
  reportsQueued : Nat
  reportsFolded : Nat
  queueDisplaced : Nat
  queueRefused : Nat
  transitsSent : Nat
  transitsLost : Nat
  transitsTaken : Nat
  reportsTaken : Nat
  reportsIgnored : Nat
  neighboursLost : Nat
  noticesHeard : Nat
  noticesOverflow : Nat
  deriving DecidableEq, Repr

/-- The link with its transmit queue and its report machinery (Chapters 4 and 5). `wire` holds the bytes built for the
attempt in flight; `stuck` is the stuck timer (R76), stopped at zero while no line is low. -/
structure Link where
  state : LinkState
  queue : List Frame
  wire : List Byte
  busFreeCount : Nat
  stretch : Timer
  join : Timer
  stuck : Timer
  stuckSpell : Bool
  unheardDrops : Nat
  lateRecord : Option Nat
  report : Timer
  spacing : Timer
  eventPending : Bool
  refreshMark : Bool
  counters : LinkCounters
  peer : PeerCounters
  deriving DecidableEq, Repr

/-- A SERVICE REQUEST without its target (R179). -/
structure Request where
  kind : Byte
  argument : Byte
  data : List Byte
  deriving DecidableEq, Repr

/-- The request being served and its reply (R175). -/
structure Current where
  request : Request
  reply : Reply
  deriving DecidableEq, Repr

/-- The service request queue and the service responder (R175, R178). -/
structure Service where
  queue : List Request
  current : Option Current
  restartPending : Bool
  deriving DecidableEq, Repr

/-- An entry of the start-notice list (R95), with the time left of its window. -/
structure Notice where
  unit : Nat
  fan : Nat
  heard : Nat
  window : Nat
  left : Nat
  deriving DecidableEq, Repr

/-- What the frames of the bus move together: the fan controller, the link, the responder, the start-notice list. -/
structure Comms where
  fan : FanCtl
  link : Link
  service : Service
  notices : List Notice
  draws : Nat
  deriving DecidableEq, Repr

/-- The fields of a ZONE REPORT as received (R83, R92). -/
structure Report where
  zoneState : Nat
  fs : Nat
  stage : Nat
  conditions : BitVec 16
  freeGeneral : Nat
  freeAccessible : Nat
  value : Nat
  free : Nat
  hops : Nat
  origin : Nat
  nextHop : Nat
  deriving DecidableEq, Repr

/-- Freshness of a neighbour entry (R91). -/
inductive Freshness where
  | fresh
  | stale
  | lost
  deriving DecidableEq, Repr

/-- The contents of a neighbour entry: the report and the time it was taken (R91). -/
structure Contents where
  report : Report
  taken : Nat
  deriving DecidableEq, Repr

/-- A neighbour entry (R91). Its configured part is in the settings. -/
structure Neighbour where
  contents : Option Contents
  fresh : Freshness
  stale : Timer
  lost : Timer
  deriving DecidableEq, Repr

/-! ## Bays and lanes (Chapter 6) -/

/-- Bay states (R101). `unused` marks a record whose bay is not in use (log 22). -/
inductive BayState where
  | unused
  | unknown
  | free
  | held
  | occupied
  | closed
  | fault
  deriving DecidableEq, Repr

/-- Indicator states (R108). -/
inductive Indicator where
  | dark
  | green
  | blue
  | flashing
  | red
  deriving DecidableEq, Repr

/-- A colour sent to an indicator (R109). -/
inductive Colour where
  | dark
  | green
  | blue
  | red
  deriving DecidableEq, Repr

/-- A bay record (R101), and the indicator command last sent to the bay (R109). -/
structure Bay where
  state : BayState
  candidate : Option Reading
  agreeing : Nat
  noAnswer : Nat
  indicator : Indicator
  shown : Colour
  deriving DecidableEq, Repr

/-- Lane states (R110). -/
inductive LaneState where
  | clear
  | firstA
  | firstB
  | spanA
  | spanB
  | tailA
  | tailB
  | fault
  deriving DecidableEq, Repr

/-- A lane record (R110). -/
structure Lane where
  loops : Loops
  state : LaneState
  presence : Timer
  queue : Bool
  stuckA : Timer
  stuckB : Timer
  deriving DecidableEq, Repr

/-- Counter group BAY (R116). -/
structure BayCounters where
  bayConfirms : Nat
  noAnswers : Nat
  bayFaults : Nat
  holdsGranted : Nat
  holdsRefused : Nat
  passagesIn : Nat
  passagesOut : Nat
  passagesAborted : Nat
  queuesSet : Nat
  laneFaults : Nat
  deriving DecidableEq, Repr

/-- The bay scanner. `polls` holds the bays the present scan has still to poll, in index order (R102). -/
structure Scanner where
  bays : Tbl 48 Bay
  lanes : Tbl 4 Lane
  scan : Timer
  polls : List (Fin 48)
  flash : Timer
  flashOn : Bool
  counters : BayCounters
  deriving DecidableEq, Repr

/-! ## Arrivals (Chapter 7) -/

/-- The source of an arrival (R117). -/
inductive Source where
  | port (p : Fin 4)
  | transit (unit : Nat)
  deriving DecidableEq, Repr

/-- An arrival entry (R117). -/
structure Arrival where
  recordedAt : Nat
  source : Source
  expiresAt : Nat
  bay : Option (Fin 48)
  deriving DecidableEq, Repr

/-- Counter group ARRIVAL (R129). -/
structure ArrivalCounters where
  added : Nat
  evicted : Nat
  matched : Nat
  assumed : Nat
  passed : Nat
  lost : Nat
  cleared : Nat
  holdsLost : Nat
  deriving DecidableEq, Repr

/-- The arrival tracker: the list, oldest first, and the lead-in demands (R117, R127). -/
structure Tracker where
  list : List Arrival
  leadIn : Tbl 8 Bool
  counters : ArrivalCounters
  deriving DecidableEq, Repr

/-! ## Guidance (Chapter 8) -/

/-- An offer (08, the five fields). -/
structure Offer where
  value : Nat
  free : Nat
  hops : Nat
  origin : Nat
  nextHop : Option Nat
  deriving DecidableEq, Repr

/-- The content of a sign slot (R137). -/
inductive Slot where
  | dark
  | closed
  | full
  | arrow (count : Nat) (emphasised : Bool)
  deriving DecidableEq, Repr

/-- A sign's legend (R138). -/
inductive Legend where
  | counts (general accessible : Nat)
  | closed
  deriving DecidableEq, Repr

/-- A sign: its slots, its legend and its send mark (R137 to R139). -/
structure Sign where
  slots : Tbl 4 Slot
  legend : Legend
  mark : Bool
  deriving DecidableEq, Repr

/-- Counter group GUIDE (R142). -/
structure GuideCounters where
  originRefused : Nat
  splitHorizon : Nat
  hopLimit : Nat
  advertChanges : Nat
  signRecords : Nat
  deriving DecidableEq, Repr

/-- A sign record on the line (R139): the sign, the 13 bytes, the time left. -/
structure OnLine where
  sign : Fin 2
  bytes : List Byte
  left : Nat
  deriving DecidableEq, Repr

/-- The guidance unit. `bestPort` is the port of the best offer where that is a candidate. -/
structure Guide where
  own : Offer
  candidates : Tbl 4 (Option Offer)
  best : Offer
  bestPort : Option (Fin 4)
  advGeneral : Nat
  advAccessible : Nat
  advOffer : Offer
  emphasised : Option (Fin 4)
  signs : Tbl 2 Sign
  refresh : Timer
  line : Option OnLine
  lastSign : Fin 2
  counters : GuideCounters
  deriving DecidableEq, Repr

/-! ## Lamps (Chapter 9) -/

/-- A channel's presence timer (R143). -/
inductive PresenceTimer where
  | stopped
  | held
  | counting (left : Nat)
  deriving DecidableEq, Repr

/-- The PWM window of a period: its first count and its width in counts (R150). -/
structure Window where
  first : Nat
  width : Nat
  deriving DecidableEq, Repr

/-- A lamp channel record (R143), and the window drawn for the present PWM period (R151). -/
structure Channel where
  level : Nat
  target : Nat
  lanes : Nat
  presence : PresenceTimer
  leadIn : Bool
  window : Window
  deriving DecidableEq, Repr

/-- Counter group LAMP (R154). -/
structure LampCounters where
  presenceEvents : Nat
  holdExpiries : Nat
  leadinSets : Nat
  forcedFull : Nat
  deriving DecidableEq, Repr

/-- The lamp controller: the channels, the ramp timer and the PWM period that runs (R149, R151). -/
structure Lamps where
  channels : Tbl 8 Channel
  ramp : Timer
  pwm : Timer
  counters : LampCounters
  deriving DecidableEq, Repr

/-! ## Zone state (Chapter 10) -/

/-- Zone states (R155). -/
inductive ZoneState where
  | normal
  | divert
  | alarm
  | purge
  deriving DecidableEq, Repr

/-- Counter group ZONE (R163). -/
structure ZoneCounters where
  stateChanges : Nat
  divertEntries : Nat
  alarmEntries : Nat
  purgeEntries : Nat
  deriving DecidableEq, Repr

/-- The zone state controller (R155). -/
structure ZoneCtl where
  state : ZoneState
  hold : Timer
  scoreCause : Bool
  gasCause : PerGas Bool
  ventCause : Bool
  purgeIn : Bool
  fsLast : Nat
  counters : ZoneCounters
  deriving DecidableEq, Repr

/-! ## Store (Chapter 11) -/

/-- The store's status (R168): READY, or BUSY with the write that runs. `committed` is BUSY after a commit write that
read back right, until the restart it causes (R172; log 14). -/
inductive StoreStatus where
  | ready
  | lockWrite (written : LockRecord)
  | commitWrite
  | committed
  deriving DecidableEq, Repr

/-- Counter group STORE (R174). -/
structure StoreCounters where
  lockWrites : Nat
  writeFailures : Nat
  configRefused : Nat
  deriving DecidableEq, Repr

/-- The configuration store. `storedBad` marks a stored image that a failed or abandoned commit write left not valid,
whatever its bytes hold (R172). -/
structure Store where
  stored : Image
  storedBad : Bool
  lockRecord : LockRecord
  staging : Image
  loaded : Image
  status : StoreStatus
  writeError : Bool
  counters : StoreCounters
  deriving DecidableEq, Repr

/-! ## The station -/

/-- Why a step stops the machine with a fault. No command of this block does: its faults are states of its heads, fans,
bays, lanes and store, and every command answers a next state. So nothing raises one (safe). -/
inductive Fault where
  deriving DecidableEq, Repr

/-- Why a command has no meaning here. -/
inductive Refusal where
  /-- Raised by exec's arm for a command that has no meaning yet, naming it; no arm does. Safe: the machine stops. -/
  | notModelled (mnemonic : String)
  deriving DecidableEq, Repr

/-- The whole station, and the queue of commands that wait. -/
structure State where
  mode : Mode
  settings : Settings
  now : Nat
  moment : Nat
  gas : GasFront
  fume : Fume
  comms : Comms
  peers : Tbl 8 Neighbour
  scanner : Scanner
  tracker : Tracker
  guide : Guide
  lamps : Lamps
  zone : ZoneCtl
  store : Store
  pending : List Instr
  deriving DecidableEq, Repr

/-! ## Values after a reset -/

/-- A head in COMMISSION, or configured absent (R2). -/
def Head.absent : Head := ⟨.absent, none, 0, 0, .stopped, .stopped, .stopped⟩

/-- The gas front end after a reset, before any head starts (R2): CO-A is the first head served. -/
def GasFront.reset : GasFront := ⟨Tbl.const 4 Head.absent, .idle, 3, ⟨0, 0, 0, 0, 0⟩⟩

/-- One gas of the fume unit after a reset (R33). -/
def GasFume.reset : GasFume where
  acc := 0
  sum := 0
  count := 0
  ring := Tbl.const 15 none
  exposure := none
  skips := 0
  valid := false
  shortScore := 0
  exposureScore := 0
  overRange := ⟨false, false⟩
  underRange := ⟨false, false⟩

/-- The fume unit after a reset (R33). -/
def Fume.reset : Fume where
  gases := ⟨GasFume.reset, GasFume.reset⟩
  fs := 0
  terms := Tbl.const 8 none
  es0 := 0
  es := 0
  movement := Tbl.const 6 0
  q := 0
  update := .stopped
  minute := .stopped
  roll := .stopped
  counters := ⟨0, 0, 0, 0, 0⟩

/-- A stopped fan (R57). -/
def Fan.stopped : Fan := ⟨.stopped, 0, none, 0, none, false, .stopped, .stopped, .stopped⟩

/-- The fan controller after a reset, with no configuration (R57). -/
def FanCtl.reset : FanCtl where
  fans := Tbl.const 4 Fan.stopped
  lead := []
  stage := 0
  dwell := .stopped
  rotationLeft := 0
  spacing := .stopped
  release := none
  boost := none
  incoming := none
  fanShort := false
  noVent := false
  counters := ⟨0, 0, 0, 0, 0, 0, 0, 0, 0⟩

/-- The link after a reset (R77, R98). -/
def Link.reset : Link where
  state := .off
  queue := []
  wire := []
  busFreeCount := 0
  stretch := .stopped
  join := .stopped
  stuck := .stopped
  stuckSpell := false
  unheardDrops := 0
  lateRecord := none
  report := .stopped
  spacing := .stopped
  eventPending := false
  refreshMark := false
  counters := ⟨0, 0, 0, 0, 0, 0, 0, 0, 0, 0, 0, 0, 0, 0⟩
  peer := ⟨0, 0, 0, 0, 0, 0, 0, 0, 0, 0, 0, 0⟩

/-- The bus side after a reset: the responder idle, the lists empty (R98, R175). -/
def Comms.reset : Comms := ⟨FanCtl.reset, Link.reset, ⟨[], none, false⟩, [], 0⟩

/-- A neighbour entry after a reset (R98). -/
def Neighbour.reset : Neighbour := ⟨none, .lost, .stopped, .stopped⟩

/-- A bay record that is not in use (R101, R102). -/
def Bay.unused : Bay := ⟨.unused, none, 0, 0, .dark, .dark⟩

/-- A lane record that is not in use: CLEAR, its timers stopped (R110), its loops, which are not read, held inactive
(log 37). -/
def Lane.unused : Lane := ⟨⟨false, false⟩, .clear, .stopped, false, .stopped, .stopped⟩

/-- The bay scanner after a reset, nothing in use (R102, R110). The flash phase stands on before the entry to OPERATING
sets it so (log 36). -/
def Scanner.reset : Scanner where
  bays := Tbl.const 48 Bay.unused
  lanes := Tbl.const 4 Lane.unused
  scan := .stopped
  polls := []
  flash := .stopped
  flashOn := true
  counters := ⟨0, 0, 0, 0, 0, 0, 0, 0, 0, 0⟩

/-- The arrival tracker after a reset (R128). -/
def Tracker.reset : Tracker := ⟨[], Tbl.const 8 false, ⟨0, 0, 0, 0, 0, 0, 0, 0⟩⟩

/-- The own offer of a zone with no free bay, which is also what a zone outside NORMAL advertises (R134, R141). -/
def Offer.zero (unit : Nat) : Offer := ⟨0, 0, 0, unit, none⟩

/-- The contents of a sign after a reset (R140). -/
def Sign.reset : Sign := ⟨Tbl.const 4 .dark, .counts 0 0, false⟩

/-- The guidance unit after a reset (R140, R141), for a station with this unit. -/
def Guide.reset (unit : Nat) : Guide where
  own := Offer.zero unit
  candidates := Tbl.const 4 none
  best := Offer.zero unit
  bestPort := none
  advGeneral := 0
  advAccessible := 0
  advOffer := Offer.zero unit
  emphasised := none
  signs := Tbl.const 2 Sign.reset
  refresh := .stopped
  line := none
  lastSign := 1
  counters := ⟨0, 0, 0, 0, 0⟩

/-- A lamp channel after a reset (R152), with its target. -/
def Channel.reset (target : Nat) : Channel := ⟨0, target, 0, .stopped, false, ⟨0, 0⟩⟩

/-- The zone state controller after a reset (R162). -/
def ZoneCtl.reset : ZoneCtl := ⟨.normal, .stopped, false, ⟨false, false⟩, false, false, 0, ⟨0, 0, 0, 0⟩⟩

/-- A store that has never been written: every byte holds the erased value 0xFF (R181, R167; log 5), and the staging
buffer is 0, as no valid image stands (R166). -/
def Store.erased : Store where
  stored := Tbl.const 512 0xFF
  storedBad := false
  lockRecord := Tbl.const 5 0xFF
  staging := Tbl.const 512 0
  loaded := Tbl.const 512 0
  status := .ready
  writeError := false
  counters := ⟨0, 0, 0⟩

/-- The station right after a power-on reset with an erased store (log 5): no valid image stands, so the start enters
COMMISSION (R165). The entry to the mode has started the refresh timer with both marks set, and the record of sign 0 is
on the line and counted (R139, R142). -/
def State.reset : State where
  mode := .commission
  settings := Settings.blank
  now := 0
  moment := 0
  gas := GasFront.reset
  fume := Fume.reset
  comms := Comms.reset
  peers := Tbl.const 8 Neighbour.reset
  scanner := Scanner.reset
  tracker := Tracker.reset
  guide := { Guide.reset 0 with
    signs := (Tbl.const 2 { Sign.reset with mark := true }).set 0 Sign.reset
    refresh := .running 5000
    line := some ⟨0, [0, 0, 0, 0, 0, 0, 0, 0, 0, 0, 0, 0, 0x39], 4⟩
    lastSign := 0
    counters := ⟨0, 0, 0, 0, 1⟩ }
  lamps := ⟨Tbl.const 8 (Channel.reset 1023), .running 10, .running 1, ⟨0, 0, 0, 0⟩⟩
  zone := ZoneCtl.reset
  store := Store.erased
  pending := []

end Sys2Proof.Machine
end

