-- ==== Sys2Proof/Machine/Bytes.lean ====
section
/-! DEFINITION. Check bytes, byte order, and the configuration image: its fields, its validity, its tests. -/

namespace Sys2Proof.Machine

/-! ## Checks (R65, R164) -/

/-- One bit into the CRC-8 of R65. -/
def crc8Bit (r : BitVec 8) (bit : Bool) : BitVec 8 :=
  if xor r.msb bit then (r <<< 1) ^^^ 0x31#8 else r <<< 1

/-- One bit into the CRC-16 of R164. -/
def crc16Bit (r : BitVec 16) (bit : Bool) : BitVec 16 :=
  if xor r.msb bit then (r <<< 1) ^^^ 0x1021#16 else r <<< 1

/-- The bits of a byte, most significant first (R59). -/
def bitsOf (x : Byte) : List Bool :=
  [x.getLsbD 7, x.getLsbD 6, x.getLsbD 5, x.getLsbD 4, x.getLsbD 3, x.getLsbD 2, x.getLsbD 1, x.getLsbD 0]

/-- The frame check: register 0xFF at the start, no inversion at the end (R65). -/
def crc8 (l : List Byte) : Byte := l.foldl (fun r x => (bitsOf x).foldl crc8Bit r) 0xFF#8

/-- The image check: register 0xFFFF at the start, no inversion at the end (R164). -/
def crc16 (l : List Byte) : BitVec 16 := l.foldl (fun r x => (bitsOf x).foldl crc16Bit r) 0xFFFF#16

/-- The byte of a number below 256. -/
def byte (n : Nat) : Byte := BitVec.ofNat 8 n

/-- A field of two bytes, most significant byte first (13, opening). -/
def word16 (n : Nat) : List Byte := [byte (n / 256), byte n]

/-! ## Fields of an image (R181) -/

/-- The byte at an offset of a list of bytes. -/
def byteAt (l : List Byte) (o : Nat) : Nat := (l.getD o 0).toNat

/-- The two-byte field at an offset. -/
def wordAt (l : List Byte) (o : Nat) : Nat := 256 * byteAt l o + byteAt l (o + 1)

/-- A present, in use or owned byte (R181). -/
def flagAt (l : List Byte) (o : Nat) : Bool := byteAt l o == 1

/-- A port, fan index or channel byte below `n`; 255 is none (R180). -/
def indexAt (n : Nat) (l : List Byte) (o : Nat) : Option (Fin n) :=
  if h : byteAt l o < n then some ⟨byteAt l o, h⟩ else none

def headCfgAt (l : List Byte) (o : Nat) : HeadCfg :=
  ⟨flagAt l o, wordAt l (o + 1), wordAt l (o + 3), wordAt l (o + 5)⟩

def fanCfgAt (l : List Byte) (o : Nat) : FanCfg := ⟨flagAt l o, wordAt l (o + 1), byteAt l (o + 3)⟩

def neighbourCfgAt (l : List Byte) (o : Nat) : NeighbourCfg :=
  ⟨flagAt l o, byteAt l (o + 1), indexAt 4 l (o + 2), byteAt l (o + 3), byteAt l (o + 4)⟩

def portCfgAt (l : List Byte) (o : Nat) : PortCfg := ⟨flagAt l o, indexAt 8 l (o + 1)⟩

def bayCfgAt (l : List Byte) (o : Nat) : BayCfg :=
  ⟨(l.getD o 0).getLsbD 0, if (l.getD o 0).getLsbD 1 then .accessible else .general, (l.getD o 0).getLsbD 2,
    byteAt l (o + 1), indexAt 8 l (o + 2)⟩

def lampCfgAt (l : List Byte) (o : Nat) : LampCfg :=
  ⟨wordAt l o, wordAt l (o + 2), wordAt l (o + 4), wordAt l (o + 6), byteAt l (o + 8),
    (l.getD (o + 9) 0).getLsbD 0, (l.getD (o + 9) 0).getLsbD 1⟩

/-- A bit rate (R180). A byte that names none, 3 to 255, reads as 10 kbit/s; no commit stores one (log 24). -/
def bitRateAt (l : List Byte) (o : Nat) : BitRate :=
  if byteAt l o = 1 then .k20 else if byteAt l o = 2 then .k40 else .k10

/-- The configured settings an image gives (R181's offsets). -/
def settingsOf (im : Image) : Settings :=
  let l := im.cells
  { version := wordAt l 4
    heads := Tbl.ofFn fun i => headCfgAt l (8 + 7 * i)
    tsTenths := byteAt l 36
    zeroHours := byteAt l 37
    shortLimit := ⟨wordAt l 38, wordAt l 40⟩
    exposureLimit := ⟨wordAt l 42, wordAt l 44⟩
    km := byteAt l 46
    kq := byteAt l 47
    fans := Tbl.ofFn fun i => fanCfgAt l (48 + 4 * i)
    lead := [64, 65, 66, 67].filterMap (indexAt 4 l)
    count := Tbl.ofFn fun i => byteAt l (68 + i)
    duty := Tbl.ofFn fun i => byteAt l (71 + i)
    entry := Tbl.ofFn fun i => wordAt l (74 + 2 * i)
    exit := Tbl.ofFn fun i => wordAt l (80 + 2 * i)
    failSafe := byteAt l 86
    dwell := wordAt l 87
    rotationHours := byteAt l 89
    allowance := byteAt l 90
    window := byteAt l 91
    bitRate := bitRateAt l 92
    unit := byteAt l 93
    lifetime := wordAt l 94
    divertOn := wordAt l 96
    divertOff := wordAt l 98
    alarmOn := wordAt l 100
    alarmOff := wordAt l 102
    alarmHold := wordAt l 104
    reportPeriod := byteAt l 106
    staleTime := byteAt l 107
    lostTime := byteAt l 108
    neighbours := Tbl.ofFn fun i => neighbourCfgAt l (109 + 5 * i)
    scanTenths := byteAt l 149
    confirm := byteAt l 150
    queueTime := byteAt l 151
    ports := Tbl.ofFn fun i => portCfgAt l (152 + 2 * i)
    bays := Tbl.ofFn fun i => bayCfgAt l (160 + 3 * i)
    lamps := Tbl.ofFn fun i => lampCfgAt l (304 + 10 * i)
    slots := Tbl.ofFn fun i => Tbl.ofFn fun j => indexAt 4 l (384 + 4 * i + j) }

/-- The marker Z, S, C, G (R164). -/
def marker : List Byte := [0x5A, 0x53, 0x43, 0x47]

/-- The marker reads Z, S, C and G. -/
def markerOk (im : Image) : Bool := im.cells.take 4 == marker

/-- The length field holds the ZS240 image length. -/
def lengthOk (im : Image) : Bool := wordAt im.cells 6 == Config.imageLength

/-- The check agrees with the bytes from the marker to the last field (R164). -/
def checkOk (im : Image) : Bool := wordAt im.cells 392 == (crc16 (im.cells.take 392)).toNat

/-- A valid image: marker, length and check; ranges and constraints are not tested (R164). -/
def imageValid (im : Image) : Bool := markerOk im && lengthOk im && checkOk im

/-! ## The tests of a staged image (R171) -/

/-- A test of one field or of one constraint: it holds, or the offset that is reported. -/
structure FieldTest where
  offset : Nat
  ok : Bool
  deriving DecidableEq, Repr

/-- The byte at `o` lies from `lo` to `hi`. -/
def byteTest (l : List Byte) (o lo hi : Nat) : FieldTest := ⟨o, decide (lo ≤ byteAt l o ∧ byteAt l o ≤ hi)⟩

/-- The two-byte field at `o` lies from `lo` to `hi`. -/
def wordTest (l : List Byte) (o lo hi : Nat) : FieldTest := ⟨o, decide (lo ≤ wordAt l o ∧ wordAt l o ≤ hi)⟩

/-- The byte at `o` is below `n`, or 255 for none (R180). -/
def indexTest (n : Nat) (l : List Byte) (o : Nat) : FieldTest := ⟨o, decide (byteAt l o < n) || byteAt l o == 255⟩

/-- A yes or no byte, and the further fields where it says yes: those of an absent or unused thing are not tested
(R181). -/
def groupTest (l : List Byte) (o : Nat) (rest : List FieldTest) : List FieldTest :=
  byteTest l o 0 1 :: if flagAt l o then rest else []

def headTests (l : List Byte) (o : Nat) : List FieldTest :=
  groupTest l o [wordTest l (o + 1) 0 4095, wordTest l (o + 3) 1 1023, wordTest l (o + 5) 1 400]

def fanTests (l : List Byte) (o : Nat) : List FieldTest :=
  groupTest l o [wordTest l (o + 1) 300 6000, byteTest l (o + 3) 1 8]

def neighbourTests (l : List Byte) (o : Nat) : List FieldTest :=
  groupTest l o [byteTest l (o + 1) 1 62, indexTest 4 l (o + 2), byteTest l (o + 3) 1 255, byteTest l (o + 4) 0 8]

def portTests (l : List Byte) (o : Nat) : List FieldTest := [byteTest l o 0 1, indexTest 8 l (o + 1)]

/-- A bay's flags byte holds bits 0 to 2 alone; rank and channel are tested where the bay is in use. -/
def bayTests (l : List Byte) (o : Nat) : List FieldTest :=
  byteTest l o 0 7 ::
    if (bayCfgAt l o).inUse then [byteTest l (o + 1) 1 48, indexTest 8 l (o + 2)] else []

def lampTests (l : List Byte) (o : Nat) : List FieldTest :=
  [wordTest l o 0 1023, wordTest l (o + 2) 0 1023, wordTest l (o + 4) 0 1023, wordTest l (o + 6) 10 600,
    byteTest l (o + 8) 2 60, byteTest l (o + 9) 0 3]

/-- The lead order as one field at offset 64: every byte a fan index or 255, with no gap (R181; log 16). -/
def leadTest (l : List Byte) : FieldTest :=
  let bs := [64, 65, 66, 67].map (byteAt l)
  ⟨64, bs.all (fun b => decide (b < 4) || b == 255) && (bs.dropWhile (· != 255)).all (· == 255)⟩

/-- Step 4: each field within its range, in order of offset. -/
def rangeTests (l : List Byte) : List FieldTest :=
  (List.range 4).flatMap (fun i => headTests l (8 + 7 * i)) ++
  [byteTest l 36 5 20, byteTest l 37 1 24,
    wordTest l 38 1 Config.fullScaleCo, wordTest l 40 1 Config.fullScaleNo2,
    wordTest l 42 1 Config.fullScaleCo, wordTest l 44 1 Config.fullScaleNo2,
    byteTest l 46 0 15, byteTest l 47 0 63] ++
  (List.range 4).flatMap (fun i => fanTests l (48 + 4 * i)) ++
  [leadTest l] ++
  (List.range 3).map (fun i => byteTest l (68 + i) 1 4) ++
  (List.range 3).map (fun i => byteTest l (71 + i) 1 255) ++
  (List.range 6).map (fun i => wordTest l (74 + 2 * i) 0 1023) ++
  [byteTest l 86 1 3, wordTest l 87 30 900, byteTest l 89 1 72, byteTest l 90 1 4, byteTest l 91 2 30,
    byteTest l 92 0 2, byteTest l 93 1 62, wordTest l 94 30 600] ++
  (List.range 4).map (fun i => wordTest l (96 + 2 * i) 0 1023) ++
  [wordTest l 104 10 600, byteTest l 106 2 10, byteTest l 107 6 60, byteTest l 108 15 120] ++
  (List.range 8).flatMap (fun i => neighbourTests l (109 + 5 * i)) ++
  [byteTest l 149 5 20, byteTest l 150 2 8, byteTest l 151 5 60] ++
  (List.range 4).flatMap (fun i => portTests l (152 + 2 * i)) ++
  (List.range 48).flatMap (fun i => bayTests l (160 + 3 * i)) ++
  (List.range 8).flatMap (fun i => lampTests l (304 + 10 * i)) ++
  (List.range 8).map (fun i => indexTest 4 l (384 + i))

/-- The pairs of earlier and later places below `n`. -/
def pairsBelow (n : Nat) : List (Nat × Nat) :=
  (List.range n).flatMap fun j => (List.range j).map fun i => (i, j)

/-- The lead order names each present fan once and no absent fan. -/
def leadNamesPresent (cfg : Settings) : Bool :=
  cfg.lead.Nodup && (List.finRange 4).all (fun i => decide (i ∈ cfg.lead) == (cfg.fans.get i).present)

/-- Step 5: the constraints between fields, each with the offset of the field that stands later (R171; log 16). -/
def constraintTests (l : List Byte) (cfg : Settings) : List FieldTest :=
  (List.range 3).map (fun k => ⟨80 + 2 * k, decide (wordAt l (80 + 2 * k) < wordAt l (74 + 2 * k))⟩) ++
  [⟨76, decide (wordAt l 74 < wordAt l 76)⟩, ⟨78, decide (wordAt l 76 < wordAt l 78)⟩,
    ⟨98, decide (cfg.divertOff < cfg.divertOn)⟩, ⟨102, decide (cfg.alarmOff < cfg.alarmOn)⟩,
    ⟨108, decide (cfg.staleTime < cfg.lostTime)⟩] ++
  (List.range 8).map (fun i =>
    ⟨109 + 5 * i + 1, !(flagAt l (109 + 5 * i) && byteAt l (109 + 5 * i + 1) == cfg.unit)⟩) ++
  (pairsBelow 8).map (fun (i, j) =>
    ⟨109 + 5 * j + 1, !(flagAt l (109 + 5 * i) && flagAt l (109 + 5 * j) &&
      byteAt l (109 + 5 * i + 1) == byteAt l (109 + 5 * j + 1))⟩) ++
  (pairsBelow 8).map (fun (i, j) =>
    ⟨109 + 5 * j + 2, !(flagAt l (109 + 5 * i) && flagAt l (109 + 5 * j) &&
      decide (byteAt l (109 + 5 * i + 2) < 4) && byteAt l (109 + 5 * i + 2) == byteAt l (109 + 5 * j + 2))⟩) ++
  (pairsBelow 48).map (fun (i, j) =>
    ⟨160 + 3 * j + 1, !((bayCfgAt l (160 + 3 * i)).inUse && (bayCfgAt l (160 + 3 * j)).inUse &&
      byteAt l (160 + 3 * i + 1) == byteAt l (160 + 3 * j + 1))⟩) ++
  [⟨64, leadNamesPresent cfg⟩]

/-- The first failing offset of a staged image, or none when every test holds (R171). -/
def firstFailure (im : Image) : Option Nat :=
  if !markerOk im then some 0
  else if !lengthOk im then some 6
  else if !checkOk im then some 392
  else ((rangeTests im.cells ++ constraintTests im.cells (settingsOf im)).find? (fun t => !t.ok)).map (·.offset)

/-! ## The lock record (R181) -/

/-- The lock byte of a fan. -/
def lockByte (locked : Bool) : Byte := if locked then 0xA5 else 0x5A

/-- The lock record of four lock states: the lock bytes, fan 0 first, and their check. -/
def lockRecordOf (locked : Fin 4 → Bool) : LockRecord :=
  let bs := (List.finRange 4).map fun i => lockByte (locked i)
  ⟨bs ++ [crc8 bs], by simp [bs]⟩

/-- A record that was never written: five erased bytes (R167). -/
def lockRecordErased (r : LockRecord) : Bool := r.cells.all (· == 0xFF)

/-- The lock byte of a fan in the record (R181). -/
def lockByteAt (r : LockRecord) (i : Fin 4) : Byte := r.get (i.castLE (by decide))

/-- A bad record: its check does not agree with its four lock bytes, or the lock byte of a fan configured present holds
neither 0x5A nor 0xA5; the byte of an absent fan is ignored (R167). -/
def lockRecordBad (fans : Tbl 4 FanCfg) (r : LockRecord) : Bool :=
  !lockRecordErased r &&
    (r.get 4 != crc8 (r.cells.take 4) ||
      (List.finRange 4).any fun i => (fans.get i).present && lockByteAt r i != 0x5A && lockByteAt r i != 0xA5)

/-- The fan reads as locked; a bad or unwritten record reads as all unlocked (R167). -/
def lockRead (fans : Tbl 4 FanCfg) (r : LockRecord) (i : Fin 4) : Bool :=
  !lockRecordErased r && !lockRecordBad fans r && lockByteAt r i == 0xA5

/-! ## Frames (R63, R179) -/

/-- A frame's bytes: class and kind, retry priority and sender unit, payload, check byte (R63, R65). -/
def frameBytes (cls kind attempt unit : Nat) (payload : List Byte) : List Byte :=
  let body := byte (32 * cls + kind) :: byte (64 * (3 - attempt) + unit) :: payload
  body ++ [crc8 body]

/-- The code of a result (R179). -/
def ResultCode.code : ResultCode → Byte
  | .done => 0
  | .badIndex => 1
  | .busy => 2
  | .wrongMode => 3
  | .notFaulted => 4
  | .badConfig => 5
  | .storeError => 6

/-- The reply data bytes of a request kind (R179). -/
def replyDataLength (kind : Byte) : Nat :=
  if kind = 1 ∨ kind = 2 then 12 else if kind = 12 then 8 else if kind = 13 then 2 else 0

/-- The reply: in a result that is neither DONE nor BAD_CONFIG every data byte is 0 (R175). -/
def replyOf (kind : Byte) (result : ResultCode) (data : List Byte) : Reply :=
  ⟨kind, result, match result with
    | .done | .badConfig => data
    | _ => List.replicate (replyDataLength kind) 0⟩

/-- The fields of a ZONE REPORT payload; of the condition set, bits 0 to 9 are named and read (R179). -/
def reportOf (p : Tbl 13 Byte) : Report :=
  let l := p.cells
  { zoneState := byteAt l 0
    fs := wordAt l 1
    stage := byteAt l 3
    conditions := BitVec.ofNat 16 (wordAt l 4 % 1024)
    freeGeneral := byteAt l 6
    freeAccessible := byteAt l 7
    value := byteAt l 8
    free := byteAt l 9
    hops := byteAt l 10
    origin := byteAt l 11
    nextHop := byteAt l 12 }

/-- The zone state a report's code names; 4 to 255 name none (R180). -/
def zoneStateOfCode (n : Nat) : Option ZoneState :=
  if n = 0 then some .normal else if n = 1 then some .divert else if n = 2 then some .alarm
  else if n = 3 then some .purge else none

/-- The code of a zone state (R180). -/
def ZoneState.code : ZoneState → Nat
  | .normal => 0
  | .divert => 1
  | .alarm => 2
  | .purge => 3

/-- The direction a TRANSIT NOTICE's code names (R179, R180). -/
def directionOfCode (n : Nat) : Option Direction :=
  if n = 1 then some .into else if n = 2 then some .outOf else none

/-- The code of a direction (R179). -/
def Direction.code : Direction → Nat
  | .into => 1
  | .outOf => 2

end Sys2Proof.Machine
end

