-- ==== Sys2Proof/Machine/Ops.lean ====
section
/-! DEFINITION. Shared operations: counters, timers, the settings in milliseconds, what the blocks read of each other. -/

namespace Sys2Proof.Machine

/-- An event counter counts one; it stops at 65535 (R17 and every counter rule). -/
def bump (n : Nat) : Nat := if n < Config.counterTop then n + 1 else n

/-- A counter counts `k` times. -/
def bumpBy : Nat → Nat → Nat
  | 0, n => n
  | k + 1, n => bumpBy k (bump n)

/-- The timer runs. -/
def Timer.isRunning : Timer → Bool
  | .running _ => true
  | _ => false

/-- One millisecond off a running timer; a timer whose time has run waits for its expiry (log 2). -/
def Timer.tick : Timer → Timer
  | .running n => .running (n - 1)
  | t => t

def PerGas.map {α β : Type} (f : α → β) (p : PerGas α) : PerGas β := ⟨f p.co, f p.no2⟩

/-- The two gases. -/
inductive Gas where
  | co
  | no2
  deriving DecidableEq, Repr

def PerGas.get {α : Type} (p : PerGas α) : Gas → α
  | .co => p.co
  | .no2 => p.no2

def PerGas.set {α : Type} (p : PerGas α) (g : Gas) (a : α) : PerGas α :=
  match g with
  | .co => { p with co := a }
  | .no2 => { p with no2 := a }

/-- The gas of a head: CO-A and CO-B, NO2-A and NO2-B (01, 1.1). -/
def gasOf (h : Fin 4) : Gas := if h.val < 2 then .co else .no2

/-- The other head of the same gas (01, 1.1). -/
def partner (h : Fin 4) : Fin 4 :=
  match h with
  | 0 => 1
  | 1 => 0
  | 2 => 3
  | 3 => 2

/-- Full scale of a gas (R18). -/
def fullScale : Gas → Nat
  | .co => Config.fullScaleCo
  | .no2 => Config.fullScaleNo2

namespace Settings

/-- The sample period Ts in ms (01, 1.1; tenths of a second in the image, R181). -/
def tsMs (c : Settings) : Nat := 100 * c.tsTenths

/-- A gas is fitted when at least one of its heads is present (R20). -/
def fitted (c : Settings) : Gas → Bool
  | .co => (c.heads.get 0).present || (c.heads.get 1).present
  | .no2 => (c.heads.get 2).present || (c.heads.get 3).present

/-- The neighbour place in use with a unit (R92). -/
def placeOfUnit (c : Settings) (unit : Nat) : Option (Fin 8) :=
  (List.finRange 8).find? fun n => (c.neighbours.get n).inUse && (c.neighbours.get n).unit == unit

/-- The neighbour place in use on a port (R100). -/
def placeOfPort (c : Settings) (p : Fin 4) : Option (Fin 8) :=
  (List.finRange 8).find? fun n => (c.neighbours.get n).inUse && (c.neighbours.get n).port == some p

end Settings

/-- The zone is in ALARM or PURGE. -/
def ZoneState.grave : ZoneState → Bool
  | .alarm | .purge => true
  | _ => false

/-- The zone is in ALARM or PURGE. -/
def State.grave (s : State) : Bool := s.zone.state.grave

/-- The station is in OPERATING. -/
def State.operating (s : State) : Bool := decide (s.mode = .operating)

/-- A gas is INVALID: fitted and not valid; a gas that is not fitted never is (R20, R22). -/
def State.invalid (s : State) (g : Gas) : Bool :=
  s.operating && s.settings.fitted g && !(s.fume.gases.get g).valid

/-- The unit the station sends and answers as: its own while OPERATING, 0 in COMMISSION (R63, R73). -/
def State.answeringUnit (s : State) : Nat := if s.operating then s.settings.unit else 0

/-- What the bus side and the fan controller read of the rest of the station. -/
structure Env where
  settings : Settings
  operating : Bool
  grave : Bool
  now : Nat
  moment : Nat
  es : Nat
  invalid : Bool
  deriving DecidableEq, Repr

/-- The environment of the bus side in a state. -/
def State.env (s : State) : Env where
  settings := s.settings
  operating := s.operating
  grave := s.grave
  now := s.now
  moment := s.moment
  es := s.fume.es
  invalid := s.invalid .co || s.invalid .no2

/-- The state with its bus side moved by a function of its environment. -/
def State.onComms (s : State) (f : Env → Comms → Comms) : State := { s with comms := f s.env s.comms }

/-- A command that a block takes only while OPERATING: in COMMISSION it changes nothing (R2, R33, R57, R98, R102, R128,
R162; log 2). -/
def State.whenOperating (s : State) (t : State) : State := if s.operating then t else s

/-! ## The lower ends of the counters -/

def GasFront.count (g : GasFront) (f : GasCounters → GasCounters) : GasFront := { g with counters := f g.counters }

def Link.count (l : Link) (f : LinkCounters → LinkCounters) : Link := { l with counters := f l.counters }

def Link.countPeer (l : Link) (f : PeerCounters → PeerCounters) : Link := { l with peer := f l.peer }

def Comms.countLink (c : Comms) (f : LinkCounters → LinkCounters) : Comms := { c with link := c.link.count f }

def Comms.countPeer (c : Comms) (f : PeerCounters → PeerCounters) : Comms := { c with link := c.link.countPeer f }

def Comms.countFan (c : Comms) (f : FanCounters → FanCounters) : Comms :=
  { c with fan := { c.fan with counters := f c.fan.counters } }

def State.countLink (s : State) (f : LinkCounters → LinkCounters) : State := { s with comms := s.comms.countLink f }

def State.countPeer (s : State) (f : PeerCounters → PeerCounters) : State := { s with comms := s.comms.countPeer f }

def State.countBay (s : State) (f : BayCounters → BayCounters) : State :=
  { s with scanner := { s.scanner with counters := f s.scanner.counters } }

def State.countArrival (s : State) (f : ArrivalCounters → ArrivalCounters) : State :=
  { s with tracker := { s.tracker with counters := f s.tracker.counters } }

def State.countStore (s : State) (f : StoreCounters → StoreCounters) : State :=
  { s with store := { s.store with counters := f s.store.counters } }

end Sys2Proof.Machine
end

