-- ==== Sys2Proof/Machine/Gas.lean ====
section
/-! DEFINITION. The gas heads and the converter arbiter (Chapter 1). -/

namespace Sys2Proof.Machine

/-! ## Requests and grants (R4, R5, R11) -/

/-- Request levels (R4). -/
inductive Level where
  | urgent
  | normal
  | zero
  deriving DecidableEq, Repr

/-- Head `h` is under a sample conversion (R6). -/
def Converter.samples (c : Converter) (h : Fin 4) : Bool :=
  match c with
  | .sample k _ => decide (k = h)
  | _ => false

/-- Head `h` is under a zero conversion (R11). -/
def Converter.zeroes (c : Converter) (h : Fin 4) : Bool :=
  match c with
  | .zero k _ _ => decide (k = h)
  | _ => false

/-- The request a head stands, by its state and the age of its latest value; one being converted stands none (R4). -/
def requestOf (cfg : Settings) (g : GasFront) (h : Fin 4) : Option Level :=
  let x := g.heads.get h
  match x.state with
  | .active =>
    if g.converter.samples h then none
    else match x.latest with
      | none => some .urgent
      | some l => if 2 * cfg.tsMs < l.age then some .urgent else if cfg.tsMs ≤ l.age then some .normal else none
  | .zeroing => if x.settle = .expired ∧ g.converter.zeroes h = false then some .zero else none
  | .absent | .warming | .drift | .openCircuit => none

/-- The heads in round-robin order: first the one after the head last granted (R5). -/
def roundRobin (pointer : Fin 4) : List (Fin 4) := [pointer + 1, pointer + 2, pointer + 3, pointer]

/-- The first head in round-robin order that stands a request at a level (R5). -/
def GasFront.firstAt (cfg : Settings) (g : GasFront) (l : Level) : Option (Fin 4) :=
  (roundRobin g.pointer).find? fun h => decide (requestOf cfg g h = some l)

/-- The conversion that a grant at a level starts (R6, R11). -/
def conversionFor (l : Level) (h : Fin 4) : Converter :=
  match l with
  | .zero => .zero h true Config.conversionMs
  | .urgent | .normal => .sample h Config.conversionMs

/-- The head the free converter is granted to, and the level (R5). -/
def GasFront.nextGrant (cfg : Settings) (g : GasFront) : Option (Level × Fin 4) :=
  match g.firstAt cfg .urgent with
  | some h => some (.urgent, h)
  | none =>
    match g.firstAt cfg .normal with
    | some h => some (.normal, h)
    | none =>
      match g.firstAt cfg .zero with
      | some h => some (.zero, h)
      | none => none

/-- The idle converter is granted (R5). -/
def GasFront.grant (cfg : Settings) (g : GasFront) : GasFront :=
  match g.converter, g.nextGrant cfg with
  | .idle, some (l, h) => { g with converter := conversionFor l h, pointer := h }
  | _, _ => g

/-- An URGENT request aborts a zero conversion in its protected part (R11). -/
def GasFront.abortZero (cfg : Settings) (g : GasFront) : GasFront :=
  match g.converter with
  | .zero _ true _ =>
    if (g.firstAt cfg .urgent).isSome then
      { g.count (fun k => { k with zeroAborts := bump k.zeroAborts }) with converter := .idle }
    else g
  | _ => g

/-- The arbiter after a change: an abort where one is due, then a grant where the converter is free (R5, R11). -/
def GasFront.arbitrate (cfg : Settings) (g : GasFront) : GasFront := (g.abortZero cfg).grant cfg

/-! ## Head records -/

def GasFront.setHead (g : GasFront) (h : Fin 4) (x : Head) : GasFront := { g with heads := g.heads.set h x }

/-- The configured gas of a head has one head (01, 1.1). -/
def oneHead (cfg : Settings) (h : Fin 4) : Bool := (cfg.heads.get h).present && !(cfg.heads.get (partner h)).present

/-- The gas of head `h` is covered in its absence (R9). -/
def GasFront.covered (cfg : Settings) (fs : Nat) (g : GasFront) (h : Fin 4) : Bool :=
  decide ((g.heads.get (partner h)).state = .active) || (oneHead cfg h && decide (fs < Config.oneHeadFsLimit))

/-- The head's latest value is present and younger than 2 Ts (R9, R21). -/
def Head.isYoung (cfg : Settings) (x : Head) : Bool :=
  match x.latest with
  | some l => decide (l.age < 2 * cfg.tsMs)
  | none => false

/-- The conditions for a zero check hold (R9); `grave` says that the zone is in ALARM or PURGE. -/
def GasFront.mayRest (cfg : Settings) (grave : Bool) (fs : Nat) (g : GasFront) (h : Fin 4) : Bool :=
  let x := g.heads.get h
  decide (x.state = .active) && decide (0 < x.backlog) && !g.converter.samples h && x.isYoung cfg && !grave &&
    g.covered cfg fs h

/-- The head enters ZEROING where the conditions hold, and its settle timer starts (R9). -/
def GasFront.restTest (cfg : Settings) (grave : Bool) (fs : Nat) (g : GasFront) (h : Fin 4) : GasFront :=
  if g.mayRest cfg grave fs h then
    g.setHead h { g.heads.get h with state := .zeroing, settle := .running Config.settleMs }
  else g

/-- The converter stopped where it runs the head's zero conversion (R13). -/
def Converter.stopZero (c : Converter) (h : Fin 4) : Converter := if c.zeroes h then .idle else c

/-- A ZEROING head returns to ACTIVE by withdrawal (R13, R14). -/
def GasFront.withdraw (g : GasFront) (h : Fin 4) : GasFront :=
  let x := g.heads.get h
  if x.state = .zeroing then
    let g1 := g.setHead h { x with state := .active, settle := .stopped }
    { g1.count (fun k => { k with zeroWithdrawn := bump k.zeroWithdrawn }) with converter := g.converter.stopZero h }
  else g

/-- Entry to a fault state (R7, R12, R15). -/
def Head.fail (st : HeadState) (x : Head) : Head :=
  { x with state := st, latest := none, settle := .stopped, zeroInterval := .stopped }

/-- The head enters OPEN, and a partner in ZEROING loses its cover (R7, R14, R15). -/
def GasFront.enterOpen (g : GasFront) (h : Fin 4) : GasFront :=
  let g1 := g.setHead h ((g.heads.get h).fail .openCircuit)
  (g1.count fun k => { k with openFaults := bump k.openFaults }).withdraw (partner h)

/-- The head enters DRIFT (R12, R15). -/
def GasFront.enterDrift (g : GasFront) (h : Fin 4) : GasFront :=
  let g1 := g.setHead h ((g.heads.get h).fail .drift)
  g1.count fun k => { k with driftFaults := bump k.driftFaults }

/-- The open-circuit bounds (R7). -/
def openCode (code : BitVec 12) : Bool := decide (code.toNat ≤ 8) || decide (4087 ≤ code.toNat)

/-- A code differs from the configured zero by no more than the drift limit (R12). -/
def withinDrift (cfg : HeadCfg) (z : Nat) : Bool := decide (z ≤ cfg.zc + cfg.drift ∧ cfg.zc ≤ z + cfg.drift)

/-- The runtime zero moved a quarter of the way toward z, truncated toward zero (R12). -/
def stepZero (zr z : Nat) : Nat := (zr + ((z : Int) - zr).tdiv 4).toNat

/-- A passed zero check (R12). -/
def Head.passZero (z : Nat) (x : Head) : Head :=
  { x with state := .active, zr := stepZero x.zr z, backlog := x.backlog - 1, settle := .stopped }

/-- The result of a zero conversion (R7, R12). -/
def GasFront.zeroResult (cfg : Settings) (g : GasFront) (h : Fin 4) (code : BitVec 12) : GasFront :=
  if openCode code then g.enterOpen h
  else if withinDrift (cfg.heads.get h) code.toNat then
    (g.setHead h ((g.heads.get h).passZero code.toNat)).count fun k => { k with zeroChecks := bump k.zeroChecks }
  else g.enterDrift h

/-! ## Changes that reach the front end from outside -/

/-- The gas front end of a state changed, with the rest tests the change calls for, and the arbiter run after it: a head
that goes to rest has withdrawn its request before the converter is granted (R5, R9; log 32). -/
def State.onGas (s : State) (f : GasFront → GasFront) : State := { s with gas := (f s.gas).arbitrate s.settings }

/-- The rest tests of a list of heads, in that order (R9). -/
def State.restTests (s : State) (hs : List (Fin 4)) (g : GasFront) : GasFront :=
  hs.foldl (GasFront.restTest s.settings s.grave s.fume.fs) g

/-- The front end takes a change of zone state: heads at rest return on entry to ALARM or PURGE (R13), a change between
those two reaches no head, and after every other change each head is tested again, in index order (R9). -/
def State.gasZoneChange (s : State) (wasGrave : Bool) : State :=
  if !s.grave then s.onGas (s.restTests (List.finRange 4))
  else if wasGrave then s
  else s.onGas fun g => (List.finRange 4).foldl GasFront.withdraw g

/-- The front end takes a new FS: the head of a one-head gas loses its cover at 128 or more, and is tested for a zero
check below (R9, R14). -/
def State.gasTakesFs (s : State) : State :=
  s.onGas fun g =>
    ((List.finRange 4).filter (oneHead s.settings)).foldl (fun g h =>
      if s.fume.fs < Config.oneHeadFsLimit then g.restTest s.settings s.grave s.fume.fs h else g.withdraw h) g

end Sys2Proof.Machine
end

