-- ==== Sys2Proof/Machine/Queue.lean ====
section
/-! DEFINITION. The transmit queue: classes, order, offers (R83 to R85). -/

namespace Sys2Proof.Machine

/-- The class a frame would carry if it entered arbitration now (R83). `grave` says that the zone is in ALARM or
PURGE. -/
def Payload.cls (grave : Bool) : Payload → Nat
  | .report => if grave then 2 else 4
  | .startNotice _ => if grave then 1 else 3
  | .transit _ _ _ => 3
  | .reply _ => 6

def Payload.isReport : Payload → Bool
  | .report => true
  | _ => false

def Payload.isStartNotice : Payload → Bool
  | .startNotice _ => true
  | _ => false

/-- `f` stands before `g`: lower class, then earlier queueing time; of two queued at the same moment either may, and
a free value says which (R84; log 6). -/
def Frame.before (grave : Bool) (f g : Frame) : Bool :=
  if f.payload.cls grave < g.payload.cls grave then true
  else if g.payload.cls grave < f.payload.cls grave then false
  else if f.queuedAt < g.queuedAt then true
  else if g.queuedAt < f.queuedAt then false
  else decide (Config.tieRank f.draw ≤ Config.tieRank g.draw)

/-- A frame put at its place in the queue (R84). -/
def enqueue (grave : Bool) (f : Frame) : List Frame → List Frame
  | [] => [f]
  | g :: rest => if f.before grave g then f :: g :: rest else g :: enqueue grave f rest

/-- The queue reordered by the classes of a new zone state; every frame keeps its queueing time (R84). -/
def reorder (grave : Bool) (q : List Frame) : List Frame := q.foldr (enqueue grave) []

/-- A ZONE REPORT stands in the queue. -/
def Link.hasReport (l : Link) : Bool := l.queue.any fun f => f.payload.isReport

/-- The frame in flight, if one is. -/
def Link.flight (l : Link) : Option Frame := l.queue.find? fun f => f.inFlight

/-- The highest class among the frames not in flight (R85). -/
def worstClass (grave : Bool) (q : List Frame) : Nat :=
  (q.filter fun f => !f.inFlight).foldl (fun m f => max m (f.payload.cls grave)) 0

/-- The outcome of an offer: whether the frame joined, and the frame whose end is a drop (the one displaced, or the one
refused). -/
structure Offered where
  comms : Comms
  joined : Bool
  dropped : Option Payload
  deriving DecidableEq, Repr

/-- The frame joins the queue as a new entry, at attempt 0. -/
def Comms.join (e : Env) (p : Payload) (c : Comms) : Comms :=
  let f : Frame := ⟨p, 0, true, e.moment, c.draws, false⟩
  { c with link := { c.link with queue := enqueue e.grave f c.link.queue }, draws := c.draws + 1 }

/-- A frame is refused: counted, and handed back as a drop (R81, R85). -/
def Comms.refuse (p : Payload) (c : Comms) : Offered :=
  ⟨c.countPeer fun k => { k with queueRefused := bump k.queueRefused }, false, some p⟩

/-- A frame is offered to the transmit queue (R85); a SILENT link refuses every frame (R81). -/
def offerFrame (e : Env) (p : Payload) (c : Comms) : Offered :=
  if c.link.state = .silent then c.refuse p
  else if c.link.queue.length < Config.queuePlaces then ⟨c.join e p, true, none⟩
  else
    let worst := worstClass e.grave c.link.queue
    let isVictim : Frame → Bool := fun f => !f.inFlight && f.payload.cls e.grave == worst
    if p.cls e.grave < worst then
      let victim := c.link.queue.find? isVictim
      let c1 := { c with link := { c.link with queue := c.link.queue.eraseP isVictim } }
      let c2 := c1.countPeer fun k => { k with queueDisplaced := bump k.queueDisplaced }
      ⟨c2.join e p, true, victim.map (·.payload)⟩
    else c.refuse p

end Sys2Proof.Machine
end

