-- ==== Sys2Proof/Machine/Permit.lean ====
section
/-! DEFINITION. Start permits and local starts of the fans (R42 to R46). -/

namespace Sys2Proof.Machine

/-- The duty of the stage in force: d_S for 1 to 3, full for 4 (R41). -/
def stageDuty (cfg : Settings) (stage : Nat) : Nat :=
  match stage with
  | 1 => cfg.duty.get 0
  | 2 => cfg.duty.get 1
  | 3 => cfg.duty.get 2
  | 4 => Config.fullDuty
  | _ => 0

def Comms.fanAt (c : Comms) (i : Fin 4) : Fan := c.fan.fans.get i

def Comms.setFan (c : Comms) (i : Fin 4) (f : Fan) : Comms :=
  { c with fan := { c.fan with fans := c.fan.fans.set i f } }

/-- The drive output of a fan is on exactly in SPINUP and RUNNING (R39). -/
def Fan.driveOn (f : Fan) : Bool :=
  match f.state with
  | .spinup | .running => true
  | _ => false

/-- The number of entries present in the start-notice list (R97). -/
def Comms.liveCount (c : Comms) : Nat := c.notices.length

/-- The first WAIT_PERMIT fan in the lead order (R42). -/
def FanCtl.firstWaiting (fc : FanCtl) : Option (Fin 4) :=
  fc.lead.find? fun i => decide ((fc.fans.get i).state = .waitPermit)

/-- A START NOTICE of this station is queued or in flight (R42). -/
def Comms.hasNotice (c : Comms) : Bool := c.link.queue.any fun f => f.payload.isStartNotice

/-- The fan enters SPINUP: drive on at the duty of the stage in force, speed 0, spin-up timer started, local spacing
restarted with W (R44, R45, R47, R48). -/
def startFan (e : Env) (i : Fin 4) (c : Comms) : Comms :=
  let f := c.fanAt i
  let c1 := c.setFan i { f with
    state := .spinup
    duty := stageDuty e.settings c.fan.stage
    speed := some 0
    spinUp := .running Config.spinUpMs
    hold := .stopped
    check := .stopped }
  { c1 with fan := { c1.fan with spacing := .running (1000 * e.settings.window) } }

/-- The fan starts without a permit: LOCAL_STARTS is counted (R45, R46). -/
def startLocally (e : Env) (i : Fin 4) (c : Comms) : Comms :=
  (startFan e i c).countFan fun k => { k with localStarts := bump k.localStarts }

/-- The local release, absent once its fan has left WAIT_PERMIT by another path (R45). -/
def clearRelease (c : Comms) : Comms :=
  match c.fan.release with
  | none => c
  | some i =>
    if (c.fanAt i).state = .waitPermit then c else { c with fan := { c.fan with release := none } }

/-- The link lets fans start by local spacing (R46). -/
def LinkState.startsLocally : LinkState → Bool
  | .isolated | .silent => true
  | _ => false

/-- Starts by local spacing, while the local spacing timer is not running: the local release first, else, with the link
ISOLATED or SILENT, the first WAIT_PERMIT fan (R45, R46; log 29). -/
def localStarts (e : Env) (c : Comms) : Comms :=
  let c1 := clearRelease c
  if c1.fan.spacing.isRunning then c1
  else match c1.fan.release with
    | some i =>
      let c2 := startLocally e i c1
      { c2 with fan := { c2.fan with release := none } }
    | none =>
      if c1.link.state.startsLocally then
        match c1.fan.firstWaiting with
        | some i => startLocally e i c1
        | none => c1
      else c1

/-- The station's START NOTICE for a fan was dropped: counted, and a fan still waiting becomes the local release
(R45). -/
def releaseFan (i : Fin 4) (c : Comms) : Comms :=
  let c1 := c.countFan fun k => { k with noticeDropped := bump k.noticeDropped }
  if (c1.fanAt i).state = .waitPermit then { c1 with fan := { c1.fan with release := some i } } else c1

/-- The conditions under which a START NOTICE may be queued (R42, R46). -/
def Comms.mayNotify (e : Env) (c : Comms) : Bool :=
  e.operating && decide (c.link.state = .active) && !c.hasNotice && c.fan.release.isNone

/-- The fan controller tries to queue a START NOTICE for the first WAIT_PERMIT fan (R42). A notice refused by a full
queue is dropped, and the try goes on by R45; the first number bounds that (a refused try leaves the spacing timer
running or the release held, so three are enough). -/
def tryNotice : Nat → Env → Comms → Comms
  | 0, _, c => c
  | n + 1, e, c =>
    if c.mayNotify e then
      match c.fan.firstWaiting with
      | none => c
      | some i =>
        if c.liveCount < e.settings.allowance then
          let r := offerFrame e (.startNotice i) c
          match r.joined, r.dropped with
          | true, some (.transit _ _ _) =>
            r.comms.countPeer fun k => { k with transitsLost := bump k.transitsLost }
          | true, some (.reply _) => { r.comms with service := { r.comms.service with current := none } }
          | true, _ => r.comms
          | false, _ => tryNotice n e (localStarts e (releaseFan i r.comms))
        else c.countFan fun k => { k with noticeDeferred := bump k.noticeDeferred }
    else c

/-- What the fan controller does when a notice has ended or a start may be due: local starts, then a try (R42, R45,
R46). -/
def resumeStarts (e : Env) (c : Comms) : Comms := tryNotice 3 e (localStarts e c)

/-- The drop of this station's START NOTICE, as the fan controller takes it (R45). -/
def noticeDropped (e : Env) (i : Fin 4) (c : Comms) : Comms := resumeStarts e (releaseFan i c)

/-- The START NOTICE queued and not in flight is withdrawn (R42, R46). -/
def withdrawNotice (c : Comms) : Comms :=
  { c with link := { c.link with queue := c.link.queue.eraseP fun f => f.payload.isStartNotice && !f.inFlight } }

/-- The fan named by a START NOTICE queued and not in flight. -/
def Comms.queuedNotice (c : Comms) : Option (Fin 4) :=
  match c.link.queue.find? fun f => f.payload.isStartNotice && !f.inFlight with
  | some ⟨.startNotice i, _, _, _, _, _⟩ => some i
  | _ => none

/-- The queued notice names a fan that has left WAIT_PERMIT (R42). -/
def Comms.noticeStranded (c : Comms) : Bool :=
  match c.queuedNotice with
  | some i => decide ((c.fanAt i).state ≠ .waitPermit)
  | none => false

/-- The fans that have entered WAIT_PERMIT since `old`. -/
def Comms.enteredWait (old c : Comms) : Nat :=
  ((List.finRange 4).filter fun i =>
    decide ((c.fanAt i).state = .waitPermit) && decide ((old.fanAt i).state ≠ .waitPermit)).length

/-- A try for each of `k` presentations of R42. -/
def tryTimes : Nat → Env → Comms → Comms
  | 0, _, c => c
  | k + 1, e, c => tryTimes k e (tryNotice 3 e c)

/-- After the fans' states have changed: a stranded notice is withdrawn, a release whose fan left is dropped, local
starts are made, and a try is made for each fan that has entered WAIT_PERMIT, for the notice if it has ended and for the
release if it has (R42, R45, R46; log 33). A notice in flight is not withdrawn; if it stays queued after its attempt, a
later run withdraws it (log 33). `old` is the bus side before the change. -/
def afterFanChange (e : Env) (old c : Comms) : Comms :=
  let c1 := if c.noticeStranded then withdrawNotice c else c
  let c2 := localStarts e c1
  let ended := if c.noticeStranded then 1 else 0
  let freed := if c2.fan.release = old.fan.release then 0 else 1
  tryTimes (old.enteredWait c + ended + freed) e c2

end Sys2Proof.Machine
end

