-- ==== Sys2Proof/Machine/Report.lean ====
section
/-! DEFINITION. Drops handed back, offers of the other blocks, and the reporting of the zone (R81, R85 to R88). -/

namespace Sys2Proof.Machine

/-- A drop handed back to the block that queued the frame (R86): a report leaves its range flags set; the fan
controller acts by R45; a lost TRANSIT NOTICE is counted; the responder's reply is finished. -/
def dropEnd (e : Env) (p : Payload) (c : Comms) : Comms :=
  match p with
  | .report => c
  | .startNotice i => noticeDropped e i c
  | .transit _ _ _ => c.countPeer fun k => { k with transitsLost := bump k.transitsLost }
  | .reply _ => { c with service := { c.service with current := none } }

/-- A drop handed back, where there is one. -/
def dropEnds (e : Env) (p : Option Payload) (c : Comms) : Comms :=
  match p with
  | some p => dropEnd e p c
  | none => c

/-- A frame offered by a block other than the fan controller, and the end of the frame that gave way or was refused
(R85, R86). -/
def offer (e : Env) (p : Payload) (c : Comms) : Comms :=
  let r := offerFrame e p c
  dropEnds e r.dropped r.comms

/-- A new ZONE REPORT is offered; where it joins, it is counted and the spacing timer restarts (R88). -/
def offerReport (e : Env) (c : Comms) : Comms :=
  let r := offerFrame e .report c
  let c1 := if r.joined then
      { r.comms with link := { (r.comms.link.countPeer fun k => { k with reportsQueued := bump k.reportsQueued }) with
        spacing := .running Config.spacingMs } }
    else r.comms
  dropEnds e r.dropped c1

/-- The ZONE REPORT in the queue is in flight. -/
def Link.reportInFlight (l : Link) : Bool := l.queue.any fun f => f.payload.isReport && f.inFlight

/-- A report event that finds a ZONE REPORT in the queue: folded into it, or the refresh mark set where it is in flight
(R88). -/
def foldReport (c : Comms) : Comms :=
  if c.link.reportInFlight then { c with link := { c.link with refreshMark := true } }
  else c.countPeer fun k => { k with reportsFolded := bump k.reportsFolded }

/-- A report event is presented to the link: the first applicable case of R88. -/
def reportEvent (e : Env) (c : Comms) : Comms :=
  if c.link.state = .off ∨ c.link.state = .silent then c
  else if c.link.hasReport then foldReport c
  else if c.link.spacing.isRunning then { c with link := { c.link with eventPending := true } }
  else offerReport e c

/-- A periodic request: R88 without regard to the spacing timer, and a pending event is cleared (R87; log 25). -/
def periodicReport (e : Env) (c : Comms) : Comms :=
  let c1 := if c.link.hasReport then foldReport c else offerReport e c
  { c1 with link := { c1.link with eventPending := false } }

/-- The zone's state has changed whether it is grave: the queue is reordered by the new classes (R84). -/
def reorderQueue (e : Env) (c : Comms) : Comms :=
  { c with link := { c.link with queue := reorder e.grave c.link.queue } }

end Sys2Proof.Machine
end

