-- ==== Sys2Proof/Machine/Stage.lean ====
section
/-! DEFINITION. The stage in force, the demand, running-set selection and handover (R35 to R41, R49, R52, R53). -/

namespace Sys2Proof.Machine

/-- The fan is present and neither in FAULT nor LOCKED (R40). -/
def available (cfg : Settings) (fc : FanCtl) (i : Fin 4) : Bool :=
  (cfg.fans.get i).present && decide ((fc.fans.get i).state ≠ .fault) && decide ((fc.fans.get i).state ≠ .locked)

/-- The number of present fans. -/
def presentFans (cfg : Settings) : Nat := ((List.finRange 4).filter fun i => (cfg.fans.get i).present).length

/-- The number of fans wanted at the stage in force (R40). -/
def wantedNumber (cfg : Settings) (stage : Nat) : Nat :=
  match stage with
  | 1 => cfg.count.get 0
  | 2 => cfg.count.get 1
  | 3 => cfg.count.get 2
  | 4 => presentFans cfg
  | _ => 0

/-- The wanted set: the first available fans in the lead order, up to the number wanted (R40). -/
def wantedSet (cfg : Settings) (fc : FanCtl) : List (Fin 4) :=
  (fc.lead.filter (available cfg fc)).take (wantedNumber cfg fc.stage)

/-- A fan goes from SPINUP or RUNNING to STOPPED (R41). -/
def Fan.stop (f : Fan) : Fan :=
  { f with
    state := .stopped
    duty := 0
    speed := none
    failing := 0
    handover := false
    hold := .stopped
    spinUp := .stopped
    check := .stopped }

/-- The duty of a turning fan becomes `d`; a rise holds its checks for 10 s and clears its failing-check count (R41,
R49). -/
def Fan.setDuty (d : Nat) (f : Fan) : Fan :=
  if f.duty < d then
    { f with duty := d, failing := 0, hold := .running Config.holdMs, check := .stopped }
  else { f with duty := d }

/-- A run of selection, applied to one fan by its own state (R41). -/
def Fan.select (d : Nat) (wanted : Bool) (f : Fan) : Fan :=
  match f.state with
  | .stopped => if wanted then { f with state := .waitPermit } else f
  | .waitPermit => if wanted then f else { f with state := .stopped }
  | .spinup | .running => if wanted || f.handover then f.setDuty d else f.stop
  | .fault | .locked => f

/-- The handover goes on while its incoming fan is wanted and not yet RUNNING (R53; log 18). -/
def handoverGoesOn (fc : FanCtl) (wanted : List (Fin 4)) : Bool :=
  match fc.incoming with
  | some j => decide (j ∈ wanted) && decide ((fc.fans.get j).state ≠ .running)
  | none => false

/-- The handover marks as they stand at a run of selection: a mark clears when its fan is wanted again or the handover
has ended (R53). -/
def settleMarks (wanted : List (Fin 4)) (fc : FanCtl) : FanCtl :=
  let goesOn := handoverGoesOn fc wanted
  let fans := fc.fans.mapIdx fun i f => { f with handover := f.handover && goesOn && decide (i ∉ wanted) }
  let marked := (List.finRange 4).any fun i => (fans.get i).handover
  { fc with fans := fans, incoming := if marked then fc.incoming else none }

/-- After a rotation: a fan in SPINUP or RUNNING that the rotation removes from the wanted set is marked, and the fan
that enters the set in its place is the incoming fan (R53). -/
def markOutgoing (before wanted : List (Fin 4)) (fc : FanCtl) : FanCtl :=
  let leaves : Fin 4 → Fan → Bool := fun i f => decide (i ∈ before) && decide (i ∉ wanted) && f.driveOn
  let fans := fc.fans.mapIdx fun i f => { f with handover := f.handover || leaves i f }
  let marked := (List.finRange 4).any fun i => (fans.get i).handover
  { fc with fans := fans, incoming := if marked then wanted.find? (fun i => decide (i ∉ before)) else none }

/-- The wanted set applied to every fan, and the conditions FAN_SHORT and NO_VENT re-evaluated (R40, R41). -/
def applyWanted (cfg : Settings) (wanted : List (Fin 4)) (fc : FanCtl) : FanCtl :=
  let someAvailable := (List.finRange 4).any (available cfg fc)
  { fc with
    fans := fc.fans.mapIdx fun i f => f.select (stageDuty cfg fc.stage) (decide (i ∈ wanted))
    fanShort := decide (wanted.length < wantedNumber cfg fc.stage)
    noVent := decide (0 < fc.stage) && !someAvailable }

/-- Running-set selection (R40, R41, R53). -/
def select (e : Env) (c : Comms) : Comms :=
  let wanted := wantedSet e.settings c.fan
  let fc := applyWanted e.settings wanted (settleMarks wanted c.fan)
  afterFanChange e c { c with fan := fc }

/-- Selection after the lead order has rotated; `before` is the wanted set before the rotation (R52, R53). -/
def selectRotated (e : Env) (before : List (Fin 4)) (c : Comms) : Comms :=
  let wanted := wantedSet e.settings c.fan
  let fc := applyWanted e.settings wanted (markOutgoing before wanted c.fan)
  afterFanChange e c { c with fan := fc }

/-- The score demand (R36). -/
def scoreDemand (cfg : Settings) (es stage : Nat) : Nat :=
  let reached : Nat := if cfg.entry.get 2 ≤ es then 3 else if cfg.entry.get 1 ≤ es then 2
    else if cfg.entry.get 0 ≤ es then 1 else 0
  match stage with
  | 0 => if cfg.entry.get 0 ≤ es then reached else 0
  | 1 => if cfg.entry.get 1 ≤ es then reached else if es < cfg.exit.get 0 then 0 else 1
  | 2 => if cfg.entry.get 2 ≤ es then reached else if es < cfg.exit.get 1 then 1 else 2
  | 3 => if es < cfg.exit.get 2 then 2 else 3
  | 4 => 3
  | n => n

/-- The boost stage while a boost override runs, else 0 (R37). -/
def boostStageOf (fc : FanCtl) : Nat :=
  match fc.boost with
  | some b => b.stage
  | none => 0

/-- The demand: the score demand raised by its floors; 4 in ALARM and PURGE (R37). -/
def demand (e : Env) (fc : FanCtl) : Nat :=
  if e.grave then 4
  else max (max (scoreDemand e.settings e.es fc.stage) (if e.invalid then e.settings.failSafe else 0)) (boostStageOf fc)

/-- A change of the stage in force: the dwell timer restarts, selection runs, a report event is presented (R35). -/
def setStage (e : Env) (n : Nat) (c : Comms) : Comms :=
  let fc := { c.fan with stage := n, dwell := .running (1000 * e.settings.dwell) }
  reportEvent e (select e { c with fan := fc })

/-- The demand is worked out again: a rise at once, a fall by one step with the dwell timer expired and the zone neither
in ALARM nor in PURGE (R38). In COMMISSION no demand is worked out (R57). -/
def reworkDemand (e : Env) (c : Comms) : Comms :=
  if !e.operating then c
  else if c.fan.stage < demand e c.fan then setStage e (demand e c.fan) c
  else if demand e c.fan < c.fan.stage ∧ c.fan.dwell = .expired ∧ e.grave = false then setStage e (c.fan.stage - 1) c
  else c

/-- The demand worked out again in a state. -/
def State.reworkDemand (s : State) : State := s.onComms Machine.reworkDemand

/-- A report event presented in a state. -/
def State.reportEvent (s : State) : State := s.onComms Machine.reportEvent

end Sys2Proof.Machine
end

