-- ==== Sys2Proof/Machine/Lamp.lean ====
section
/-! DEFINITION. The lamp controller: presence, lead-in, targets, the ramp and the PWM windows (Chapter 9). -/

namespace Sys2Proof.Machine

/-- The presence timer is held or counting down (R147). -/
def PresenceTimer.isLive : PresenceTimer → Bool
  | .stopped => false
  | _ => true

/-- The target of a channel where the forcing does not hold (R147). -/
def freeTarget (cfg : LampCfg) (ch : Channel) : Nat :=
  max (max cfg.background (if ch.presence.isLive && cfg.maskPresence then cfg.presence else 0))
    (if ch.leadIn && cfg.maskLeadIn then cfg.leadIn else 0)

/-- Full level is forced: in COMMISSION, ALARM and PURGE (R147). -/
def State.forced (s : State) : Bool := !s.operating || s.grave

/-- The target of a channel (R147). -/
def targetOf (forced : Bool) (cfg : LampCfg) (ch : Channel) : Nat := if forced then Config.top else freeTarget cfg ch

/-- The channel with its target re-formed (R148). -/
def Channel.retarget (forced : Bool) (cfg : LampCfg) (ch : Channel) : Channel :=
  { ch with target := targetOf forced cfg ch }

/-- One channel changed and its target re-formed. -/
def State.onChannel (s : State) (k : Fin 8) (f : Channel → Channel) : State :=
  { s with lamps := { s.lamps with
      channels := s.lamps.channels.modify k fun ch => (f ch).retarget s.forced (s.settings.lamps.get k) } }

def State.countLamp (s : State) (f : LampCounters → LampCounters) : State :=
  { s with lamps := { s.lamps with counters := f s.lamps.counters } }

/-- Every channel's target re-formed (R148). -/
def State.retargetAll (s : State) : State :=
  { s with lamps := { s.lamps with
      channels := s.lamps.channels.mapIdx fun k ch => ch.retarget s.forced (s.settings.lamps.get k) } }

def LampCounters.event (k : LampCounters) : LampCounters := { k with presenceEvents := bump k.presenceEvents }

/-- The hold time of a channel in ms (09, 9.1). -/
def State.holdMs (s : State) (k : Fin 8) : Nat := 1000 * (s.settings.lamps.get k).hold

/-- A start of presence at a lane whose port names channel `k` (R144). -/
def State.presenceStart (s : State) (k : Option (Fin 8)) : State :=
  match k with
  | none => s
  | some k => (s.onChannel k fun ch => { ch with lanes := ch.lanes + 1, presence := .held }).countLamp .event

/-- An end of presence at such a lane (R144). -/
def State.presenceEnd (s : State) (k : Option (Fin 8)) : State :=
  match k with
  | none => s
  | some k => (s.onChannel k fun ch =>
      { ch with
        lanes := ch.lanes - 1
        presence := if ch.lanes - 1 = 0 then .counting (s.holdMs k) else ch.presence }).countLamp .event

/-- A movement event on a bay that names channel `k` (R145). -/
def State.bayPresence (s : State) (k : Option (Fin 8)) : State :=
  match k with
  | none => s
  | some k => (s.onChannel k fun ch =>
      { ch with presence := if ch.presence = .held then .held else .counting (s.holdMs k) }).countLamp .event

/-- A change of the lead-in demand of channel `k` (R146). -/
def State.presentLeadIn (s : State) (k : Fin 8) (demand : Bool) : State :=
  let s1 := s.onChannel k fun ch => { ch with leadIn := demand }
  if demand then s1.countLamp fun c => { c with leadinSets := bump c.leadinSets } else s1

/-- The lamps take a change of zone state: every target re-formed, and FORCED_FULL counted once for each channel where
the change brings the forcing into effect (R147, R148). -/
def State.lampsZoneChange (s : State) (wasGrave : Bool) : State :=
  let s1 := s.retargetAll
  if s.grave && !wasGrave then s1.countLamp fun c => { c with forcedFull := bumpBy 8 c.forcedFull } else s1

/-- The fade step: 1023 over the fade time in hundredths of a second, at least 1 (R149). -/
def fadeStep (fade : Nat) : Nat := max 1 (Config.top / (fade * 100))

/-- One ramp tick of a channel (R149). -/
def Channel.ramp (fade : Nat) (ch : Channel) : Channel :=
  if ch.level < ch.target then { ch with level := min ch.target (ch.level + Config.rise) }
  else { ch with level := max ch.target (ch.level - fadeStep fade) }

/-- The centre count of a channel (R150). -/
def centreCount (k : Fin 8) : Nat := Config.pwmCounts * k.val / 8

/-- The window of channel `k` at a level (R150). -/
def windowOf (k : Fin 8) (level : Nat) : Window :=
  ⟨(centreCount k + Config.pwmCounts - level / 2) % Config.pwmCounts, level⟩

/-- The output of a channel at a count of the PWM period (R150). -/
def Window.on (w : Window) (count : Nat) : Bool :=
  decide ((count + Config.pwmCounts - w.first) % Config.pwmCounts < w.width)

end Sys2Proof.Machine
end

