-- ==== Sys2Proof/Machine/Guide.lean ====
section
/-! DEFINITION. The guidance unit: offers, advertised figures, signs and the sign link (Chapter 8). -/

namespace Sys2Proof.Machine

/-- The free count of a class (R106). -/
def State.freeCount (s : State) (cls : BayClass) : Nat :=
  ((List.finRange 48).filter fun b =>
    decide ((s.scanner.bays.get b).state = .free) && decide ((s.settings.bays.get b).cls = cls)).length

/-- The own offer (R130). -/
def State.ownOffer (s : State) : Offer :=
  let f := s.freeCount .general
  ⟨min 255 (4 * f), f, 0, s.settings.unit, none⟩

/-- Why a candidate is absent, where R131 counts it. -/
inductive OfferTest where
  | eligible
  | quiet
  | originRefused
  | splitHorizon
  | hopLimit
  deriving DecidableEq, Repr

/-- The tests of R131, in order, against a report's fields. -/
def testReport (unit : Nat) (r : Report) : OfferTest :=
  if zoneStateOfCode r.zoneState ≠ some .normal then .quiet
  else if r.origin = unit ∨ r.origin < 1 ∨ 62 < r.origin then .originRefused
  else if r.nextHop = unit then .splitHorizon
  else if Config.hopLimit ≤ r.hops then .hopLimit
  else .eligible

/-- The candidate of an eligible entry (R132). -/
def candidateOf (cfg : NeighbourCfg) (stale : Bool) (r : Report) : Offer :=
  let v := r.value * (256 - cfg.cost) / 256
  ⟨if stale then v / 2 else v, r.free, r.hops + 1, r.origin, some cfg.unit⟩

def Guide.count (g : Guide) (f : GuideCounters → GuideCounters) : Guide := { g with counters := f g.counters }

/-- The refusal counted when a candidate is re-formed and found absent (R131). -/
def GuideCounters.refusal (t : OfferTest) (k : GuideCounters) : GuideCounters :=
  match t with
  | .originRefused => { k with originRefused := bump k.originRefused }
  | .splitHorizon => { k with splitHorizon := bump k.splitHorizon }
  | .hopLimit => { k with hopLimit := bump k.hopLimit }
  | .eligible | .quiet => k

/-- The candidate of port `p` re-formed from the neighbour entry on it (R131, R132). -/
def State.reformCandidate (s : State) (p : Fin 4) : State :=
  match s.settings.placeOfPort p with
  | none => { s with guide := { s.guide with candidates := s.guide.candidates.set p none } }
  | some n =>
    let entry := s.peers.get n
    match entry.contents with
    | none => { s with guide := { s.guide with candidates := s.guide.candidates.set p none } }
    | some c =>
      let t := testReport s.settings.unit c.report
      let offer := match t with
        | .eligible => some (candidateOf (s.settings.neighbours.get n) (decide (entry.fresh = .stale)) c.report)
        | _ => none
      { s with guide := { (s.guide.count (·.refusal t)) with candidates := s.guide.candidates.set p offer } }

/-- An offer with the port it came over, where it is a candidate. -/
structure Placed where
  offer : Offer
  port : Option (Fin 4)
  deriving DecidableEq, Repr

/-- `x` is taken before `y`: greater value, or the same value and fewer hops (R133). -/
def Offer.beats (x y : Offer) : Bool :=
  decide (y.value < x.value) || (decide (x.value = y.value) && decide (x.hops < y.hops))

/-- The better of an offer and the candidate of a port; on a tie the first stays (R133). -/
def betterOf (candidates : Tbl 4 (Option Offer)) (cur : Placed) (p : Fin 4) : Placed :=
  match candidates.get p with
  | some o => if o.beats cur.offer then ⟨o, some p⟩ else cur
  | none => cur

/-- The best offer: the own offer against the candidates in port order (R133). -/
def bestOffer (own : Offer) (candidates : Tbl 4 (Option Offer)) : Placed :=
  (List.finRange 4).foldl (betterOf candidates) ⟨own, none⟩

/-- The better of what stands so far and the candidate of a port, where nothing may stand yet. -/
def betterCandidate (candidates : Tbl 4 (Option Offer)) (cur : Option Placed) (p : Fin 4) : Option Placed :=
  match cur, candidates.get p with
  | some c, _ => some (betterOf candidates c p)
  | none, some o => some ⟨o, some p⟩
  | none, none => none

/-- The best candidate: by value, then hops, then lower port (R136). -/
def bestCandidate (candidates : Tbl 4 (Option Offer)) : Option Placed :=
  (List.finRange 4).foldl (betterCandidate candidates) none

/-- The port of an offer of value 1 or more. -/
def worthyPort (x : Placed) : Option (Fin 4) := if 1 ≤ x.offer.value then x.port else none

/-- The emphasised port (R136). -/
def emphasisOf (zone : ZoneState) (best : Placed) (candidates : Tbl 4 (Option Offer)) : Option (Fin 4) :=
  if zone = .normal then worthyPort best
  else match bestCandidate candidates with
    | some x => worthyPort x
    | none => none

/-- The content of a slot for a port (R137). -/
def State.slotOf (s : State) (port : Option (Fin 4)) : Slot :=
  match port with
  | none => .dark
  | some p =>
    match s.settings.placeOfPort p with
    | none => .dark
    | some n =>
      match (s.peers.get n).contents with
      | none => .dark
      | some c =>
        if c.report.zoneState = 2 ∨ c.report.zoneState = 3 then .closed
        else match s.guide.candidates.get p with
          | none => .full
          | some o => if o.value = 0 then .full else .arrow o.free (decide (s.guide.emphasised = some p))

/-- The legend of both signs (R138). -/
def State.legendOf (s : State) : Legend :=
  if s.grave then .closed else .counts (s.freeCount .general) (s.freeCount .accessible)

/-- A sign with its contents re-formed; a change sets its send mark (R139). -/
def Sign.reform (slots : Tbl 4 Slot) (legend : Legend) (g : Sign) : Sign :=
  ⟨slots, legend, g.mark || decide (g.slots ≠ slots) || decide (g.legend ≠ legend)⟩

/-- The two bytes of a slot in a sign record (R181). -/
def Slot.bytes : Slot → List Byte
  | .dark => [0, 0]
  | .closed => [1, 0]
  | .full => [2, 0]
  | .arrow n e => [if e then 0x83 else 3, byte n]

/-- The legend and count bytes of a sign record (R181). -/
def Legend.bytes : Legend → List Byte
  | .counts g a => [0, byte g, byte a]
  | .closed => [1, 0, 0]

/-- The 13 bytes of a sign record (R181). -/
def signRecord (i : Fin 2) (g : Sign) : List Byte :=
  let body := byte i.val :: (g.legend.bytes ++ g.slots.cells.flatMap Slot.bytes)
  body ++ [crc8 body]

/-- The marked sign that the idle sign link sends next: with both marked, the one not sent last (R139). -/
def Guide.nextSign (g : Guide) : Option (Fin 2) :=
  let other : Fin 2 := if g.lastSign = 0 then 1 else 0
  if (g.signs.get other).mark then some other
  else if (g.signs.get g.lastSign).mark then some g.lastSign
  else none

/-- The idle sign link starts a record for a marked sign, clears its mark and counts the record (R139, R142). -/
def Guide.startRecord (g : Guide) : Guide :=
  match g.line, g.nextSign with
  | none, some i =>
    let sign := g.signs.get i
    { g.count fun k => { k with signRecords := bump k.signRecords } with
      signs := g.signs.set i { sign with mark := false }
      line := some ⟨i, signRecord i sign, Config.signRecordMs⟩
      lastSign := i }
  | _, _ => g

/-- Both send marks set, and the refresh timer started (R139). -/
def Guide.markBoth (g : Guide) : Guide :=
  { g with signs := g.signs.map fun x => { x with mark := true }, refresh := .running Config.refreshMs }

/-- The advertised figures: the free counts and the best offer in NORMAL, zeros otherwise (R134). -/
structure Advert where
  general : Nat
  accessible : Nat
  offer : Offer
  deriving DecidableEq, Repr

def State.advert (s : State) : Advert :=
  if s.zone.state = .normal then ⟨s.freeCount .general, s.freeCount .accessible, s.guide.best⟩
  else ⟨0, 0, Offer.zero s.settings.unit⟩

/-- The re-forming changes what a report event is presented for: either count, or the offer's value, origin or hops
(R134). -/
def Guide.advertDiffers (g : Guide) (a : Advert) : Bool :=
  decide (g.advGeneral ≠ a.general) || decide (g.advAccessible ≠ a.accessible) ||
    decide (g.advOffer.value ≠ a.offer.value) || decide (g.advOffer.origin ≠ a.offer.origin) ||
    decide (g.advOffer.hops ≠ a.offer.hops)

/-- The best offer and the emphasised port re-formed (R133, R136). -/
def State.reformBest (s : State) : State :=
  let best := bestOffer s.guide.own s.guide.candidates
  { s with guide := { s.guide with
      best := best.offer
      bestPort := best.port
      emphasised := emphasisOf s.zone.state best s.guide.candidates } }

/-- Both signs re-formed, and the sign link started where it is idle (R137 to R139). -/
def State.reformSigns (s : State) : State :=
  let signs := s.guide.signs.mapIdx fun i g =>
    g.reform ((s.settings.slots.get i).map s.slotOf) s.legendOf
  { s with guide := ({ s.guide with signs := signs }).startRecord }

/-- The advertised figures re-formed, with a report event where they differ (R134). -/
def State.reformAdvert (s : State) : State :=
  let a := s.advert
  let differs := s.guide.advertDiffers a
  let s1 := { s with guide := { s.guide with advGeneral := a.general, advAccessible := a.accessible, advOffer := a.offer } }
  if differs then
    { s1 with guide := s1.guide.count fun k => { k with advertChanges := bump k.advertChanges } }.reportEvent
  else s1

/-- What every presentation re-forms once its own part has been re-formed (R135). -/
def State.reformGuide (s : State) : State := s.reformBest.reformSigns.reformAdvert

/-- A change of a free count is presented (R106, R130, R135). -/
def State.presentCounts (s : State) : State :=
  { s with guide := { s.guide with own := s.ownOffer } }.reformGuide

/-- A change of a neighbour entry is presented (R94, R135). An entry without a port changes nothing. -/
def State.presentEntry (s : State) (n : Fin 8) : State :=
  match (s.settings.neighbours.get n).port with
  | none => s
  | some p => (s.reformCandidate p).reformGuide

/-- A change of zone state is presented (R135). -/
def State.presentZone (s : State) : State := s.reformGuide

end Sys2Proof.Machine
end

