-- ==== Sys2Proof/Machine/Hold.lean ====
section
/-! DEFINITION. Bay records and the arrival list, kept in step: indicators, holds, releases, removals, lead-in
(Chapters 6 and 7). -/

namespace Sys2Proof.Machine

/-! ## Indicators (R108, R109) -/

/-- The indicator state of a bay (R108). -/
def indicatorOf (grave : Bool) (cls : BayClass) (st : BayState) : Indicator :=
  if grave then .dark
  else match st, cls with
    | .free, .general => .green
    | .free, .accessible => .blue
    | .held, _ => .flashing
    | .occupied, _ => .red
    | _, _ => .dark

/-- The colour sent for an indicator state: a flashing bay shows the present phase (R109). -/
def colourOf (flashOn : Bool) : Indicator → Colour
  | .dark => .dark
  | .green => .green
  | .blue => .blue
  | .red => .red
  | .flashing => if flashOn then .green else .dark

/-- The bay with its indicator state re-formed; a change sends the indicator command (R108, R109). -/
def Bay.reform (grave flashOn : Bool) (cls : BayClass) (b : Bay) : Bay :=
  let i := indicatorOf grave cls b.state
  { b with indicator := i, shown := if b.indicator = i then b.shown else colourOf flashOn i }

/-- A bay record changed, with its indicator re-formed. -/
def State.setBay (s : State) (i : Fin 48) (f : Bay → Bay) : State :=
  { s with scanner := { s.scanner with
      bays := s.scanner.bays.modify i fun b =>
        (f b).reform s.grave s.scanner.flashOn (s.settings.bays.get i).cls } }

/-- The state of a bay. -/
def State.bayState (s : State) (i : Fin 48) : BayState := (s.scanner.bays.get i).state

/-- A bay record changed; a change of a free count is presented to the guidance unit (R106). -/
def State.changeBay (s : State) (i : Fin 48) (f : Bay → Bay) : State :=
  let s1 := s.setBay i f
  if decide (s.bayState i = .free) = decide (s1.bayState i = .free) then s1 else s1.presentCounts

/-- A bay enters a state by confirmation, hold or release. -/
def Bay.enter (st : BayState) (b : Bay) : Bay := { b with state := st }

/-- Every bay's indicator re-formed on a change of zone state (R108). -/
def State.reformIndicators (s : State) : State :=
  { s with scanner := { s.scanner with
      bays := s.scanner.bays.mapIdx fun i b => b.reform s.grave s.scanner.flashOn (s.settings.bays.get i).cls } }

/-! ## Lead-in (R127) -/

/-- The lamp channel of an entry's source port (R127). -/
def sourceChannel (cfg : Settings) : Source → Option (Fin 8)
  | .port p => (cfg.ports.get p).lamp
  | .transit u =>
    match cfg.placeOfUnit u with
    | none => none
    | some n =>
      match (cfg.neighbours.get n).port with
      | none => none
      | some p => (cfg.ports.get p).lamp

/-- The entry names channel `k` as a lead-in channel (R127). -/
def Arrival.names (cfg : Settings) (k : Fin 8) (a : Arrival) : Bool :=
  match a.bay with
  | none => false
  | some b => decide (sourceChannel cfg a.source = some k) || decide ((cfg.bays.get b).lamp = some k)

/-- The lead-in demand of one channel re-formed; a change is presented to the lamps (R127, R146). -/
def State.reformLeadInOf (s : State) (k : Fin 8) : State :=
  let d := s.tracker.list.any (Arrival.names s.settings k)
  if s.tracker.leadIn.get k = d then s
  else { s with tracker := { s.tracker with leadIn := s.tracker.leadIn.set k d } }.presentLeadIn k d

/-- Every lead-in demand re-formed (R127). -/
def State.reformLeadIn (s : State) : State := (List.finRange 8).foldl State.reformLeadInOf s

/-! ## Hold rounds (R107, R120, R121) -/

/-- A FREE GENERAL bay. -/
def State.holdable (s : State) (b : Fin 48) : Bool :=
  decide (s.bayState b = .free) && decide ((s.settings.bays.get b).cls = .general)

/-- The better ranked of the bay found so far and a further bay. -/
def State.betterBay (s : State) (cur : Option (Fin 48)) (b : Fin 48) : Option (Fin 48) :=
  if s.holdable b then
    match cur with
    | none => some b
    | some a => if (s.settings.bays.get b).rank < (s.settings.bays.get a).rank then some b else some a
  else cur

/-- The FREE GENERAL bay with the lowest rank number (R120). -/
def State.chooseBay (s : State) : Option (Fin 48) := (List.finRange 48).foldl s.betterBay none

/-- The answer to a hold request. -/
structure Granted where
  state : State
  granted : Bool

/-- A hold request (R107). -/
def State.holdRequest (s : State) (b : Fin 48) : Granted :=
  if s.bayState b = .free then
    ⟨(s.changeBay b (Bay.enter .held)).countBay fun k => { k with holdsGranted := bump k.holdsGranted }, true⟩
  else ⟨s.countBay fun k => { k with holdsRefused := bump k.holdsRefused }, false⟩

/-- The oldest unheld entry takes a bay (R121). -/
def giveBay (b : Fin 48) : List Arrival → List Arrival
  | [] => []
  | a :: rest => if a.bay.isNone then { a with bay := some b } :: rest else a :: giveBay b rest

/-- An entry of the list is unheld. -/
def State.hasUnheld (s : State) : Bool := s.tracker.list.any fun a => a.bay.isNone

def State.setList (s : State) (l : List Arrival) : State := { s with tracker := { s.tracker with list := l } }

/-- One pass of a hold round, where one is to be taken (R120). -/
def State.holdPass (s : State) (b : Fin 48) : State :=
  let r := s.holdRequest b
  if r.granted then (r.state.setList (giveBay b r.state.tracker.list)).reformLeadIn else r.state

/-- Passes of a hold round, at most `n` of them (R120). A pass chooses its bay and asks for it in one, so a request
finds the bay FREE and HOLDS_REFUSED stays as it is (R107; log 35). -/
def holdPasses : Nat → State → State
  | 0, s => s
  | n + 1, s =>
    if s.grave || !s.hasUnheld then s
    else match s.chooseBay with
      | none => s
      | some b => holdPasses n (s.holdPass b)

/-- A hold round: a pass for each entry is enough, as every pass gives a bay (R120). -/
def State.holdRound (s : State) : State := holdPasses s.tracker.list.length s

/-! ## Releases and removals (R107, R121 to R125) -/

/-- A release request: a HELD bay becomes FREE and, as a freed bay, starts a hold round; any other is left (R107,
R123). -/
def State.release (s : State) (b : Fin 48) : State :=
  if s.bayState b = .held then (s.changeBay b (Bay.enter .free)).holdRound else s

/-- After an entry has left: its lead-in goes, and the bay it held is released (R121, R127). -/
def State.endHold (s : State) (a : Arrival) : State :=
  match a.bay with
  | none => s
  | some b => s.reformLeadIn.release b

/-- The oldest entry leaves the list, counted by `f`; with an empty list nothing happens (R122, R124, R125). -/
def State.removeOldest (s : State) (f : ArrivalCounters → ArrivalCounters) : State :=
  match s.tracker.list with
  | [] => s
  | a :: rest => ((s.setList rest).countArrival f).endHold a

/-- Room for a further entry: the oldest of a full list is evicted (R119, step 1). -/
def State.evict (s : State) : State :=
  if Config.arrivalPlaces ≤ s.tracker.list.length then
    s.removeOldest fun k => { k with evicted := bump k.evicted }
  else s

/-- An arrival is added (R119). -/
def State.addArrival (s : State) (src : Source) : State :=
  let s1 := s.evict
  let entry : Arrival := ⟨s1.now, src, s1.now + 1000 * s1.settings.lifetime, none⟩
  ((s1.setList (s1.tracker.list ++ [entry])).countArrival fun k => { k with added := bump k.added }).holdRound

/-- The oldest entry is passed on (R124). -/
def State.passOn (s : State) : State := s.removeOldest fun k => { k with passed := bump k.passed }

/-- An entry holds bay `b`. -/
def Arrival.holds (b : Fin 48) (a : Arrival) : Bool := decide (a.bay = some b)

/-- A parking, naming the bay confirmed OCCUPIED (R122). -/
def State.parking (s : State) (b : Fin 48) : State :=
  if s.tracker.list.any (Arrival.holds b) then
    ((s.setList (s.tracker.list.eraseP (Arrival.holds b))).countArrival fun k =>
      { k with matched := bump k.matched }).reformLeadIn
  else s.removeOldest fun k => { k with assumed := bump k.assumed }

/-- The entry that held a bay loses it to a detector fault and keeps its place; a hold round follows (R123). -/
def State.holdLost (s : State) (b : Fin 48) : State :=
  let list := s.tracker.list.map fun a => if a.holds b then { a with bay := none } else a
  (((s.setList list).countArrival fun k => { k with holdsLost := bump k.holdsLost }).reformLeadIn).holdRound

/-- Every entry leaves the list, and every HELD bay is released (R126). -/
def State.clearArrivals (s : State) : State :=
  let s1 := ((s.setList []).countArrival fun k => { k with cleared := bumpBy s.tracker.list.length k.cleared }).reformLeadIn
  (List.finRange 48).foldl State.release s1

/-- The arrival tracker takes a change of zone state (R126). -/
def State.arrivalsZoneChange (s : State) (wasGrave : Bool) : State :=
  if s.grave = wasGrave then s else if s.grave then s.clearArrivals else s.holdRound

end Sys2Proof.Machine
end

