-- ==== Sys2Proof/Machine/ZoneCtl.lean ====
section
/-! DEFINITION. The zone state controller: causes, evaluation, changes of the zone state (Chapter 10). -/

namespace Sys2Proof.Machine

/-- A DIVERT cause holds (R155). -/
def ZoneCtl.causeHolds (z : ZoneCtl) : Bool := z.scoreCause || z.gasCause.co || z.gasCause.no2 || z.ventCause

/-- The state outside ALARM and PURGE that the causes give. -/
def ZoneCtl.byCauses (z : ZoneCtl) : ZoneState := if z.causeHolds then .divert else .normal

/-- The state that an evaluation forms (R158; R160 where PURGE is released). -/
def ZoneCtl.evaluation (cfg : Settings) (z : ZoneCtl) : ZoneState :=
  if z.purgeIn then .purge
  else match z.state with
    | .purge => if cfg.alarmOff ≤ z.fsLast then .alarm else z.byCauses
    | .alarm => .alarm
    | .normal | .divert => if cfg.alarmOn ≤ z.fsLast then .alarm else z.byCauses

/-- The counters of a change to a state (R161, R163). -/
def ZoneCounters.enter (st : ZoneState) (k : ZoneCounters) : ZoneCounters :=
  let k1 := { k with stateChanges := bump k.stateChanges }
  match st with
  | .normal => k1
  | .divert => { k1 with divertEntries := bump k1.divertEntries }
  | .alarm => { k1 with alarmEntries := bump k1.alarmEntries }
  | .purge => { k1 with purgeEntries := bump k1.purgeEntries }

/-- The alarm hold, started afresh (R159). -/
def Settings.holdTimer (c : Settings) : Timer := .running (1000 * c.alarmHold)

/-- The controller enters a state: an entry to ALARM starts the alarm hold, any other leaves it stopped (R159). -/
def ZoneCtl.enter (cfg : Settings) (st : ZoneState) (z : ZoneCtl) : ZoneCtl :=
  { z with
    state := st
    hold := if st = .alarm then cfg.holdTimer else .stopped
    counters := z.counters.enter st }

/-- The blocks take a change of zone state, and its report event is presented (R161; the order is log 8). -/
def State.presentZoneChange (s : State) (wasGrave : Bool) : State :=
  let s1 := if s.grave = wasGrave then s else s.onComms reorderQueue
  let s2 := (s1.reformIndicators).arrivalsZoneChange wasGrave
  let s3 := (s2.gasZoneChange wasGrave).lampsZoneChange wasGrave
  (s3.presentZone.reworkDemand).reportEvent

/-- The zone changes to a state (R161). -/
def State.setZone (s : State) (st : ZoneState) : State :=
  ({ s with zone := s.zone.enter s.settings st }).presentZoneChange s.grave

/-- An evaluation: one that gives the current state changes nothing (R158). -/
def State.evaluate (s : State) : State :=
  if s.zone.evaluation s.settings = s.zone.state then s else s.setZone (s.zone.evaluation s.settings)

/-- The score cause after FS is presented (R156). -/
def scoreCauseOf (cfg : Settings) (fs : Nat) (cause : Bool) : Bool :=
  if cfg.divertOn ≤ fs then true else if fs < cfg.divertOff then false else cause

/-- FS presented to the controller (R156, R159). -/
def ZoneCtl.takeFs (cfg : Settings) (fs : Nat) (z : ZoneCtl) : ZoneCtl :=
  { z with
    fsLast := fs
    scoreCause := scoreCauseOf cfg fs z.scoreCause
    hold := if z.state = .alarm ∧ cfg.alarmOff ≤ fs then cfg.holdTimer else z.hold }

/-- FS is presented to the zone state controller, which evaluates (R156). -/
def State.zoneTakesFs (s : State) : State :=
  { s with zone := s.zone.takeFs s.settings s.fume.fs }.evaluate

/-- A change of a fitted gas's validity is presented to the zone state controller (R157). -/
def State.zoneTakesGas (s : State) (g : Gas) : State :=
  { s with zone := { s.zone with gasCause := s.zone.gasCause.set g (s.invalid g) } }.evaluate

/-- A setting or clearing of NO_VENT is presented to the zone state controller (R157). -/
def State.ventSettle (s : State) : State :=
  if s.operating && decide (s.zone.ventCause ≠ s.comms.fan.noVent) then
    { s with zone := { s.zone with ventCause := s.comms.fan.noVent } }.evaluate
  else s

/-- The state that ALARM is left for at the expiry of the alarm hold, or ALARM where FS has not fallen (R159). -/
def ZoneCtl.afterHold (cfg : Settings) (z : ZoneCtl) : ZoneState :=
  if z.fsLast < cfg.alarmOff then z.byCauses else .alarm

end Sys2Proof.Machine
end

