-- ==== Sys2Proof/Machine/Fume.lean ====
section
/-! DEFINITION. The fume unit: concentrations, updates, exposures, scores, movement (Chapter 2). -/

namespace Sys2Proof.Machine

/-! ## Concentrations (R18) -/

/-- A concentration and the range flag its sample sets. -/
structure Sampled where
  value : Nat
  high : Bool
  low : Bool
  deriving DecidableEq, Repr

/-- The concentration of a code (R18). -/
def concentration (full zr span raw : Nat) : Sampled :=
  if raw < zr then ⟨0, false, true⟩
  else
    let c := (raw - zr) * span / 256
    if full < c then ⟨full, true, false⟩ else ⟨c, false, false⟩

/-- A flag set by a sample: a setting after the last report was built is not carried by it (R19). -/
def RangeFlag.raise (on : Bool) (f : RangeFlag) : RangeFlag := if on then ⟨true, false⟩ else f

/-- A flag taken into a report that is built (R19). -/
def RangeFlag.carry (f : RangeFlag) : RangeFlag := { f with carried := f.isSet }

/-- A flag once the report that was built has been delivered (R19). -/
def RangeFlag.delivered (f : RangeFlag) : RangeFlag := if f.carried then ⟨false, false⟩ else f

def Fume.count (f : Fume) (c : FumeCounters → FumeCounters) : Fume := { f with counters := c f.counters }

/-- The fume unit takes the flags of a sample of a gas (R18, R34). -/
def Fume.takeSample (g : Gas) (x : Sampled) (f : Fume) : Fume :=
  let y := f.gases.get g
  let y1 := { y with overRange := y.overRange.raise x.high, underRange := y.underRange.raise x.low }
  ({ f with gases := f.gases.set g y1 }).count fun k =>
    { k with
      overSamples := if x.high then bump k.overSamples else k.overSamples
      underSamples := if x.low then bump k.underSamples else k.underSamples }

/-- Every range flag changed. -/
def Fume.onFlags (h : RangeFlag → RangeFlag) (f : Fume) : Fume :=
  { f with gases := f.gases.map fun y => { y with overRange := h y.overRange, underRange := h y.underRange } }

/-! ## Scores (R27 to R29, R32) -/

/-- A score: an index against its limit, held at 1023 (R27). -/
def scoreOf (index limit : Nat) : Nat := min Config.top (index * 256 / limit)

/-- The greater of two optional numbers. -/
def maxOption (a b : Option Nat) : Option Nat :=
  match a, b with
  | none, x => x
  | x, none => x
  | some x, some y => some (max x y)

/-- What a gas brings to FS: nothing while it is not fitted or INVALID (R28). -/
def gasScore (fitted : Bool) (y : GasFume) : Option Nat :=
  if fitted && y.valid then
    some (match y.exposure with
      | some _ => max y.shortScore y.exposureScore
      | none => y.shortScore)
  else none

/-- FS recomputed; with no valid gas it keeps its value (R28). -/
def Fume.nextFs (cfg : Settings) (f : Fume) : Nat :=
  (maxOption (gasScore (cfg.fitted .co) f.gases.co) (gasScore (cfg.fitted .no2) f.gases.no2)).getD f.fs

/-- ES0: the greatest of FS and the present assist terms (R29). -/
def Fume.nextEs0 (f : Fume) : Nat := f.terms.cells.foldl (fun m t => max m (t.getD 0)) f.fs

/-- M, the sum of the movement bins (R30). -/
def Fume.m (f : Fume) : Nat := f.movement.cells.foldl (· + ·) 0

/-- ES (R32). -/
def Fume.nextEs (cfg : Settings) (f : Fume) : Nat :=
  min Config.top (f.nextEs0 + (f.m * cfg.km + f.q * cfg.kq) / 4)

/-- ES0 and ES recomputed; ES is presented to the fan controller, which works out its demand (R32). -/
def State.reformEs (s : State) : State :=
  { s with fume := { s.fume with es0 := s.fume.nextEs0, es := s.fume.nextEs s.settings } }.reworkDemand

/-- FS recomputed and presented: to the zone state controller, the gas front end and ES (R28). -/
def State.reformFs (s : State) : State :=
  let s1 := { s with fume := { s.fume with fs := s.fume.nextFs s.settings } }
  let s2 := s1.zoneTakesFs
  let s3 := if s1.fume.fs = s.fume.fs then s2 else s2.gasTakesFs
  s3.reformEs

/-! ## Movement and queues (R30, R31) -/

/-- The index of the current movement bin; the ring is held oldest first. -/
def currentBin : Fin 6 := 5

/-- A movement event (R30). -/
def State.movementEvent (s : State) : State :=
  { s with fume := { s.fume with
      movement := s.fume.movement.modify currentBin fun n => min 255 (n + 1) } }.reformEs

/-- A roll: the oldest bin is discarded and a new current bin starts at 0 (R30). -/
def rollRing (t : Tbl 6 Nat) : Tbl 6 Nat := Tbl.ofFn fun i => if i = currentBin then 0 else t.get (i + 1)

/-- The number of lanes in use whose QUEUE flag is set, lanes in FAULT apart (R31). -/
def State.queueLanes (s : State) : Nat :=
  ((List.finRange 4).filter fun p =>
    (s.scanner.lanes.get p).queue && decide ((s.scanner.lanes.get p).state ≠ .fault)).length

/-- A setting or clearing of a QUEUE flag is presented to the fume unit (R31). -/
def State.presentQueue (s : State) : State := { s with fume := { s.fume with q := s.queueLanes } }.reformEs

/-! ## Assist terms (R29) -/

/-- The assist term of a neighbour entry (R29). -/
def assistOf (weight : Nat) (n : Neighbour) : Option Nat :=
  n.contents.map fun c => min Config.top c.report.fs * weight / 8

/-- A change of a neighbour entry is presented to the fume unit (R29, R94). -/
def State.presentTerm (s : State) (n : Fin 8) : State :=
  { s with fume := { s.fume with
      terms := s.fume.terms.set n (assistOf (s.settings.neighbours.get n).weight (s.peers.get n)) } }.reformEs

/-! ## The gas update (R20 to R24) -/

/-- The latest value of a head usable at a gas update (R21). -/
def usableValue (cfg : Settings) (x : Head) : Option Nat :=
  if x.state = .active ∧ x.isYoung cfg = true then x.latest.map (·.value) else none

/-- The combined value of a gas (R21). -/
def State.combined (s : State) (g : Gas) : Option Nat :=
  let value := fun h => usableValue s.settings (s.gas.heads.get h)
  match g with
  | .co => maxOption (value 0) (value 1)
  | .no2 => maxOption (value 2) (value 3)

/-- The short index (R23). -/
def GasFume.cs (y : GasFume) : Nat := y.acc / 4

/-- A good update (R22, R23, R24, R27). -/
def GasFume.goodUpdate (limit x : Nat) (y : GasFume) : GasFume :=
  let acc := y.acc - y.acc / 4 + x
  { y with
    acc := acc
    sum := y.sum + x
    count := y.count + 1
    skips := 0
    valid := true
    shortScore := scoreOf (acc / 4) limit }

/-- A skipped update (R22). -/
def GasFume.skippedUpdate (y : GasFume) : GasFume :=
  if y.skips < 2 then { y with skips := y.skips + 1 } else { y with skips := 3, valid := false }

/-- One fitted gas at an expiry of the gas update timer, with its counters (R22, R34). -/
def State.updateGas (s : State) (g : Gas) : State :=
  if s.settings.fitted g then
    let y := s.fume.gases.get g
    match s.combined g with
    | some x =>
      { s with fume := { s.fume with gases := s.fume.gases.set g (y.goodUpdate (s.settings.shortLimit.get g) x) } }
    | none =>
      let z := y.skippedUpdate
      let f := { s.fume with gases := s.fume.gases.set g z }
      { s with fume := f.count fun k =>
          { k with
            skippedUpdates := bump k.skippedUpdates
            gasInvalid := if y.valid && !z.valid then bump k.gasInvalid else k.gasInvalid } }
  else s

/-- A change of a gas's validity is presented to the fan controller and the zone state controller; `was` is its
validity before the update (R22, R157). -/
def State.presentValidity (s : State) (g : Gas) (was : Bool) : State :=
  if (s.fume.gases.get g).valid = was then s else (s.reworkDemand).zoneTakesGas g

/-- The gas update: both gases updated, the changes of validity presented, FS recomputed (R20, R22, R28). -/
def State.gasUpdate (s : State) : State :=
  let s1 := (s.updateGas .co).updateGas .no2
  let s2 := s1.presentValidity .co s.fume.gases.co.valid
  (s2.presentValidity .no2 s.fume.gases.no2.valid).reformFs

/-! ## The minute boundary (R25, R26) -/

/-- The updates a full minute is expected to bring: 60 s over Ts, which is kept in tenths of a second (R25). -/
def updatesPerMinute (cfg : Settings) : Nat := 600 / cfg.tsTenths

/-- The bin a minute closes into (R25). -/
def closingBin (cfg : Settings) (y : GasFume) : Option Nat :=
  if updatesPerMinute cfg ≤ 2 * y.count then some (y.sum / y.count) else none

/-- The ring with a new bin in the place of the oldest (R25). -/
def pushBin (bin : Option Nat) (t : Tbl 15 (Option Nat)) : Tbl 15 (Option Nat) :=
  Tbl.ofFn fun i => if i = 14 then bin else t.get (i + 1)

/-- The exposure of a ring, present while it is complete (R26). -/
def exposureOf (t : Tbl 15 (Option Nat)) : Option Nat :=
  let bins := t.cells.filterMap id
  if 10 ≤ bins.length then some (bins.foldl (· + ·) 0 / bins.length) else none

/-- A gas closes its minute (R25 to R27). The exposure score exists while the exposure is complete; else it is kept
at 0. -/
def GasFume.closeMinute (cfg : Settings) (limit : Nat) (y : GasFume) : GasFume :=
  let ring := pushBin (closingBin cfg y) y.ring
  let exposure := exposureOf ring
  { y with
    sum := 0
    count := 0
    ring := ring
    exposure := exposure
    exposureScore := match exposure with
      | some e => scoreOf e limit
      | none => 0 }

/-- One fitted gas at a minute boundary, with its counter (R25, R34). -/
def State.closeGas (s : State) (g : Gas) : State :=
  if s.settings.fitted g then
    let y := s.fume.gases.get g
    let f := { s.fume with gases := s.fume.gases.set g (y.closeMinute s.settings (s.settings.exposureLimit.get g)) }
    { s with fume := f.count fun k =>
        { k with absentBins := if (closingBin s.settings y).isNone then bump k.absentBins else k.absentBins } }
  else s

/-- The minute boundary: both gases close their minute, and FS is recomputed (R24 to R28). -/
def State.closeMinute (s : State) : State := ((s.closeGas .co).closeGas .no2).reformFs

end Sys2Proof.Machine
end

