-- ==== Sys2Proof/Machine/Operands.lean ====
section
/-! DEFINITION. What the bytes of a request name: a fan, a head, a bay or a lane, an offset of the image (R179). -/

namespace Sys2Proof.Machine

/-- The index below `n` that a byte names, if it names one. -/
def indexOf (n : Nat) (x : Byte) : Option (Fin n) := if h : x.toNat < n then some ⟨x.toNat, h⟩ else none

/-- The present fan a byte names (R51, R54). -/
def Settings.fanOf (c : Settings) (x : Byte) : Option (Fin 4) := (indexOf 4 x).filter fun i => (c.fans.get i).present

/-- The present head a byte names (R16). -/
def Settings.headOf (c : Settings) (x : Byte) : Option (Fin 4) := (indexOf 4 x).filter fun h => (c.heads.get h).present

/-- The lane in use a byte names: its port is owned (R110, R115). -/
def Settings.laneOf (c : Settings) (x : Byte) : Option (Fin 4) := (indexOf 4 x).filter fun p => (c.ports.get p).owned

/-- The bay in use and not configured closed that a byte names (R115). -/
def Settings.bayOf (c : Settings) (x : Byte) : Option (Fin 48) :=
  (indexOf 48 x).filter fun b => (c.bays.get b).inUse && !(c.bays.get b).closed

/-- The offset a CONFIG WRITE or CONFIG READ names: four times the argument (R179). -/
def offsetOf (x : Byte) : Nat := 4 * x.toNat

/-- The offset is a multiple of 8 from 0 to 504 (R170). -/
def offsetOk (o : Nat) : Bool := decide (o % 8 = 0) && decide (o ≤ 504)

/-- The byte of request data at a position; the data length is fixed by the request kind (R179). -/
def dataByte (data : List Byte) (i : Nat) : Byte := data.getD i 0

/-- The eight bytes of an image from an offset (R170). -/
def Image.chunk (im : Image) (o : Nat) : List Byte := (im.cells.drop o).take 8

/-- The image with the byte at a position replaced. -/
def Image.setByte (im : Image) (i : Nat) (x : Byte) : Image := ⟨im.cells.set i x, by simp [im.size]⟩

/-- The image with a list of bytes put in from an offset (R170). -/
def Image.setChunk (im : Image) (o : Nat) : List Byte → Image
  | [] => im
  | x :: rest => Image.setChunk (Image.setByte im o x) (o + 1) rest

end Sys2Proof.Machine
end

