-- ==== Sys2Proof/Machine/Bays.lean ====
section
/-! DEFINITION. Scans, polls, confirmations and faults of the bays; lanes, passages and queues (Chapter 6). -/

namespace Sys2Proof.Machine

/-! ## Scans (R102, R109) -/

/-- A bay that a scan polls (R101, R102). -/
def BayState.isPolled : BayState → Bool
  | .unknown | .free | .held | .occupied => true
  | .unused | .closed | .fault => false

/-- The indicator command of a bay sent again (R109). -/
def Bay.resend (flashOn : Bool) (b : Bay) : Bay := { b with shown := colourOf flashOn b.indicator }

/-- A scan begins: the bays to poll, in index order, and every bay's indicator command sent again (R102, R109). -/
def State.beginScan (s : State) : State :=
  { s with scanner := { s.scanner with
      bays := s.scanner.bays.map (Bay.resend s.scanner.flashOn)
      polls := (List.finRange 48).filter fun b => (s.bayState b).isPolled
      scan := .running (100 * s.settings.scanTenths) } }

/-- The bay has answered, or has failed to: the scan goes on to the next bay (R102). -/
def State.polled (s : State) (b : Fin 48) : State :=
  { s with scanner := { s.scanner with polls := s.scanner.polls.erase b } }

/-- The flash phase toggles, and every flashing bay is sent the new phase (R109). -/
def State.toggleFlash (s : State) : State :=
  let phase := !s.scanner.flashOn
  { s with scanner := { s.scanner with
      flashOn := phase
      flash := .running Config.flashMs
      bays := s.scanner.bays.map fun b => if b.indicator = .flashing then b.resend phase else b } }

/-! ## Polls (R103 to R105) -/

/-- The settled meaning of a bay state (R101). -/
def settledMeaning : BayState → Option Reading
  | .free | .held => some .vacant
  | .occupied => some .occupied
  | _ => none

/-- The bay after an answer, before a confirmation (R103). -/
def Bay.takeReading (r : Reading) (b : Bay) : Bay :=
  if settledMeaning b.state = some r then { b with candidate := none, agreeing := 0, noAnswer := 0 }
  else if b.candidate = some r then { b with agreeing := b.agreeing + 1, noAnswer := 0 }
  else { b with candidate := some r, agreeing := 1, noAnswer := 0 }

/-- The state a confirmed reading gives (R104). -/
def stateOfReading : Reading → BayState
  | .vacant => .free
  | .occupied => .occupied

/-- The bay whose reading is confirmed: its new state, no candidate, the count at 0 (R103, R104). -/
def Bay.confirm (r : Reading) (b : Bay) : Bay :=
  { b with state := stateOfReading r, candidate := none, agreeing := 0 }

/-- A parking or a departure: movement at the fume unit, and presence at the bay's lamp channel (R104). -/
def State.bayMovement (s : State) (b : Fin 48) : State := s.movementEvent.bayPresence (s.settings.bays.get b).lamp

/-- A confirmed reading of a bay that was in state `was`, presented (R104; the order is log 8). -/
def State.confirmReading (s : State) (b : Fin 48) (r : Reading) : State :=
  let s1 := (s.changeBay b (Bay.confirm r)).countBay fun k => { k with bayConfirms := bump k.bayConfirms }
  match s.bayState b, r with
  | .unknown, .vacant => s1.holdRound
  | .unknown, .occupied => s1
  | _, .vacant => (s1.bayMovement b).holdRound
  | _, .occupied => (s1.bayMovement b).parking b

/-- The candidate reading has been given by the confirm count's worth of polls (R103). -/
def Bay.isConfirmed (confirm : Nat) (b : Bay) : Bool := b.candidate.isSome && decide (confirm ≤ b.agreeing)

/-- An answer of a bay (R103). -/
def State.bayAnswers (s : State) (b : Fin 48) (r : Reading) : State :=
  let s1 := (s.setBay b (Bay.takeReading r)).polled b
  if (s1.scanner.bays.get b).isConfirmed s.settings.confirm then s1.confirmReading b r else s1

/-- The bay in FAULT (R105). -/
def Bay.fault (b : Bay) : Bay := { b with state := .fault, candidate := none, agreeing := 0, noAnswer := 0 }

/-- A bay enters FAULT; a HELD bay takes its hold with it (R105, R123). -/
def State.bayFails (s : State) (b : Fin 48) : State :=
  let s1 := (s.changeBay b Bay.fault).countBay fun k => { k with bayFaults := bump k.bayFaults }
  if s.bayState b = .held then s1.holdLost b else s1

/-- A poll without an answer (R105). -/
def State.bayNoAnswers (s : State) (b : Fin 48) : State :=
  let s1 := ((s.setBay b fun x => { x with noAnswer := x.noAnswer + 1 }).polled b).countBay fun k =>
    { k with noAnswers := bump k.noAnswers }
  if Config.noAnswerLimit ≤ (s1.scanner.bays.get b).noAnswer then s1.bayFails b else s1

/-- A bay in FAULT is cleared: UNKNOWN, no candidate, both counts 0 (R115). -/
def State.clearBay (s : State) (b : Fin 48) : State :=
  s.setBay b fun x => { x with state := .unknown, candidate := none, agreeing := 0, noAnswer := 0 }

/-! ## Lanes (R110 to R113) -/

/-- At least one loop is active (R112). -/
def anyActive (l : Loops) : Bool := l.a || l.b

/-- The level of one loop. -/
def levelOf (l : Loops) : Loop → Bool
  | .a => l.a
  | .b => l.b

/-- One loop's level set. -/
def setLevel (l : Loops) (x : Loop) (on : Bool) : Loops :=
  match x with
  | .a => { l with a := on }
  | .b => { l with b := on }

/-- What the decoding of a loop change gives besides the lane's next state (R111). -/
inductive Passage where
  | none
  | aborted
  | inward
  | outward
  deriving DecidableEq, Repr

/-- The next state of a lane and what it decoded (R111). -/
structure Decoded where
  state : LaneState
  passage : Passage
  deriving DecidableEq, Repr

/-- The table of R111; `l` holds the levels after the change. A change that the levels of a state cannot present leaves
the lane as it is. -/
def decodeLane (st : LaneState) (l : Loops) (x : Loop) (on : Bool) : Decoded :=
  match st, x, on with
  | .clear, .a, true => ⟨if l.b then .clear else .firstA, .none⟩
  | .clear, .b, true => ⟨if l.a then .clear else .firstB, .none⟩
  | .firstA, .a, false => ⟨.clear, .aborted⟩
  | .firstA, .b, true => ⟨.spanA, .none⟩
  | .spanA, .a, false => ⟨.tailA, .none⟩
  | .spanA, .b, false => ⟨.firstA, .none⟩
  | .tailA, .a, true => ⟨.spanA, .none⟩
  | .tailA, .b, false => ⟨.clear, .inward⟩
  | .firstB, .a, true => ⟨.spanB, .none⟩
  | .firstB, .b, false => ⟨.clear, .aborted⟩
  | .spanB, .a, false => ⟨.firstB, .none⟩
  | .spanB, .b, false => ⟨.tailB, .none⟩
  | .tailB, .a, false => ⟨.clear, .outward⟩
  | .tailB, .b, true => ⟨.spanB, .none⟩
  | st, _, _ => ⟨st, .none⟩

/-- The stuck timer of a loop at a level (R110). -/
def stuckTimer (on : Bool) : Timer := if on then .running Config.loopStuckMs else .stopped

/-- A lane with one loop's stuck timer set. -/
def Lane.setStuck (x : Loop) (t : Timer) (l : Lane) : Lane :=
  match x with
  | .a => { l with stuckA := t }
  | .b => { l with stuckB := t }

def Lane.stuck (l : Lane) : Loop → Timer
  | .a => l.stuckA
  | .b => l.stuckB

def State.laneAt (s : State) (p : Fin 4) : Lane := s.scanner.lanes.get p

def State.setLane (s : State) (p : Fin 4) (l : Lane) : State :=
  { s with scanner := { s.scanner with lanes := s.scanner.lanes.set p l } }

/-- The queue time in ms (06, 6.1). -/
def Settings.queueTimer (c : Settings) : Timer := .running (1000 * c.queueTime)

/-- Presence begins at a lane: its presence timer starts, and the lamps are told (R112). -/
def State.presenceBegins (s : State) (p : Fin 4) : State :=
  (s.setLane p { s.laneAt p with presence := s.settings.queueTimer }).presenceStart (s.settings.ports.get p).lamp

/-- A QUEUE flag that was set is cleared, and the clearing presented (R112, R113). -/
def State.dropQueue (s : State) (p : Fin 4) : State :=
  if (s.laneAt p).queue then (s.setLane p { s.laneAt p with queue := false }).presentQueue else s

/-- Presence ends at a lane (R112). -/
def State.presenceEnds (s : State) (p : Fin 4) : State :=
  let s1 := (s.setLane p { s.laneAt p with presence := .stopped }).dropQueue p
  s1.presenceEnd (s.settings.ports.get p).lamp

/-- The TRANSIT NOTICE of a passage, offered where the port has a neighbour (R100, R114). -/
def State.offerTransit (s : State) (p : Fin 4) (d : Direction) : State :=
  match s.settings.placeOfPort p with
  | none => s
  | some n => s.onComms fun e c => offer e (.transit (s.settings.neighbours.get n).unit d p) c

/-- The effects of what a lane decoded (R111, R114). -/
def State.passageEffects (s : State) (p : Fin 4) (x : Passage) : State :=
  match x with
  | .none => s
  | .aborted => s.countBay fun k => { k with passagesAborted := bump k.passagesAborted }
  | .inward =>
    let s1 := s.countBay fun k => { k with passagesIn := bump k.passagesIn }
    (s1.movementEvent.addArrival (.port p)).offerTransit p .outOf
  | .outward =>
    let s1 := s.countBay fun k => { k with passagesOut := bump k.passagesOut }
    (s1.movementEvent.passOn).offerTransit p .into

/-- A loop change at a lane that is not in FAULT (R110 to R112). -/
def State.laneMoves (s : State) (p : Fin 4) (x : Loop) (on : Bool) : State :=
  let l := s.laneAt p
  let loops := setLevel l.loops x on
  let d := decodeLane l.state loops x on
  let s1 := s.setLane p ({ l with loops := loops, state := d.state }.setStuck x (stuckTimer on))
  let s2 := if !anyActive l.loops && anyActive loops then s1.presenceBegins p else s1
  let s3 := s2.passageEffects p d.passage
  if anyActive l.loops && !anyActive loops then s3.presenceEnds p else s3

/-- A loop change presented to its lane: in FAULT it moves the levels alone (R110, R111, R113). The levels move with the
filtered change, the command, and not before it (log 39). -/
def State.loopChanges (s : State) (p : Fin 4) (x : Loop) (on : Bool) : State :=
  let l := s.laneAt p
  if levelOf l.loops x = on then s
  else if l.state = .fault then s.setLane p { l with loops := setLevel l.loops x on }
  else s.laneMoves p x on

/-- The presence timer of a lane expires with presence continuing (R112). -/
def State.laneQueues (s : State) (p : Fin 4) : State :=
  let l := s.laneAt p
  if l.presence.isRunning then
    ((s.setLane p { l with presence := .stopped, queue := true }).countBay fun k =>
      { k with queuesSet := bump k.queuesSet }).presentQueue
  else s

/-- A stuck timer expires: the lane enters FAULT (R113). -/
def State.laneFails (s : State) (p : Fin 4) : State :=
  let l := s.laneAt p
  let s1 := (s.setLane p { l with state := .fault, presence := .stopped, stuckA := .stopped, stuckB := .stopped }).countBay
    fun k => { k with laneFaults := bump k.laneFaults }
  let s2 := s1.dropQueue p
  if anyActive l.loops then s2.presenceEnd (s.settings.ports.get p).lamp else s2

/-- A lane starts to decode from the loop levels as they stand: CLEAR, no QUEUE flag, the stuck timer of each active
loop started, presence begun where one is active (R110, R115). -/
def State.startLane (s : State) (p : Fin 4) (loops : Loops) : State :=
  let s1 := s.setLane p ⟨loops, .clear, .stopped, false, stuckTimer loops.a, stuckTimer loops.b⟩
  if anyActive loops then s1.presenceBegins p else s1

end Sys2Proof.Machine
end

