-- ==== Sys2Proof/Machine/Fans.lean ====
section
/-! DEFINITION. Speed supervision, faults, rotation, locks and boost of the fans (R47 to R56). -/

namespace Sys2Proof.Machine

/-- The measured speed of a period in µs (R47). -/
def speedOf (pulses periodUs : Nat) : Nat := if 1000000 < periodUs then 0 else 60000000 / (periodUs * pulses)

/-- The pass mark of a fan: half the speed expected at its duty (R47). -/
def passMark (cfg : FanCfg) (duty : Nat) : Nat := cfg.rated * duty / 510

/-- The fan passes a check; an absent speed is taken as 0 (R47). -/
def Fan.passes (cfg : FanCfg) (f : Fan) : Bool := decide (passMark cfg f.duty ≤ f.speed.getD 0)

/-- A measured speed, kept while the drive is on (R47). -/
def Fan.measure (v : Nat) (f : Fan) : Fan := if f.driveOn then { f with speed := some v } else f

/-- The record of a fan that enters FAULT (R50). Its failing-check count stays as the checks left it (log 19). -/
def Fan.fault (cause : FaultCause) (f : Fan) : Fan :=
  { f with
    state := .fault
    duty := 0
    speed := none
    cause := some cause
    handover := false
    hold := .stopped
    spinUp := .stopped
    check := .stopped }

/-- The record of a fan that is locked (R54). -/
def Fan.lock (f : Fan) : Fan :=
  { f with
    state := .locked
    duty := 0
    speed := none
    cause := none
    handover := false
    hold := .stopped
    spinUp := .stopped
    check := .stopped }

/-- A locked or faulted fan that returns to STOPPED (R51, R55). -/
def Fan.release (f : Fan) : Fan := { f with state := .stopped, cause := none }

/-- The fault counters (R58). -/
def FanCounters.fault (cause : FaultCause) (k : FanCounters) : FanCounters :=
  match cause with
  | .noStart => { k with noStartFaults := bump k.noStartFaults }
  | .stall => { k with stallFaults := bump k.stallFaults }

/-- A fan's record changed, and selection run (R40). -/
def changeFan (e : Env) (i : Fin 4) (f : Fan → Fan) (c : Comms) : Comms :=
  select e (c.setFan i (f (c.fanAt i)))

/-- A fan enters FAULT (R50). -/
def enterFault (e : Env) (i : Fin 4) (cause : FaultCause) (c : Comms) : Comms :=
  changeFan e i (Fan.fault cause) (c.countFan (FanCounters.fault cause))

/-- The record of a fan that passes its spin-up check (R48). -/
def Fan.run (f : Fan) : Fan :=
  { f with state := .running, failing := 0, spinUp := .stopped, check := .running Config.checkMs }

/-- The spin-up check; the incoming fan of a handover that enters RUNNING ends it, and selection runs (R48, R53). -/
def spinUpCheck (e : Env) (i : Fin 4) (c : Comms) : Comms :=
  if (c.fanAt i).passes (e.settings.fans.get i) then
    if c.fan.incoming = some i then changeFan e i Fan.run c else c.setFan i ((c.fanAt i).run)
  else enterFault e i .noStart c

/-- The spin-up timer expires: the check is taken, or stands due where a check hold runs (R48, R49). -/
def spinUpExpiry (e : Env) (i : Fin 4) (c : Comms) : Comms :=
  let f := c.fanAt i
  if f.state = .spinup ∧ f.spinUp.isRunning = true then
    if f.hold.isRunning then c.setFan i { f with spinUp := .expired } else spinUpCheck e i c
  else c

/-- A failing check of a RUNNING fan: the third consecutive one is a STALL (R49). -/
def failingCheck (e : Env) (i : Fin 4) (c : Comms) : Comms :=
  let f := c.fanAt i
  let c1 := c.setFan i { f with failing := f.failing + 1, check := .running Config.checkMs }
  if 3 ≤ f.failing + 1 then enterFault e i .stall c1 else c1

/-- A running check (R49). -/
def runningCheck (e : Env) (i : Fin 4) (c : Comms) : Comms :=
  let f := c.fanAt i
  if f.state = .running ∧ f.check.isRunning = true ∧ f.hold.isRunning = false then
    if f.passes (e.settings.fans.get i) then c.setFan i { f with failing := 0, check := .running Config.checkMs }
    else failingCheck e i c
  else c

/-- The check hold ends: a spin-up check that fell due is taken, and running checks resume (R49). -/
def holdExpiry (e : Env) (i : Fin 4) (c : Comms) : Comms :=
  let f := c.fanAt i
  if f.hold.isRunning then
    let f1 := { f with hold := .stopped }
    match f.state with
    | .running => c.setFan i { f1 with check := .running Config.checkMs }
    | .spinup =>
      if f.spinUp = .expired then spinUpCheck e i (c.setFan i f1) else c.setFan i f1
    | _ => c.setFan i f1
  else c

/-- The dwell timer expires (R35, R38). -/
def dwellExpiry (e : Env) (c : Comms) : Comms :=
  if c.fan.dwell.isRunning then reworkDemand e { c with fan := { c.fan with dwell := .expired } } else c

/-- The local spacing timer expires: a start that was waiting for it is made, and with the release gone R42 resumes
(R45, R46). -/
def spacingExpiry (e : Env) (c : Comms) : Comms :=
  if c.fan.spacing.isRunning then
    let c1 := localStarts e { c with fan := { c.fan with spacing := .stopped } }
    if c1.fan.release = c.fan.release then c1 else tryNotice 3 e c1
  else c

/-- The full rotation period in ms (R52). -/
def Settings.rotationMs (c : Settings) : Nat := 3600000 * c.rotationHours

/-- The lead order rotated one place (R52). -/
def rotateLead (l : List (Fin 4)) : List (Fin 4) := l.drop 1 ++ l.take 1

/-- The lead order rotates, and selection runs (R52, R53). -/
def rotate (e : Env) (c : Comms) : Comms :=
  let before := wantedSet e.settings c.fan
  let c1 := { c with fan := { c.fan with lead := rotateLead c.fan.lead } }
  selectRotated e before (c1.countFan fun k => { k with rotations := bump k.rotations })

/-- An available fan stands outside the wanted set (R52). -/
def spareFan (cfg : Settings) (fc : FanCtl) : Bool :=
  (List.finRange 4).any fun i => available cfg fc i && decide (i ∉ wantedSet cfg fc)

/-- The rotation timer expires; it runs while S is 1 or more (R52). -/
def rotationExpiry (e : Env) (c : Comms) : Comms :=
  if 1 ≤ c.fan.stage then
    let c1 := { c with fan := { c.fan with rotationLeft := e.settings.rotationMs } }
    if c.fan.incoming.isNone && spareFan e.settings c.fan then rotate e c1 else c1
  else c

/-- The boost timer expires (R56). -/
def boostExpiry (e : Env) (c : Comms) : Comms :=
  match c.fan.boost with
  | none => c
  | some _ =>
    reworkDemand e ({ c with fan := { c.fan with boost := none } }.countFan fun k =>
      { k with boostsEnded := bump k.boostsEnded })

/-- A boost override is set (R56). -/
def setBoost (e : Env) (stage minutes : Nat) (c : Comms) : Comms :=
  reworkDemand e { c with fan := { c.fan with boost := some ⟨stage, 60000 * minutes⟩ } }

/-- A fan is locked (R54). -/
def lockFan (e : Env) (i : Fin 4) (c : Comms) : Comms :=
  changeFan e i Fan.lock (c.countFan fun k => { k with lockedFans := bump k.lockedFans })

/-- A fan's lock or fault ends, and it enters STOPPED (R51, R55). -/
def freeFan (e : Env) (i : Fin 4) (c : Comms) : Comms := changeFan e i Fan.release c

end Sys2Proof.Machine
end

