-- ==== Sys2Proof/Machine/Flags.lean ====
section
/-! DEFINITION. The condition set (R83): each condition from its owner, and its bits (R179). -/

namespace Sys2Proof.Machine

/-- HEAD_FAULT: a head is in DRIFT or OPEN (R15). -/
def State.headFault (s : State) : Bool :=
  (List.finRange 4).any fun h =>
    decide ((s.gas.heads.get h).state = .drift) || decide ((s.gas.heads.get h).state = .openCircuit)

/-- FAN_FAULT: a fan is in FAULT (R39). -/
def State.fanFault (s : State) : Bool :=
  (List.finRange 4).any fun i => decide ((s.comms.fan.fans.get i).state = .fault)

/-- LANE_FAULT: a lane is in FAULT (R113). -/
def State.laneFault (s : State) : Bool :=
  (List.finRange 4).any fun p => decide ((s.scanner.lanes.get p).state = .fault)

/-- EXPOSURE_INCOMPLETE: the exposure of a fitted gas is incomplete (R26). -/
def State.exposureIncomplete (s : State) : Bool :=
  (s.settings.fitted .co && s.fume.gases.co.exposure.isNone) ||
    (s.settings.fitted .no2 && s.fume.gases.no2.exposure.isNone)

/-- OVER_RANGE: the OVER flag of either gas is set (R19). -/
def State.overRange (s : State) : Bool := s.fume.gases.co.overRange.isSet || s.fume.gases.no2.overRange.isSet

/-- UNDER_RANGE: the UNDER flag of either gas is set (R19). -/
def State.underRange (s : State) : Bool := s.fume.gases.co.underRange.isSet || s.fume.gases.no2.underRange.isSet

/-- The condition set, bit 0 first (R179); empty in COMMISSION (R176). -/
def State.conditionFlags (s : State) : List Bool :=
  [s.invalid .co, s.invalid .no2, s.operating && s.exposureIncomplete, s.operating && s.overRange,
    s.operating && s.underRange, s.operating && s.headFault, s.operating && s.fanFault,
    s.operating && s.comms.fan.fanShort, s.operating && s.comms.fan.noVent, s.operating && s.laneFault]

/-- A list of flags as a number, the first the least significant bit. -/
def flagsNumber : List Bool → Nat
  | [] => 0
  | b :: rest => (if b then 1 else 0) + 2 * flagsNumber rest

/-- The condition set as its 16-bit number (R179). -/
def State.conditionSet (s : State) : Nat := flagsNumber s.conditionFlags

end Sys2Proof.Machine
end

