-- ==== Sys2Proof/Machine/Peers.lean ====
section
/-! DEFINITION. The neighbour table, the start-notice list, and the reception of frames (R69, R89 to R97). -/

namespace Sys2Proof.Machine

/-! ## Start notices (R95 to R97) -/

/-- A window as entered: 2 s to 30 s (R95). -/
def clampWindow (w : Nat) : Nat := max 2 (min 30 w)

/-- The entry is of this unit and fan (R96). -/
def Notice.isOf (unit fan : Nat) (n : Notice) : Bool := n.unit == unit && n.fan == fan

/-- An entry is made in the start-notice list: it replaces one of the same unit and fan, or where the list is full the
one with the earliest time heard, the first, leaves (R95, R96; log 27). -/
def enterNotice (now unit fan w : Nat) (c : Comms) : Comms :=
  let entry : Notice := ⟨unit, fan, now, w, 1000 * w⟩
  if c.notices.any (Notice.isOf unit fan) then
    { c with notices := c.notices.filter (fun n => !n.isOf unit fan) ++ [entry] }
  else if c.notices.length < Config.noticePlaces then { c with notices := c.notices ++ [entry] }
  else
    { c with notices := c.notices.drop 1 ++ [entry] }.countPeer fun k => { k with noticesOverflow := bump k.noticesOverflow }

/-- A START NOTICE taken from another party (R95). -/
def noticeTaken (now unit fan w : Nat) (c : Comms) : Comms :=
  enterNotice now unit fan (clampWindow w) (c.countPeer fun k => { k with noticesHeard := bump k.noticesHeard })

/-- An entry expires: it leaves the list, and the fan controller tries again (R97, R42). -/
def noticeExpiry (e : Env) (unit fan : Nat) (c : Comms) : Comms :=
  if c.notices.any (Notice.isOf unit fan) then
    tryNotice 3 e { c with notices := c.notices.filter fun n => !n.isOf unit fan }
  else c

/-! ## The neighbour table (R91 to R94) -/

def State.setPeer (s : State) (n : Fin 8) (x : Neighbour) : State := { s with peers := s.peers.set n x }

/-- A change of an entry's contents or freshness is presented to the fume unit and to the guidance unit (R94). -/
def State.presentNeighbour (s : State) (n : Fin 8) : State := (s.presentTerm n).presentEntry n

/-- A report into an entry changes what R94 presents: its contents or its freshness. -/
def Neighbour.changedBy (x : Neighbour) (r : Report) : Bool :=
  decide (x.fresh ≠ .fresh) || decide (x.contents.map (·.report) ≠ some r)

/-- A report into entry `n` (R92, R93). The time taken is the last report's, also where its fields equal those stored
(log 34). -/
def State.takeReport (s : State) (n : Fin 8) (r : Report) : State :=
  let x := s.peers.get n
  let y : Neighbour :=
    ⟨some ⟨r, s.now⟩, .fresh, .running (1000 * s.settings.staleTime), .running (1000 * s.settings.lostTime)⟩
  let s1 := (s.setPeer n y).countPeer fun k => { k with reportsTaken := bump k.reportsTaken }
  if x.changedBy r then s1.presentNeighbour n else s1

def PeerCounters.ignored (k : PeerCounters) : PeerCounters := { k with reportsIgnored := bump k.reportsIgnored }

/-- A ZONE REPORT passed to the neighbour table (R92). -/
def State.reportReceived (s : State) (sender : Nat) (r : Report) : State :=
  match s.settings.placeOfUnit sender, zoneStateOfCode r.zoneState with
  | some n, some _ => s.takeReport n r
  | _, _ => s.countPeer PeerCounters.ignored

/-- The stale timer of an entry expires (R93). -/
def State.staleExpiry (s : State) (n : Fin 8) : State :=
  let x := s.peers.get n
  if x.fresh = .fresh ∧ x.stale.isRunning = true then
    (s.setPeer n { x with fresh := .stale, stale := .stopped }).presentNeighbour n
  else s

/-- The lost timer of an entry expires: a STALE entry turns LOST and its contents are cleared (R93). -/
def State.lostExpiry (s : State) (n : Fin 8) : State :=
  let x := s.peers.get n
  if x.fresh = .stale ∧ x.lost.isRunning = true then
    ((s.setPeer n Neighbour.reset).countPeer fun k =>
      { k with neighboursLost := bump k.neighboursLost }).presentNeighbour n
  else s

/-! ## Frames of other parties (R69, R71, R89, R90) -/

/-- Another party's frame has been on the bus: the bus-free count starts again after it, and at its stop no line is low
(R61, R76; log 12). -/
def Link.otherFrame (l : Link) : Link := { l with busFreeCount := 0, stuck := .stopped, stuckSpell := false }

/-- The bus after another party's frame. -/
def State.otherFrame (s : State) : State :=
  { s with comms := { s.comms with link := s.comms.link.otherFrame } }

def LinkCounters.taken (k : LinkCounters) : LinkCounters := { k with framesTaken := bump k.framesTaken }

def LinkCounters.clash (k : LinkCounters) : LinkCounters := { k with unitClash := bump k.unitClash }

/-- The sender unit is this station's own, while OPERATING (R69). -/
def State.isClash (s : State) (sender : Nat) : Bool := s.operating && decide (sender = s.settings.unit)

/-- A frame taken while OPERATING: counted, and passed on unless its sender unit is the station's own (R69, R71, R89).
In COMMISSION the link takes and passes nothing but SERVICE REQUESTs (R77; log 11). -/
def State.taken (s : State) (sender : Nat) (pass : State → State) : State :=
  let s1 := s.otherFrame
  if s.operating then
    let s2 := s1.countLink LinkCounters.taken
    if s.isClash sender then s2.countLink LinkCounters.clash else pass s2
  else s1

/-- A TRANSIT NOTICE passed by reception (R89, R90). -/
def State.transitReceived (s : State) (sender target direction : Nat) : State :=
  if target = s.settings.unit then
    match directionOfCode direction with
    | some d =>
      let s1 := s.countPeer fun k => { k with transitsTaken := bump k.transitsTaken }
      match d with
      | .into => s1.addArrival (.transit sender)
      | .outOf => s1.passOn
    | none => s.countPeer PeerCounters.ignored
  else s

/-- The service request queue has a place (R175). -/
def Service.hasPlace (v : Service) : Bool := decide (v.queue.length < Config.servicePlaces)

/-- A request enters the service request queue, or finds it full and is discarded (R71, R81, R175). -/
def Comms.enterRequest (r : Request) (c : Comms) : Comms :=
  if c.service.hasPlace then { c with service := { c.service with queue := c.service.queue ++ [r] } }
  else c.countLink fun k => { k with serviceOverruns := bump k.serviceOverruns }

/-- A SERVICE REQUEST taken: in OPERATING by R69 and R89, in COMMISSION for unit 0 alone (R77). -/
def State.requestReceived (s : State) (sender target : Nat) (r : Request) : State :=
  let s1 := s.otherFrame
  if s.operating || decide (target = 0) then
    let s2 := s1.countLink LinkCounters.taken
    if s.isClash sender then s2.countLink LinkCounters.clash
    else if target = s.answeringUnit then { s2 with comms := s2.comms.enterRequest r }
    else s2
  else s1

end Sys2Proof.Machine
end

