-- ==== Sys2Proof/Machine/Link.lean ====
section
/-! DEFINITION. The link: building a frame, arbitration, outcomes, the stuck line, the link states (R60 to R81). -/

namespace Sys2Proof.Machine

/-! ## Building a frame (R63, R83, R179) -/

/-- The kind number of a frame (R179). -/
def Payload.kindCode : Payload → Nat
  | .report => 4
  | .startNotice _ => 2
  | .transit _ _ _ => 3
  | .reply _ => 9

/-- The payload of a ZONE REPORT, every field taken from its owner now (R83, R179). -/
def State.reportBytes (s : State) : List Byte :=
  let o := s.guide.advOffer
  [byte s.zone.state.code] ++ word16 s.fume.fs ++ [byte s.comms.fan.stage] ++ word16 s.conditionSet ++
    [byte s.guide.advGeneral, byte s.guide.advAccessible, byte o.value, byte o.free, byte o.hops, byte o.origin,
      byte (o.nextHop.getD 0)]

/-- The payload of a frame, built as it enters arbitration (R63, R83). -/
def State.payloadBytes (s : State) : Payload → List Byte
  | .report => s.reportBytes
  | .startNotice i => [byte i.val, byte s.settings.window]
  | .transit target d p => [byte target, byte d.code, byte p.val]
  | .reply r => [r.kind, r.result.code] ++ r.data

/-- The whole frame, built as it enters arbitration (R63). -/
def State.buildFrame (s : State) (f : Frame) : List Byte :=
  frameBytes (f.payload.cls s.grave) f.payload.kindCode f.attempt s.answeringUnit (s.payloadBytes f.payload)

/-! ## Starting a frame (R61, R66) -/

/-- The link sends frames: in ACTIVE and ISOLATED, and in COMMISSION its SERVICE REPLYs (04, 4.9; R77). -/
def Link.maySend (operating : Bool) (l : Link) : Bool :=
  match l.state with
  | .active | .isolated => true
  | .off => !operating
  | .joining | .silent => false

/-- The live count withdraws a START NOTICE that stands first (R43). -/
def Comms.firstBlocked (e : Env) (c : Comms) : Bool :=
  match c.link.queue with
  | f :: _ => f.payload.isStartNotice && decide (e.settings.allowance ≤ c.liveCount)
  | [] => false

/-- The first frame is presented to the fan controller, which may withdraw it (R43, R66; log 9). -/
def presentFirst (e : Env) (c : Comms) : Comms :=
  if c.firstBlocked e then
    ({ c with link := { c.link with queue := c.link.queue.tail } }).countFan fun k =>
      { k with noticeDeferred := bump k.noticeDeferred }
  else c

/-- The first frame of the queue enters arbitration: it is built, and a report takes the range flags (R19, R66). The
start condition pulls ZD low, so the bus-free count and the stuck timer start (R61, R76; log 12). -/
def State.launch (s : State) : State :=
  match s.comms.link.queue with
  | [] => s
  | f :: rest =>
    let link := { s.comms.link with
      queue := { f with inFlight := true } :: rest
      wire := s.buildFrame f
      busFreeCount := 0
      stuck := .running Config.stuckMs }
    { s with
      comms := { s.comms with link := link }
      fume := if f.payload.isReport then s.fume.onFlags RangeFlag.carry else s.fume }

/-- A frame waits, and the bus is free for this station to start it on. -/
def State.canStart (s : State) : Bool :=
  s.comms.link.maySend s.operating && decide (s.comms.link.busFreeCount = Config.busFreeBits) &&
    s.comms.link.flight.isNone && !s.comms.link.queue.isEmpty

/-- The link starts the first frame to send on a free bus (R61, R66). -/
def State.startFirst (s : State) : State := if s.canStart then (s.onComms presentFirst).launch else s

/-- Another party has started a frame first: the bus is no longer free, and a frame that waits goes on waiting (R61). -/
def Link.busTaken (l : Link) : Link := { l with busFreeCount := 0 }

/-- The last thing in a step: a frame that has come to wait on a free bus enters arbitration, unless another party has
started before it (R61, R66, R84; log 7). -/
def State.linkSettle (s : State) : State :=
  if s.canStart && Config.othersStart s.moment then { s with comms := { s.comms with link := s.comms.link.busTaken } }
  else s.startFirst

/-! ## Outcomes of an attempt (R67 to R72) -/

/-- The attempt in flight is over: nothing is on the wire, the bus-free count starts again, and with both lines released
the stuck timer stands at zero (R61, R76). -/
def Link.endAttempt (l : Link) : Link := { l with wire := [], busFreeCount := 0, stuck := .stopped }

/-- The frame in flight changed. -/
def Link.onFlight (f : Frame → Frame) (l : Link) : Link :=
  { l with queue := l.queue.map fun x => if x.inFlight then f x else x }

/-- The frame in flight leaves the queue. -/
def Link.removeFlight (l : Link) : Link := { l with queue := l.queue.filter fun x => !x.inFlight }

def Comms.onLink (c : Comms) (f : Link → Link) : Comms := { c with link := f c.link }

/-- The frame stays in the queue after its attempt; for a report the refresh mark clears, as the next attempt is built
afresh (R88). -/
def Link.staysQueued (f : Frame) (l : Link) : Link := if f.payload.isReport then { l with refreshMark := false } else l

/-- A report has left the queue: its refresh mark is taken up as a report event (R88). -/
def takeUpMark (e : Env) (p : Payload) (c : Comms) : Comms :=
  if p.isReport && c.link.refreshMark then reportEvent e (c.onLink fun l => { l with refreshMark := false }) else c

/-- The link enters ISOLATED (R80, R46). -/
def isolate (e : Env) (c : Comms) : Comms :=
  let c1 := withdrawNotice (c.onLink fun l => { l with state := .isolated })
  localStarts e (c1.countLink fun k => { k with isolations := bump k.isolations })

/-- The count of consecutive unheard drops after a drop (R72). -/
def nextUnheard (unheard : Bool) (n : Nat) : Nat := if unheard then min 3 (n + 1) else 0

/-- The frame in flight is dropped after its third failed attempt (R72, R86); three unheard drops in a row isolate an
ACTIVE link (R80; log 20). -/
def dropFlight (e : Env) (f : Frame) (c : Comms) : Comms :=
  let c1 := c.onLink fun l => { l.removeFlight with unheardDrops := nextUnheard f.unheard l.unheardDrops }
  let c2 := dropEnd e f.payload (c1.countLink fun k => { k with framesDropped := bump k.framesDropped })
  let c3 := takeUpMark e f.payload c2
  if c3.link.state = .active ∧ c3.link.unheardDrops = 3 then isolate e c3 else c3

/-- A failed attempt of the frame in flight (R72); `unheard` says that nobody was found. -/
def failAttempt (e : Env) (unheard : Bool) (c : Comms) : Comms :=
  match c.link.flight with
  | none => c
  | some f =>
    let c1 := c.onLink Link.endAttempt
    if 2 ≤ f.attempt then dropFlight e { f with unheard := f.unheard && unheard } c1
    else c1.onLink fun l => (l.onFlight fun x =>
      { x with attempt := x.attempt + 1, unheard := x.unheard && unheard, inFlight := false }).staysQueued f

/-- A counted failed attempt, where a frame is in flight (R70). -/
def countedFailure (e : Env) (unheard : Bool) (k : LinkCounters → LinkCounters) (c : Comms) : Comms :=
  if c.link.flight.isSome then failAttempt e unheard (c.countLink k) else c

/-- Arbitration lost: the frame stays at its place with its attempt unchanged (R67). -/
def loseArbitration (c : Comms) : Comms :=
  match c.link.flight with
  | none => c
  | some f =>
    let c1 := c.onLink fun l => (l.endAttempt.onFlight fun x => { x with inFlight := false }).staysQueued f
    c1.countLink fun k => { k with arbLost := bump k.arbLost }

/-- A frame dropped on entry to SILENT, handed back to its block (R81, R86). -/
def dropOnSilent (e : Env) (c : Comms) (f : Frame) : Comms :=
  dropEnd e f.payload (c.countLink fun k => { k with framesDropped := bump k.framesDropped })

/-- The link enters SILENT: a START NOTICE not in flight is withdrawn, every other frame is dropped in queue order, and
fans start by local spacing (R81, R46). -/
def enterSilent (e : Env) (c : Comms) : Comms :=
  let frames := c.link.queue.filter fun f => !(f.payload.isStartNotice && !f.inFlight)
  let c1 := c.onLink fun l =>
    { l with
      state := .silent
      queue := []
      unheardDrops := 0
      report := .stopped
      refreshMark := false
      stretch := .stopped }
  localStarts e (frames.foldl (dropOnSilent e) c1)

/-- The late-collision record as it stands now: an entry older than 60 s has lapsed (R79). -/
def Link.lateTime (now : Nat) (l : Link) : Option Nat :=
  l.lateRecord.filter fun t => decide (now ≤ t + Config.lateRecordMs)

/-- The lapse of an entry older than 60 s, which leaves the record empty; a younger one stays (R79; log 2). -/
def Link.lapseLate (now : Nat) (l : Link) : Link := { l with lateRecord := l.lateTime now }

/-- A late collision of the frame in flight (R68): the second within 60 s silences the link, and any other fills the
record (R79); in COMMISSION it is a failed attempt alone (R77). -/
def lateCollision (e : Env) (c : Comms) : Comms :=
  if c.link.flight.isNone then c
  else
    let c1 := c.countLink fun k => { k with lateCollisions := bump k.lateCollisions }
    if !e.operating then failAttempt e false c1
    else match c1.link.lateTime e.now with
      | some _ => enterSilent e (c1.onLink Link.endAttempt)
      | none => failAttempt e false (c1.onLink fun l => { l with lateRecord := some e.now })

/-- The fan named by a delivered START NOTICE starts where it still waits (R44). -/
def permitted (e : Env) (i : Fin 4) (c : Comms) : Comms :=
  if (c.fanAt i).state = .waitPermit then
    (startFan e i c).countFan fun k => { k with fanStarts := bump k.fanStarts }
  else c

/-- The end of a delivered frame (R86); the range flags of a report are the fume unit's. -/
def deliveredEnd (e : Env) (p : Payload) (c : Comms) : Comms :=
  match p with
  | .report => takeUpMark e p c
  | .startNotice i => resumeStarts e (permitted e i (enterNotice e.now e.settings.unit i.val e.settings.window c))
  | .transit _ _ _ => c.countPeer fun k => { k with transitsSent := bump k.transitsSent }
  | .reply _ => { c with service := { c.service with current := none } }

/-- The link after a delivery: ISOLATED returns to ACTIVE (R72, R80). -/
def Link.afterDelivery (l : Link) : Link :=
  { l.endAttempt.removeFlight with
    unheardDrops := 0
    state := if l.state = .isolated then .active else l.state }

/-- The frame in flight is delivered (R71, R80, R86); back in ACTIVE the fan controller tries at once (R46). The return
from ISOLATED makes no periodic request: a choice of the model (R87; log 40). -/
def delivered (e : Env) (f : Frame) (c : Comms) : Comms :=
  let c1 := (c.onLink Link.afterDelivery).countLink fun k => { k with framesDelivered := bump k.framesDelivered }
  let c2 := deliveredEnd e f.payload c1
  if c.link.state = .isolated then resumeStarts e c2 else c2

/-- The frame in flight of a state is delivered; a report clears the range flags it carried (R19, R71). -/
def State.frameDelivered (s : State) : State :=
  match s.comms.link.flight with
  | none => s
  | some f =>
    let s1 := if f.payload.isReport then { s with fume := s.fume.onFlags RangeFlag.delivered } else s
    s1.onComms fun e c => delivered e f c

/-! ## The bus, the timers and the states of the link (R61, R73 to R79, R87, R88) -/

/-- The bus-free count reaches 16 bit periods of both lines high (R61, R76). -/
def busBecomesFree (c : Comms) : Comms :=
  if c.link.flight.isNone then
    c.onLink fun l => { l with busFreeCount := Config.busFreeBits, stuck := .stopped, stuckSpell := false }
  else c

/-- The station begins to stretch a frame: its request queue is full and the link is not SILENT (R73). -/
def beginStretch (c : Comms) : Comms :=
  if c.service.hasPlace || decide (c.link.state = .silent) then c
  else
    (c.onLink fun l =>
        { l with stretch := .running Config.stretchMs, busFreeCount := 0, stuck := .running Config.stuckMs }).countLink
      fun k => { k with stretches := bump k.stretches }

/-- A stretch ends where one holds: ZC is released (R73, R74, R76). -/
def Link.endStretch (l : Link) : Link :=
  { l with stretch := .stopped, stuck := if l.stretch.isRunning then .stopped else l.stuck }

/-- The stretch timer expires: the frame is given up (R74). -/
def stretchExpiry (c : Comms) : Comms :=
  if c.link.stretch.isRunning then
    (c.onLink Link.endStretch).countLink fun k =>
      { k with serviceOverruns := bump k.serviceOverruns }
  else c

/-- The first frame of the queue, as if it had entered arbitration (R76). -/
def Link.pretendFlight (l : Link) : Link :=
  match l.queue with
  | [] => l
  | f :: rest => { l with queue := { f with inFlight := true } :: rest }

/-- A further expiry on a line still stuck: a failed attempt of the first frame to send, which a START NOTICE may be
withdrawn in place of (R76; log 10). -/
def stuckAgain (e : Env) (c : Comms) : Comms :=
  if !c.link.maySend e.operating then c
  else if c.firstBlocked e then presentFirst e c
  else failAttempt e true (c.onLink Link.pretendFlight)

/-- The link reset of an expiry of the stuck timer (R76). -/
def Link.resetLine (l : Link) : Link := { l with stretch := .stopped, busFreeCount := 0, stuckSpell := true }

/-- The link reset and what follows it for the frames of this station (R76); a SILENT link makes none, but a line is low
all the same (R61, R81). -/
def lineReset (e : Env) (c : Comms) : Comms :=
  if c.link.state = .silent then c.onLink Link.busTaken
  else if c.link.flight.isSome then failAttempt e true (c.onLink Link.resetLine)
  else if c.link.stuckSpell then stuckAgain e (c.onLink Link.resetLine)
  else c.onLink Link.resetLine

/-- The stuck timer expires: counted, the line reset, and the timer restarts as the line stays stuck (R76). -/
def stuckExpiry (e : Env) (c : Comms) : Comms :=
  (lineReset e (c.countLink fun k => { k with stuckLine := bump k.stuckLine })).onLink fun l =>
    { l with stuck := .running Config.stuckMs }

/-- The report period in ms (05, 5.1). -/
def Settings.reportMs (c : Settings) : Nat := 1000 * c.reportPeriod

/-- The join timer expires: ACTIVE, a periodic request, and a try of the fan controller (R46, R78, R87). The entry from
JOINING is the one entry to ACTIVE that makes a periodic request (log 40). -/
def joinExpiry (e : Env) (c : Comms) : Comms :=
  if c.link.join.isRunning then
    let c1 := c.onLink fun l => { l with state := .active, join := .stopped, report := .running e.settings.reportMs }
    resumeStarts e (periodicReport e c1)
  else c

/-- The report timer expires: a periodic request (R87). -/
def reportExpiry (e : Env) (c : Comms) : Comms :=
  if c.link.report.isRunning then
    periodicReport e (c.onLink fun l => { l with report := .running e.settings.reportMs })
  else c

/-- The spacing timer expires: a pending event offers a report, or clears where one stands in the queue (R88). -/
def reportSpacingExpiry (e : Env) (c : Comms) : Comms :=
  if c.link.spacing.isRunning then
    let c1 := c.onLink fun l => { l with spacing := .stopped, eventPending := false }
    if c.link.eventPending && !c.link.hasReport then offerReport e c1 else c1
  else c

end Sys2Proof.Machine
end

