-- ==== Sys2Proof/Machine/Service.lean ====
section
/-! DEFINITION. The service responder: what it answers to each request, the status record, the counters, the store's
part, and how requests are served (Chapters 11 and 12). -/

namespace Sys2Proof.Machine

/-! ## The status record (R176, R180, R181) -/

def Mode.code : Mode → Nat
  | .commission => 0
  | .operating => 1

def LinkState.code : LinkState → Nat
  | .off => 0
  | .joining => 1
  | .active => 2
  | .isolated => 3
  | .silent => 4

def HeadState.code : HeadState → Nat
  | .absent => 0
  | .warming => 1
  | .active => 2
  | .zeroing => 3
  | .drift => 4
  | .openCircuit => 5

def FanState.code : FanState → Nat
  | .stopped => 0
  | .waitPermit => 1
  | .spinup => 2
  | .running => 3
  | .fault => 4
  | .locked => 5

def causeCode : Option FaultCause → Nat
  | none => 0
  | some .noStart => 1
  | some .stall => 2

/-- The store is BUSY (R168). -/
def Store.busy (x : Store) : Bool := decide (x.status ≠ .ready)

/-- The stored image is valid: its bytes are, and no failed, abandoned or running commit write says otherwise (R164,
R172). -/
def Store.storedValid (x : Store) : Bool := !x.storedBad && decide (x.status ≠ .commitWrite) && imageValid x.stored

/-- Part 0 (R181). -/
def State.statusPart0 (s : State) : List Byte :=
  [byte s.mode.code, byte s.zone.state.code] ++ word16 s.fume.fs ++ word16 s.fume.es ++
    [byte s.comms.fan.stage, byte s.comms.link.state.code] ++ word16 s.conditionSet ++ [0, 0]

/-- The fans in the order of the status record: the lead order, then the absent fans in index order (R181). -/
def State.fanOrder (s : State) : List (Fin 4) :=
  s.comms.fan.lead ++ (List.finRange 4).filter fun i => !(s.settings.fans.get i).present

/-- The status byte of a fan (R181). -/
def State.fanByte (s : State) (i : Fin 4) : Byte :=
  byte (64 * i.val + 16 * causeCode (s.comms.fanAt i).cause + (s.comms.fanAt i).state.code)

/-- The configuration version shown: of the image loaded in OPERATING; in COMMISSION of the stored image where that is
valid, else 0 (R164, R176). -/
def State.versionShown (s : State) : Nat :=
  if s.operating then s.settings.version
  else if s.store.storedValid then (settingsOf s.store.stored).version else 0

/-- Part 1 (R181). -/
def State.statusPart1 (s : State) : List Byte :=
  (s.fanOrder.map s.fanByte ++ [0, 0, 0, 0]).take 4 ++ s.gas.heads.cells.map (fun x => byte x.state.code) ++
    [byte s.tracker.list.length, byte ((if s.store.busy then 1 else 0) + (if s.store.writeError then 2 else 0))] ++
    word16 s.versionShown

/-- The number of bays in a state (R106). -/
def State.bayCount (s : State) (st : BayState) : Nat :=
  (s.scanner.bays.cells.filter fun b => decide (b.state = st)).length

/-- Part 2 (R181). -/
def State.statusPart2 (s : State) : List Byte :=
  ([.unknown, .free, .held, .occupied, .closed, .fault] : List BayState).map (fun st => byte (s.bayCount st)) ++
    [byte (s.freeCount .general), byte (s.freeCount .accessible), 0, 0, 0, 0]

/-- The part of the status record that a number names (R176). -/
def State.statusPart (s : State) (part : Nat) : Option (List Byte) :=
  if part = 0 then some s.statusPart0
  else if part = 1 then some s.statusPart1
  else if part = 2 then some s.statusPart2
  else none

/-! ## The counter groups (R177) -/

def GasCounters.list (k : GasCounters) : List Nat :=
  [k.zeroChecks, k.zeroAborts, k.zeroWithdrawn, k.driftFaults, k.openFaults]

def FumeCounters.list (k : FumeCounters) : List Nat :=
  [k.skippedUpdates, k.gasInvalid, k.absentBins, k.overSamples, k.underSamples]

def FanCounters.list (k : FanCounters) : List Nat :=
  [k.fanStarts, k.localStarts, k.noticeDeferred, k.noticeDropped, k.noStartFaults, k.stallFaults, k.rotations,
    k.lockedFans, k.boostsEnded]

def LinkCounters.list (k : LinkCounters) : List Nat :=
  [k.framesDelivered, k.framesTaken, k.arbLost, k.voidedAttempts, k.unheardAttempts, k.framesDropped,
    k.lateCollisions, k.checkErrors, k.brokenFrames, k.stuckLine, k.stretches, k.serviceOverruns, k.unitClash,
    k.isolations]

def PeerCounters.list (k : PeerCounters) : List Nat :=
  [k.reportsQueued, k.reportsFolded, k.queueDisplaced, k.queueRefused, k.transitsSent, k.transitsLost,
    k.transitsTaken, k.reportsTaken, k.reportsIgnored, k.neighboursLost, k.noticesHeard, k.noticesOverflow]

def BayCounters.list (k : BayCounters) : List Nat :=
  [k.bayConfirms, k.noAnswers, k.bayFaults, k.holdsGranted, k.holdsRefused, k.passagesIn, k.passagesOut,
    k.passagesAborted, k.queuesSet, k.laneFaults]

def ArrivalCounters.list (k : ArrivalCounters) : List Nat :=
  [k.added, k.evicted, k.matched, k.assumed, k.passed, k.lost, k.cleared, k.holdsLost]

def GuideCounters.list (k : GuideCounters) : List Nat :=
  [k.originRefused, k.splitHorizon, k.hopLimit, k.advertChanges, k.signRecords]

def LampCounters.list (k : LampCounters) : List Nat :=
  [k.presenceEvents, k.holdExpiries, k.leadinSets, k.forcedFull]

def ZoneCounters.list (k : ZoneCounters) : List Nat :=
  [k.stateChanges, k.divertEntries, k.alarmEntries, k.purgeEntries]

def StoreCounters.list (k : StoreCounters) : List Nat := [k.lockWrites, k.writeFailures, k.configRefused]

/-- A counter group as COUNTER QUERY reads it: the groups but LINK and STORE stand at 0 in COMMISSION, though a sign
record started there has counted in its own (R142, R177; log 31). -/
def State.readGroup (s : State) (counters : List Nat) : List Nat :=
  if s.operating then counters else counters.map fun _ => 0

/-- Every counter group as COUNTER QUERY reads it, in the order of its number (R177, R179). -/
def State.counterGroups (s : State) : List (List Nat) :=
  [s.readGroup s.gas.counters.list, s.readGroup s.fume.counters.list, s.readGroup s.comms.fan.counters.list,
    s.comms.link.counters.list, s.readGroup s.comms.link.peer.list, s.readGroup s.scanner.counters.list,
    s.readGroup s.tracker.counters.list, s.readGroup s.guide.counters.list, s.readGroup s.lamps.counters.list,
    s.readGroup s.zone.counters.list, s.store.counters.list]

/-- A page of a counter group: six counters, 0 beyond the last (R177). -/
def pageOf (counters : List Nat) (page : Nat) : List Byte :=
  (List.range 6).flatMap fun j => word16 (counters.getD (6 * page + j) 0)

/-- The page that a group number and a page number name (R177). -/
def State.counterPage (s : State) (group page : Nat) : Option (List Byte) :=
  match s.counterGroups[group]? with
  | none => none
  | some counters => if 0 < page ∧ counters.length ≤ 6 * page then none else some (pageOf counters page)

/-! ## Answers (R175) -/

/-- A request answered: the state it leaves, the result, the reply data. -/
structure Answered where
  state : State
  result : ResultCode
  data : List Byte

/-- An answer with no effect and no data of its own. -/
def State.plain (s : State) (r : ResultCode) : Answered := ⟨s, r, []⟩

/-- DONE with reply data, or BAD_INDEX (R176, R177). -/
def State.answerData (s : State) (data : Option (List Byte)) : Answered :=
  match data with
  | some d => ⟨s, .done, d⟩
  | none => s.plain .badIndex

/-- Fan `i` is LOCKED. -/
def State.fanLocked (s : State) (i : Fin 4) : Bool := decide ((s.comms.fanAt i).state = .locked)

/-- A lock write begins, with the lock states as the fan controller holds them now (R168). -/
def State.beginLockWrite (s : State) : State :=
  ({ s with store := { s.store with status := .lockWrite (lockRecordOf s.fanLocked) } }).countStore fun k =>
    { k with lockWrites := bump k.lockWrites }

/-- LOCK FAN, or with `lock` false UNLOCK FAN (R54, R55). -/
def State.answerLock (s : State) (lock : Bool) (index : Byte) : Answered :=
  if !s.operating then s.plain .wrongMode
  else match s.settings.fanOf index with
    | none => s.plain .badIndex
    | some i =>
      if s.fanLocked i = lock then s.plain .done
      else if s.store.busy then s.plain .busy
      else
        let s1 := s.onComms fun e c => if lock then lockFan e i c else freeFan e i c
        if s.store.writeError then s1.plain .storeError else s1.beginLockWrite.plain .done

/-- CLEAR FAN FAULT (R51). -/
def State.answerClearFan (s : State) (index : Byte) : Answered :=
  if !s.operating then s.plain .wrongMode
  else match s.settings.fanOf index with
    | none => s.plain .badIndex
    | some i =>
      if (s.comms.fanAt i).state = .fault then (s.onComms fun e c => freeFan e i c).plain .done
      else s.plain .notFaulted

/-- A head cleared of its fault (R16). -/
def Head.clear (zc : Nat) (_x : Head) : Head := ⟨.warming, none, zc, 0, .running Config.warmUpMs, .stopped, .stopped⟩

/-- The head is in DRIFT or OPEN. -/
def Head.faulted (x : Head) : Bool :=
  match x.state with
  | .drift | .openCircuit => true
  | _ => false

/-- CLEAR HEAD FAULT (R16). -/
def State.answerClearHead (s : State) (index : Byte) : Answered :=
  if !s.operating then s.plain .wrongMode
  else match s.settings.headOf index with
    | none => s.plain .badIndex
    | some h =>
      if (s.gas.heads.get h).faulted then
        (s.onGas fun g => g.setHead h ((g.heads.get h).clear (s.settings.heads.get h).zc)).plain .done
      else s.plain .notFaulted

/-- CLEAR DETECTOR of a bay (R115). -/
def State.answerClearBay (s : State) (index : Byte) : Answered :=
  match s.settings.bayOf index with
  | none => s.plain .badIndex
  | some b => if s.bayState b = .fault then (s.clearBay b).plain .done else s.plain .notFaulted

/-- CLEAR DETECTOR of a lane (R115). -/
def State.answerClearLane (s : State) (index : Byte) : Answered :=
  match s.settings.laneOf index with
  | none => s.plain .badIndex
  | some p =>
    if (s.laneAt p).state = .fault then (s.startLane p (s.laneAt p).loops).plain .done else s.plain .notFaulted

/-- CLEAR DETECTOR; a selector other than 0 and 1 names no detector (R115, R179). -/
def State.answerClearDetector (s : State) (index selector : Byte) : Answered :=
  if !s.operating then s.plain .wrongMode
  else if selector = 0 then s.answerClearBay index
  else if selector = 1 then s.answerClearLane index
  else s.plain .badIndex

/-- CLEAR STORE ERROR (R169). -/
def State.answerClearStore (s : State) : Answered :=
  if s.store.busy then s.plain .busy
  else if s.store.writeError then State.plain { s with store := { s.store with writeError := false } } .done
  else s.plain .notFaulted

/-- BOOST STAGE (R56). -/
def State.answerBoost (s : State) (stage minutes : Byte) : Answered :=
  if !s.operating then s.plain .wrongMode
  else if 1 ≤ stage.toNat ∧ stage.toNat ≤ 3 ∧ 1 ≤ minutes.toNat ∧ minutes.toNat ≤ 240 then
    (s.onComms fun e c => setBoost e stage.toNat minutes.toNat c).plain .done
  else s.plain .badIndex

/-- RESTART: answered DONE, and from this moment the responder is restart-pending (R178). -/
def State.answerRestart (s : State) : Answered :=
  State.plain { s with comms := { s.comms with service := { s.comms.service with restartPending := true } } } .done

/-- CONFIG WRITE (R170). -/
def State.answerWrite (s : State) (argument : Byte) (data : List Byte) : Answered :=
  if s.operating then s.plain .wrongMode
  else if !offsetOk (offsetOf argument) then s.plain .badIndex
  else if s.store.busy then s.plain .busy
  else
    State.plain { s with store := { s.store with
      staging := Image.setChunk s.store.staging (offsetOf argument) (data.take 8) } } .done

/-- CONFIG READ (R170). -/
def State.answerRead (s : State) (argument : Byte) : Answered :=
  if !offsetOk (offsetOf argument) then s.plain .badIndex
  else if s.operating then ⟨s, .done, Image.chunk s.store.loaded (offsetOf argument)⟩
  else if s.store.busy then s.plain .busy
  else ⟨s, .done, Image.chunk s.store.staging (offsetOf argument)⟩

/-- CONFIG COMMIT (R171, R172). -/
def State.answerCommit (s : State) : Answered :=
  if s.operating then s.plain .wrongMode
  else if s.store.busy then s.plain .busy
  else if s.store.writeError then s.plain .storeError
  else match firstFailure s.store.staging with
    | some o => ⟨s.countStore fun k => { k with configRefused := bump k.configRefused }, .badConfig, word16 o⟩
    | none => ⟨{ s with store := { s.store with status := .commitWrite } }, .done, [0, 0]⟩

/-- The answer to a request, by its kind (R175, R179). A kind without a meaning is answered BAD_INDEX. -/
def State.answer (s : State) (r : Request) : Answered :=
  match r.kind.toNat with
  | 1 => s.answerData (s.statusPart r.argument.toNat)
  | 2 => s.answerData (s.counterPage r.argument.toNat (dataByte r.data 0).toNat)
  | 3 => s.answerLock true r.argument
  | 4 => s.answerLock false r.argument
  | 5 => s.answerClearFan r.argument
  | 6 => s.answerClearHead r.argument
  | 7 => s.answerClearDetector r.argument (dataByte r.data 0)
  | 8 => s.answerClearStore
  | 9 => s.answerBoost r.argument (dataByte r.data 0)
  | 10 => s.answerRestart
  | 11 => s.answerWrite r.argument r.data
  | 12 => s.answerRead r.argument
  | 13 => s.answerCommit
  | _ => s.plain .badIndex

/-! ## Serving (R175, R178) -/

/-- The request being served is a commit answered DONE, whose reply the restart waits for (R172). -/
def Service.commitReplying (v : Service) : Bool :=
  match v.current with
  | some c => decide (c.reply.kind = 13) && decide (c.reply.result = .done)
  | none => false

/-- A restart is due: after a RESTART, when its reply and any store write have ended; after a commit that read back
right, when its reply has ended (R172, R178). -/
def State.restartDue (s : State) : Bool :=
  (s.comms.service.restartPending && s.comms.service.current.isNone && !s.store.busy) ||
    (decide (s.store.status = .committed) && !s.comms.service.commitReplying)

/-- The responder takes a request when it has none, unless a restart is pending or due (R175, R178). -/
def State.mayServe (s : State) : Bool :=
  s.comms.service.current.isNone && !s.comms.service.restartPending && !s.restartDue

/-- The current request and its reply are kept until the reply's end (R175). -/
def State.keepCurrent (s : State) (r : Request) (reply : Reply) : State :=
  { s with comms := { s.comms with service := { s.comms.service with current := some ⟨r, reply⟩ } } }

/-- The oldest request leaves the queue: its place is free, and a stretch that waits for one ends (R73, R175). -/
def State.popRequest (s : State) (rest : List Request) : State :=
  { s with comms := { s.comms with
      service := { s.comms.service with queue := rest }
      link := s.comms.link.endStretch } }

/-- The responder takes a request: it answers it, keeps it with its reply, and offers the reply (R175). A setting or
clearing of NO_VENT by the answer is presented before the reply is offered (log 8). -/
def State.serve (s : State) (r : Request) (rest : List Request) : State :=
  let a := (s.popRequest rest).answer r
  let reply := replyOf r.kind a.result a.data
  (a.state.ventSettle.keepCurrent r reply).onComms fun e c => offer e (.reply reply) c

/-- The responder serves what it may, at most `n` requests. -/
def pump : Nat → State → State
  | 0, s => s
  | n + 1, s =>
    if s.mayServe then
      match s.comms.service.queue with
      | [] => s
      | r :: rest => pump n (s.serve r rest)
    else s

/-- The responder serves the requests that wait: each that is served leaves the queue, so their number is enough
(R175). -/
def State.pumpService (s : State) : State := pump s.comms.service.queue.length s

/-! ## The end of every step -/

/-- What every step ends with: NO_VENT reaches the zone state controller, the responder serves what it may, and the
bus, where it is free, takes the first frame to send (log 8). -/
def State.settle (s : State) : State := ((s.ventSettle).pumpService).linkSettle

/-- A command's next state: its effect, what every step ends with, and the moment that has gone by (log 1). -/
def done (s : State) : Host.Outcome State Fault Refusal :=
  .next { s.settle with moment := s.moment + 1 }

end Sys2Proof.Machine
end

