-- ==== Sys2Proof/Machine/Clock.lean ====
section
/-! DEFINITION. One millisecond passing: what every timer, age and count of time does (log 1). Nothing acts here: an
expiry is a command. -/

namespace Sys2Proof.Machine

def Latest.tick (x : Latest) : Latest := { x with age := x.age + 1 }

def Head.tick (x : Head) : Head :=
  { x with
    latest := x.latest.map Latest.tick
    warmUp := x.warmUp.tick
    settle := x.settle.tick
    zeroInterval := x.zeroInterval.tick }

def Converter.tick : Converter → Converter
  | .idle => .idle
  | .sample h n => .sample h (n - 1)
  | .zero h g n => .zero h g (n - 1)

def GasFront.tick (g : GasFront) : GasFront := { g with heads := g.heads.map Head.tick, converter := g.converter.tick }

def Fume.tick (f : Fume) : Fume := { f with update := f.update.tick, minute := f.minute.tick, roll := f.roll.tick }

def Fan.tick (f : Fan) : Fan := { f with hold := f.hold.tick, spinUp := f.spinUp.tick, check := f.check.tick }

def Boost.tick (b : Boost) : Boost := { b with left := b.left - 1 }

/-- The rotation timer counts while S is 1 or more (R52). -/
def FanCtl.tick (c : FanCtl) : FanCtl :=
  { c with
    fans := c.fans.map Fan.tick
    dwell := c.dwell.tick
    rotationLeft := if 1 ≤ c.stage then c.rotationLeft - 1 else c.rotationLeft
    spacing := c.spacing.tick
    boost := c.boost.map Boost.tick }

def Link.tick (l : Link) : Link :=
  { l with
    stretch := l.stretch.tick
    join := l.join.tick
    stuck := l.stuck.tick
    report := l.report.tick
    spacing := l.spacing.tick }

def Notice.tick (n : Notice) : Notice := { n with left := n.left - 1 }

def Comms.tick (c : Comms) : Comms :=
  { c with fan := c.fan.tick, link := c.link.tick, notices := c.notices.map Notice.tick }

def Neighbour.tick (n : Neighbour) : Neighbour := { n with stale := n.stale.tick, lost := n.lost.tick }

def Lane.tick (l : Lane) : Lane :=
  { l with presence := l.presence.tick, stuckA := l.stuckA.tick, stuckB := l.stuckB.tick }

def Scanner.tick (x : Scanner) : Scanner :=
  { x with lanes := x.lanes.map Lane.tick, scan := x.scan.tick, flash := x.flash.tick }

def OnLine.tick (x : OnLine) : OnLine := { x with left := x.left - 1 }

def Guide.tick (g : Guide) : Guide := { g with refresh := g.refresh.tick, line := g.line.map OnLine.tick }

/-- A held presence timer does not count down (R144). -/
def PresenceTimer.tick : PresenceTimer → PresenceTimer
  | .counting n => .counting (n - 1)
  | t => t

def Channel.tick (ch : Channel) : Channel := { ch with presence := ch.presence.tick }

def Lamps.tick (x : Lamps) : Lamps :=
  { x with channels := x.channels.map Channel.tick, ramp := x.ramp.tick, pwm := x.pwm.tick }

def ZoneCtl.tick (z : ZoneCtl) : ZoneCtl := { z with hold := z.hold.tick }

/-- One millisecond passes (log 1). -/
def State.tick (s : State) : State :=
  { s with
    now := s.now + 1
    moment := s.moment + 1
    gas := s.gas.tick
    fume := s.fume.tick
    comms := s.comms.tick
    peers := s.peers.map Neighbour.tick
    scanner := s.scanner.tick
    guide := s.guide.tick
    lamps := s.lamps.tick
    zone := s.zone.tick }

end Sys2Proof.Machine
end

