-- ==== Sys2Proof/Machine/FanTimers.lean ====
section
/-! DEFINITION. The commands of the fan controller's timers and tachometers (Chapter 3). -/

namespace Sys2Proof.Machine

/-- DWELL_TIMER_EXPIRY: the timer stands expired, and the stage may fall one step (R35, R38). -/
def execDwellTimerExpiry (s : State) : Host.Outcome State Fault Refusal := done (s.onComms dwellExpiry)

/-- LOCAL_SPACING_TIMER_EXPIRY: a start that waited for it is made (R45, R46). -/
def execLocalSpacingTimerExpiry (s : State) : Host.Outcome State Fault Refusal := done (s.onComms spacingExpiry)

/-- TACH_PULSE: a complete period gives the measured speed (R47; log 15). -/
def execTachPulse (i : Fin 4) (periodUs : Nat) (s : State) : Host.Outcome State Fault Refusal :=
  done (s.onComms fun e c =>
    c.setFan i ((c.fanAt i).measure (speedOf (e.settings.fans.get i).pulses periodUs)))

/-- TACH_TIMEOUT: more than 1 s without a pulse gives a speed of 0 (R47). -/
def execTachTimeout (i : Fin 4) (s : State) : Host.Outcome State Fault Refusal :=
  done (s.onComms fun _ c => c.setFan i ((c.fanAt i).measure 0))

/-- SPIN_UP_TIMER_EXPIRY: the spin-up check, unless a check hold runs (R48). -/
def execSpinUpTimerExpiry (i : Fin 4) (s : State) : Host.Outcome State Fault Refusal :=
  done (s.onComms fun e c => spinUpExpiry e i c)

/-- RUNNING_CHECK: a check of a RUNNING fan (R49). -/
def execRunningCheck (i : Fin 4) (s : State) : Host.Outcome State Fault Refusal :=
  done (s.onComms fun e c => runningCheck e i c)

/-- CHECK_HOLD_TIMER_EXPIRY: a spin-up check that fell due is taken, and running checks resume (R49). -/
def execCheckHoldTimerExpiry (i : Fin 4) (s : State) : Host.Outcome State Fault Refusal :=
  done (s.onComms fun e c => holdExpiry e i c)

/-- ROTATION_TIMER_EXPIRY: the lead order rotates where an available fan is spare (R52, R53). -/
def execRotationTimerExpiry (s : State) : Host.Outcome State Fault Refusal := done (s.onComms rotationExpiry)

/-- BOOST_TIMER_EXPIRY: the boost override ends (R56). -/
def execBoostTimerExpiry (s : State) : Host.Outcome State Fault Refusal := done (s.onComms boostExpiry)

end Sys2Proof.Machine
end

