-- ==== Sys2Proof/Machine/Field.lean ====
section
/-! DEFINITION. The commands of the bay string, the loops, the arrival tracker, the signs, the lamps and the zone state
controller (Chapters 6 to 10). -/

namespace Sys2Proof.Machine

/-! ## Bays and lanes -/

/-- SCAN_TIMER_EXPIRY: a further scan begins (R102, R109). -/
def execScanTimerExpiry (s : State) : Host.Outcome State Fault Refusal :=
  done (if s.scanner.scan.isRunning then s.beginScan else s)

/-- BAY_POLL_ANSWER: a polled bay answers (R103, R104). -/
def execBayPollAnswer (b : Fin 48) (r : Reading) (s : State) : Host.Outcome State Fault Refusal :=
  done (if (s.bayState b).isPolled then s.bayAnswers b r else s)

/-- BAY_NO_ANSWER: a polled bay does not answer (R105). -/
def execBayNoAnswer (b : Fin 48) (s : State) : Host.Outcome State Fault Refusal :=
  done (if (s.bayState b).isPolled then s.bayNoAnswers b else s)

/-- FLASH_TIMER_EXPIRY: the flash phase toggles (R109). -/
def execFlashTimerExpiry (s : State) : Host.Outcome State Fault Refusal :=
  done (if s.scanner.flash.isRunning then s.toggleFlash else s)

/-- A lane in use: the station is OPERATING and the port is owned (R110). -/
def State.laneInUse (s : State) (p : Fin 4) : Bool := s.operating && (s.settings.ports.get p).owned

/-- LOOP_CHANGE: a filtered change of a loop of a lane in use (R111). -/
def execLoopChange (p : Fin 4) (x : Loop) (on : Bool) (s : State) : Host.Outcome State Fault Refusal :=
  done (if s.laneInUse p then s.loopChanges p x on else s)

/-- LANE_PRESENCE_TIMER_EXPIRY: the lane's QUEUE flag is set (R112). -/
def execLanePresenceTimerExpiry (p : Fin 4) (s : State) : Host.Outcome State Fault Refusal := done (s.laneQueues p)

/-- LOOP_STUCK_TIMER_EXPIRY: the lane enters FAULT (R113). -/
def execLoopStuckTimerExpiry (p : Fin 4) (x : Loop) (s : State) : Host.Outcome State Fault Refusal :=
  done (if ((s.laneAt p).stuck x).isRunning then s.laneFails p else s)

/-! ## Arrivals -/

/-- The oldest entry's expiry time has come (R117, R125). -/
def State.oldestDue (s : State) : Bool :=
  match s.tracker.list with
  | a :: _ => decide (a.expiresAt ≤ s.now)
  | [] => false

/-- ARRIVAL_EXPIRY: the entry that expires is the oldest, as every entry has the same lifetime; where the entry that was
to expire has left the list first, there is no expiry (R125; log 17). -/
def execArrivalExpiry (s : State) : Host.Outcome State Fault Refusal :=
  done (if s.oldestDue then s.removeOldest fun k => { k with lost := bump k.lost } else s)

/-! ## Signs -/

/-- SIGN_REFRESH_TIMER_EXPIRY: both send marks are set (R139). -/
def execSignRefreshTimerExpiry (s : State) : Host.Outcome State Fault Refusal :=
  done (if s.guide.refresh.isRunning then { s with guide := s.guide.markBoth.startRecord } else s)

/-- SIGN_RECORD_END: the sign link is idle, and takes the next marked sign (R139). -/
def execSignRecordEnd (s : State) : Host.Outcome State Fault Refusal :=
  done { s with guide := ({ s.guide with line := none }).startRecord }

/-! ## Lamps -/

/-- The presence timer counts down (R144). -/
def PresenceTimer.isCounting : PresenceTimer → Bool
  | .counting _ => true
  | _ => false

/-- LAMP_PRESENCE_TIMER_EXPIRY: a counting presence timer becomes stopped; a held one does not expire (R145). -/
def execLampPresenceTimerExpiry (k : Fin 8) (s : State) : Host.Outcome State Fault Refusal :=
  done (if (s.lamps.channels.get k).presence.isCounting then
      (s.onChannel k fun ch => { ch with presence := .stopped }).countLamp fun c =>
        { c with holdExpiries := bump c.holdExpiries }
    else s)

/-- RAMP_TICK: every channel steps toward its target (R149). -/
def execRampTick (s : State) : Host.Outcome State Fault Refusal :=
  done (if s.lamps.ramp.isRunning then
      { s with lamps := { s.lamps with
          ramp := .running Config.rampMs
          channels := s.lamps.channels.mapIdx fun k ch => ch.ramp (s.settings.lamps.get k).fade } }
    else s)

/-- PWM_PERIOD_START: while the period runs, the next one begins, and every channel draws its window from its level
(R150 to R152). -/
def execPwmPeriodStart (s : State) : Host.Outcome State Fault Refusal :=
  done (if s.lamps.pwm.isRunning then
      { s with lamps := { s.lamps with
          pwm := .running Config.pwmMs
          channels := s.lamps.channels.mapIdx fun k ch => { ch with window := windowOf k ch.level } } }
    else s)

/-! ## Zone state -/

/-- PURGE_ASSERTION_TAKEN: the input level becomes asserted, and the controller evaluates (R158, R160); in COMMISSION it
does not act (R162). -/
def execPurgeAssertionTaken (s : State) : Host.Outcome State Fault Refusal :=
  done (s.whenOperating { s with zone := { s.zone with purgeIn := true } }.evaluate)

/-- PURGE_RELEASE_TAKEN: the input level becomes released, and the zone state is formed afresh (R160). -/
def execPurgeReleaseTaken (s : State) : Host.Outcome State Fault Refusal :=
  done (s.whenOperating { s with zone := { s.zone with purgeIn := false } }.evaluate)

/-- ALARM_HOLD_TIMER_EXPIRY: ALARM is left where FS last presented is below A_off, else the timer restarts (R159). -/
def execAlarmHoldTimerExpiry (s : State) : Host.Outcome State Fault Refusal :=
  done (if s.zone.state = .alarm ∧ s.zone.hold.isRunning = true then
      if s.zone.afterHold s.settings = .alarm then { s with zone := { s.zone with hold := s.settings.holdTimer } }
      else s.setZone (s.zone.afterHold s.settings)
    else s)

end Sys2Proof.Machine
end

