-- ==== Sys2Proof/Machine/FumeTimers.lean ====
section
/-! DEFINITION. The commands of the fume unit's timers (Chapter 2). -/

namespace Sys2Proof.Machine

/-- GAS_UPDATE_TIMER_EXPIRY: the timer restarts and every fitted gas is updated (R20 to R23, R28). -/
def execGasUpdateTimerExpiry (s : State) : Host.Outcome State Fault Refusal :=
  done (if s.fume.update.isRunning then
      { s with fume := { s.fume with update := .running s.settings.tsMs } }.gasUpdate
    else s)

/-- MINUTE_BOUNDARY: the timer restarts and every fitted gas closes its minute (R24 to R28). -/
def execMinuteBoundary (s : State) : Host.Outcome State Fault Refusal :=
  done (if s.fume.minute.isRunning then
      { s with fume := { s.fume with minute := .running Config.minuteMs } }.closeMinute
    else s)

/-- MOVEMENT_ROLL: the timer restarts, the movement ring rolls, and ES is recomputed (R30, R32). -/
def execMovementRoll (s : State) : Host.Outcome State Fault Refusal :=
  done (if s.fume.roll.isRunning then
      { s with fume := { s.fume with
          roll := .running Config.rollMs
          movement := rollRing s.fume.movement } }.reformEs
    else s)

end Sys2Proof.Machine
end

