-- ==== Sys2Proof/Machine/Heads.lean ====
section
/-! DEFINITION. The commands of the gas heads and the converter (Chapter 1). -/

namespace Sys2Proof.Machine

/-- The zero interval, in ms (R8; hours in the image, R181). -/
def Settings.zeroTimer (c : Settings) : Timer := .running (3600000 * c.zeroHours)

/-- The head warmed up (R3, R8). -/
def Head.warmed (cfg : Settings) (x : Head) : Head :=
  { x with state := .active, warmUp := .stopped, zeroInterval := cfg.zeroTimer }

/-- WARM_UP_TIMER_EXPIRY: the head enters ACTIVE, raises URGENT, and its zero interval timer starts (R3). -/
def execWarmUpTimerExpiry (h : Fin 4) (s : State) : Host.Outcome State Fault Refusal :=
  let x := s.gas.heads.get h
  done (if x.state = .warming ∧ x.warmUp.isRunning = true then
      s.onGas fun g => s.restTests [partner h] (g.setHead h (x.warmed s.settings))
    else s)

/-- The latest value of an ACTIVE head at least `age` old. -/
def Head.aged (age : Nat) (x : Head) : Head :=
  if x.state = .active then { x with latest := x.latest.map fun l => { l with age := max l.age age } } else x

/-- HEAD_VALUE_AGES_TS: the latest value of an ACTIVE head reaches age Ts, and the head raises NORMAL (R4). -/
def execHeadValueAgesTs (h : Fin 4) (s : State) : Host.Outcome State Fault Refusal :=
  done (s.onGas fun g => g.setHead h ((g.heads.get h).aged s.settings.tsMs))

/-- HEAD_VALUE_AGES_2TS: it passes age 2 Ts, and the request is URGENT (R4, R11). -/
def execHeadValueAges2Ts (h : Fin 4) (s : State) : Host.Outcome State Fault Refusal :=
  done (s.onGas fun g => g.setHead h ((g.heads.get h).aged (2 * s.settings.tsMs + 1)))

/-- A new latest value (R7, R18). -/
def Head.sampled (value : Nat) (x : Head) : Head := { x with latest := some ⟨value, 0⟩ }

/-- The result of a sample conversion of head `h` (R7, R9, R18). -/
def State.sampleResult (s : State) (h : Fin 4) (code : BitVec 12) : State :=
  if openCode code then s.onGas fun g => ({ g with converter := .idle }).enterOpen h
  else
    let c := concentration (fullScale (gasOf h)) (s.gas.heads.get h).zr (s.settings.heads.get h).span code.toNat
    let s1 := { s with fume := s.fume.takeSample (gasOf h) c }
    s1.onGas fun g =>
      s1.restTests [h] (({ g with converter := .idle }).setHead h ((g.heads.get h).sampled c.value))

/-- SAMPLE_CONVERSION_COMPLETE: the code is tested, giving OPEN or a concentration, and the converter is granted
(R5 to R7). -/
def execSampleConversionComplete (code : BitVec 12) (s : State) : Host.Outcome State Fault Refusal :=
  done (match s.gas.converter with
    | .sample h _ => s.sampleResult h code
    | _ => s)

/-- ZERO_CONVERSION_COMPLETE: the open-circuit test and the drift test, and the converter is granted (R5, R7, R12). The
partner is tested for a zero check, as its partner has changed state (R9); the head itself is not (log 32). -/
def execZeroConversionComplete (code : BitVec 12) (s : State) : Host.Outcome State Fault Refusal :=
  done (match s.gas.converter with
    | .zero h _ _ =>
      s.onGas fun g => s.restTests [partner h] (({ g with converter := .idle }).zeroResult s.settings h code)
    | _ => s)

/-- ZERO_PROTECTED_PART_END: from now on an URGENT request waits (R11). -/
def execZeroProtectedPartEnd (s : State) : Host.Outcome State Fault Refusal :=
  done (match s.gas.converter with
    | .zero h true left => { s with gas := { s.gas with converter := .zero h false left } }
    | _ => s)

/-- SETTLE_TIMER_EXPIRY: the resting head raises a ZERO request (R10). -/
def execSettleTimerExpiry (h : Fin 4) (s : State) : Host.Outcome State Fault Refusal :=
  let x := s.gas.heads.get h
  done (if x.state = .zeroing ∧ x.settle.isRunning = true then
      s.onGas fun g => g.setHead h { x with settle := .expired }
    else s)

/-- The head in service or at rest, whose backlog a due check raises (R8). -/
def Head.takesChecks (x : Head) : Bool :=
  match x.state with
  | .active | .zeroing => true
  | _ => false

/-- An expiry of the zero interval timer at a head (R8). -/
def Head.checkDue (cfg : Settings) (x : Head) : Head :=
  { x with zeroInterval := cfg.zeroTimer, backlog := if x.takesChecks then min 3 (x.backlog + 1) else x.backlog }

/-- ZERO_INTERVAL_TIMER_EXPIRY: the timer restarts, the backlog rises to at most 3, and a rise tests the head for a zero
check (R8, R9). -/
def execZeroIntervalTimerExpiry (h : Fin 4) (s : State) : Host.Outcome State Fault Refusal :=
  let x := s.gas.heads.get h
  done (if x.zeroInterval.isRunning then
      s.onGas fun g =>
        let g1 := g.setHead h (x.checkDue s.settings)
        if x.backlog < 3 then s.restTests [h] g1 else g1
    else s)

end Sys2Proof.Machine
end

