-- ==== Sys2Proof/Machine/OtherFrames.lean ====
section
/-! DEFINITION. The commands of other parties' frames, of stretching, and of the tables they fill (Chapters 4
and 5). -/

namespace Sys2Proof.Machine

/-- ZONE_REPORT_TAKEN: passed to the neighbour table (R89, R92). -/
def execZoneReportTaken (sender : BitVec 6) (payload : Tbl 13 Byte) (s : State) : Host.Outcome State Fault Refusal :=
  done (s.taken sender.toNat fun t => t.reportReceived sender.toNat (reportOf payload))

/-- START_NOTICE_TAKEN: entered in the start-notice list (R89, R95). -/
def execStartNoticeTaken (sender : BitVec 6) (fan window : Byte) (s : State) : Host.Outcome State Fault Refusal :=
  done (s.taken sender.toNat fun t =>
    t.onComms fun e c => noticeTaken e.now sender.toNat fan.toNat window.toNat c)

/-- TRANSIT_NOTICE_TAKEN: where this station is its target, passed to the arrival tracker (R89, R90). The port it
carries is not read. -/
def execTransitNoticeTaken (sender : BitVec 6) (target direction _port : Byte) (s : State) :
    Host.Outcome State Fault Refusal :=
  done (s.taken sender.toNat fun t => t.transitReceived sender.toNat target.toNat direction.toNat)

/-- SERVICE_REQUEST_TAKEN: where it is for the unit this station answers to, it enters the service request queue
(R71, R89, R175). -/
def execServiceRequestTaken (sender : BitVec 6) (target kind argument : Byte) (data : List Byte) (s : State) :
    Host.Outcome State Fault Refusal :=
  done (s.requestReceived sender.toNat target.toNat ⟨kind, argument, data⟩)

/-- UNPASSED_FRAME_TAKEN: a SERVICE REPLY, or a kind without a meaning: taken and passed to no block (R89). -/
def execUnpassedFrameTaken (sender : BitVec 6) (_kind : BitVec 5) (s : State) : Host.Outcome State Fault Refusal :=
  done (s.taken sender.toNat id)

/-- RECEIVED_FRAME_DISCARDED: a voided frame, with a check error of this station's or without (R70). -/
def execReceivedFrameDiscarded (checkError : Bool) (s : State) : Host.Outcome State Fault Refusal :=
  done (if checkError then s.otherFrame.countLink fun k => { k with checkErrors := bump k.checkErrors }
    else s.otherFrame)

/-- BROKEN_FRAME: a received frame is broken (R60). -/
def execBrokenFrame (s : State) : Host.Outcome State Fault Refusal :=
  done (s.otherFrame.countLink fun k => { k with brokenFrames := bump k.brokenFrames })

/-- STRETCH_BEGIN: the request queue is full, and the station holds the clock (R73). -/
def execStretchBegin (s : State) : Host.Outcome State Fault Refusal := done (s.onComms fun _ c => beginStretch c)

/-- STRETCH_TIMER_EXPIRY: the stretched frame is given up (R74). -/
def execStretchTimerExpiry (s : State) : Host.Outcome State Fault Refusal := done (s.onComms fun _ c => stretchExpiry c)

/-- STALE_TIMER_EXPIRY: a FRESH entry turns STALE (R93). -/
def execStaleTimerExpiry (n : Fin 8) (s : State) : Host.Outcome State Fault Refusal := done (s.staleExpiry n)

/-- LOST_TIMER_EXPIRY: a STALE entry turns LOST (R93). -/
def execLostTimerExpiry (n : Fin 8) (s : State) : Host.Outcome State Fault Refusal := done (s.lostExpiry n)

/-- START_NOTICE_ENTRY_EXPIRY: the entry of a unit and a fan leaves the list, and the fan controller tries again
(R97). -/
def execStartNoticeEntryExpiry (unit : BitVec 6) (fan : Byte) (s : State) : Host.Outcome State Fault Refusal :=
  done (s.onComms fun e c => noticeExpiry e unit.toNat fan.toNat c)

end Sys2Proof.Machine
end

