-- ==== Sys2Proof/Machine/OwnFrames.lean ====
section
/-! DEFINITION. The commands of this station's frames and of the link's timers (Chapters 4 and 5). -/

namespace Sys2Proof.Machine

/-- BUS_FREE: the bus-free count reaches 16 bit periods, and at that moment the first frame to send enters arbitration
(R61, R66). -/
def execBusFree (s : State) : Host.Outcome State Fault Refusal :=
  done (s.onComms fun _ c => busBecomesFree c).startFirst

/-- ARBITRATION_LOST: the frame waits at its place, its attempt unchanged (R67). -/
def execArbitrationLost (s : State) : Host.Outcome State Fault Refusal := done (s.onComms fun _ c => loseArbitration c)

/-- LATE_COLLISION: a failed attempt; the second within 60 s silences the link (R68, R79, R81). -/
def execLateCollision (s : State) : Host.Outcome State Fault Refusal := done (s.onComms lateCollision)

/-- FRAME_DELIVERED: the frame leaves the queue, and its end is handed to the block that queued it (R71, R86). -/
def execFrameDelivered (s : State) : Host.Outcome State Fault Refusal := done s.frameDelivered

/-- ATTEMPT_VOIDED: a failed attempt (R70, R72). -/
def execAttemptVoided (s : State) : Host.Outcome State Fault Refusal :=
  done (s.onComms fun e c =>
    countedFailure e false (fun k => { k with voidedAttempts := bump k.voidedAttempts }) c)

/-- ATTEMPT_UNHEARD: a failed attempt that found nobody (R70, R72). -/
def execAttemptUnheard (s : State) : Host.Outcome State Fault Refusal :=
  done (s.onComms fun e c =>
    countedFailure e true (fun k => { k with unheardAttempts := bump k.unheardAttempts }) c)

/-- STUCK_TIMER_EXPIRY: a link reset (R76). -/
def execStuckTimerExpiry (s : State) : Host.Outcome State Fault Refusal := done (s.onComms stuckExpiry)

/-- JOIN_TIMER_EXPIRY: the link enters ACTIVE and the first report is queued (R78, R87). -/
def execJoinTimerExpiry (s : State) : Host.Outcome State Fault Refusal := done (s.onComms joinExpiry)

/-- LATE_COLLISION_RECORD_LAPSE: an entry older than 60 s lapses, and the record becomes empty (R79). -/
def execLateCollisionRecordLapse (s : State) : Host.Outcome State Fault Refusal :=
  done (s.onComms fun e c => c.onLink (Link.lapseLate e.now))

/-- PERIODIC_REQUEST: the report timer expires (R87). -/
def execPeriodicRequest (s : State) : Host.Outcome State Fault Refusal := done (s.onComms reportExpiry)

/-- SPACING_TIMER_EXPIRY: a pending event is offered or clears (R88). -/
def execSpacingTimerExpiry (s : State) : Host.Outcome State Fault Refusal := done (s.onComms reportSpacingExpiry)

end Sys2Proof.Machine
end

