-- ==== Sys2Proof/Machine/Requests.lean ====
section
/-! DEFINITION. The commands of the store's writes, and the thirteen kinds of SERVICE REQUEST: each request enters the
service request queue, and the responder answers it when it takes it, in the same step where it is idle (R175; log 4). -/

namespace Sys2Proof.Machine

/-! ## The end of a write -/

/-- The store counts a write that read back differently, and sets WRITE_ERROR (R168, R172, R174). -/
def Store.writeFailed (x : Store) : Store :=
  { x with
    writeError := true
    counters := { x.counters with writeFailures := bump x.counters.writeFailures } }

/-- The store at the end of a lock write (R168). -/
def Store.endLockWrite (readBack : LockRecord) (x : Store) : Store :=
  match x.status with
  | .lockWrite written =>
    let y := { x with lockRecord := readBack, status := .ready }
    if readBack = written then y else y.writeFailed
  | _ => x

/-- LOCK_WRITE_END: the record is read back and compared with what was written (R168). -/
def execLockWriteEnd (readBack : LockRecord) (s : State) : Host.Outcome State Fault Refusal :=
  done { s with store := s.store.endLockWrite readBack }

/-- The store at the end of a commit write (R172; log 14). -/
def Store.endCommitWrite (readBack : Image) (x : Store) : Store :=
  match x.status with
  | .commitWrite =>
    if readBack = x.staging then { x with stored := readBack, storedBad := false, status := .committed }
    else ({ x with stored := readBack, storedBad := true, status := .ready }).writeFailed
  | _ => x

/-- COMMIT_WRITE_END: the stored image is read back and compared with the staging buffer (R172). -/
def execCommitWriteEnd (readBack : Image) (s : State) : Host.Outcome State Fault Refusal :=
  done { s with store := s.store.endCommitWrite readBack }

/-! ## Requests (R179) -/

/-- A request put into the service request queue (R175). -/
def State.requested (s : State) (kind argument : Byte) (data : List Byte) : State :=
  { s with comms := s.comms.enterRequest ⟨kind, argument, data⟩ }

/-- STATUS_QUERY (R176). -/
def execStatusQuery (part : Byte) (s : State) : Host.Outcome State Fault Refusal := done (s.requested 1 part [])

/-- COUNTER_QUERY (R177). -/
def execCounterQuery (group page : Byte) (s : State) : Host.Outcome State Fault Refusal :=
  done (s.requested 2 group [page])

/-- LOCK_FAN (R54). -/
def execLockFan (index : Byte) (s : State) : Host.Outcome State Fault Refusal := done (s.requested 3 index [])

/-- UNLOCK_FAN (R55). -/
def execUnlockFan (index : Byte) (s : State) : Host.Outcome State Fault Refusal := done (s.requested 4 index [])

/-- CLEAR_FAN_FAULT (R51). -/
def execClearFanFault (index : Byte) (s : State) : Host.Outcome State Fault Refusal := done (s.requested 5 index [])

/-- CLEAR_HEAD_FAULT (R16). -/
def execClearHeadFault (index : Byte) (s : State) : Host.Outcome State Fault Refusal := done (s.requested 6 index [])

/-- CLEAR_DETECTOR (R115). -/
def execClearDetector (index selector : Byte) (s : State) : Host.Outcome State Fault Refusal :=
  done (s.requested 7 index [selector])

/-- CLEAR_STORE_ERROR (R169). -/
def execClearStoreError (s : State) : Host.Outcome State Fault Refusal := done (s.requested 8 0 [])

/-- BOOST_STAGE (R56). -/
def execBoostStage (stage minutes : Byte) (s : State) : Host.Outcome State Fault Refusal :=
  done (s.requested 9 stage [minutes])

/-- RESTART (R178). -/
def execRestart (s : State) : Host.Outcome State Fault Refusal := done (s.requested 10 0 [])

/-- CONFIG_WRITE (R170). -/
def execConfigWrite (argument : Byte) (data : Tbl 8 Byte) (s : State) : Host.Outcome State Fault Refusal :=
  done (s.requested 11 argument data.cells)

/-- CONFIG_READ (R170). -/
def execConfigRead (argument : Byte) (s : State) : Host.Outcome State Fault Refusal := done (s.requested 12 argument [])

/-- CONFIG_COMMIT (R171). -/
def execConfigCommit (s : State) : Host.Outcome State Fault Refusal := done (s.requested 13 0 [])

/-- UNKNOWN_REQUEST_KIND: a request kind to which the ZS240 gives no meaning (R175). -/
def execUnknownRequestKind (kind argument : Byte) (s : State) : Host.Outcome State Fault Refusal :=
  done (s.requested kind argument [])

end Sys2Proof.Machine
end

