-- ==== Sys2Proof/Machine/Start.lean ====
section
/-! DEFINITION. The two resets and the start: the strap, the stored image, the entry to a mode (R164 to R173 and each
chapter's own start values). -/

namespace Sys2Proof.Machine

/-! ## What the store keeps (R168, R172, R173) -/

/-- The lock record after a reset: a lock write cut short leaves bytes that nothing fixes (R168; log 13). -/
def Store.recordAfterReset (draw : Nat) (x : Store) : LockRecord :=
  match x.status with
  | .lockWrite _ => Tbl.ofFn fun i => Config.abandonedByte (draw + i.val)
  | _ => x.lockRecord

/-- The store after either reset: the stored image and the lock record are kept, a commit write cut short leaves the
image not valid, and the rest is as after power-on (R168, R172 to R174). -/
def Store.afterReset (draw : Nat) (x : Store) : Store where
  stored := x.stored
  storedBad := x.storedBad || decide (x.status = .commitWrite)
  lockRecord := x.recordAfterReset draw
  staging := Tbl.const 512 0
  loaded := Tbl.const 512 0
  status := .ready
  writeError := false
  counters := ⟨0, 0, 0⟩

/-- Every block stopped, at its values after either reset, with no configuration loaded (R173). The model's own clocks
and the queue of commands go on (log 1). -/
def State.stopped (s : State) : State where
  mode := .commission
  settings := Settings.blank
  now := s.now
  moment := s.moment
  gas := GasFront.reset
  fume := Fume.reset
  comms := { Comms.reset with draws := s.comms.draws + 5 }
  peers := Tbl.const 8 Neighbour.reset
  scanner := Scanner.reset
  tracker := Tracker.reset
  guide := Guide.reset 0
  lamps := ⟨Tbl.const 8 (Channel.reset 0), .stopped, .stopped, ⟨0, 0, 0, 0⟩⟩
  zone := ZoneCtl.reset
  store := s.store.afterReset s.comms.draws
  pending := s.pending

/-! ## COMMISSION (R166) -/

/-- The settings that stand in COMMISSION: those of the stored image where it is valid (R153, R166, R176; log 21). -/
def Store.settings (x : Store) : Settings := if x.storedValid then settingsOf x.stored else Settings.blank

/-- The staging buffer at the entry to COMMISSION (R166). -/
def Store.fillStaging (x : Store) : Store :=
  { x with staging := if x.storedValid then x.stored else Tbl.const 512 0 }

/-- The entry to COMMISSION of a station whose blocks are stopped (R166). It starts a sign record (R139); the
settings, the bit rate among them, stay as taken here until the next reset (log 38). -/
def State.enterCommission (s : State) : State :=
  let cfg := s.store.settings
  { s with
    mode := .commission
    settings := cfg
    comms := { s.comms with fan := { s.comms.fan with lead := cfg.lead } }
    guide := ((Guide.reset cfg.unit).markBoth).startRecord
    lamps :=
      ⟨Tbl.const 8 (Channel.reset Config.top), .running Config.rampMs, .running Config.pwmMs, ⟨0, 0, 0, 0⟩⟩
    store := s.store.fillStaging }

/-! ## OPERATING (R167) -/

/-- What a restart keeps (R173): the fault states of heads and fans, and the lead order. -/
structure Kept where
  heads : Tbl 4 Head
  fans : Tbl 4 Fan
  lead : List (Fin 4)

/-- A head at the entry to OPERATING (R2). -/
def startHead (cfg : HeadCfg) (kept : Option Head) : Head :=
  if !cfg.present then Head.absent
  else match kept with
    | some x =>
      if x.faulted then ⟨x.state, none, cfg.zc, 0, .stopped, .stopped, .stopped⟩
      else ⟨.warming, none, cfg.zc, 0, .running Config.warmUpMs, .stopped, .stopped⟩
    | none => ⟨.warming, none, cfg.zc, 0, .running Config.warmUpMs, .stopped, .stopped⟩

/-- A fan at the entry to OPERATING (R57). -/
def startFanRecord (cfg : FanCfg) (locked : Bool) (kept : Option Fan) : Fan :=
  if !cfg.present then Fan.stopped
  else if locked then { Fan.stopped with state := .locked }
  else match kept with
    | some f => if f.state = .fault then { Fan.stopped with state := .fault, cause := f.cause } else Fan.stopped
    | none => Fan.stopped

/-- A bay at the entry to OPERATING (R102). -/
def startBay (cfg : BayCfg) : Bay :=
  if !cfg.inUse then Bay.unused
  else if cfg.closed then { Bay.unused with state := .closed }
  else { Bay.unused with state := .unknown }

/-- The gas front end at the entry (R2). -/
def startGas (cfg : Settings) (kept : Option Kept) : GasFront :=
  { GasFront.reset with heads := Tbl.ofFn fun h => startHead (cfg.heads.get h) (kept.map fun k => k.heads.get h) }

/-- The fume unit at the entry: its three timers start together (R33). -/
def startFume (cfg : Settings) : Fume :=
  { Fume.reset with update := .running cfg.tsMs, minute := .running Config.minuteMs, roll := .running Config.rollMs }

/-- The fan controller at the entry (R57). -/
def startFans (cfg : Settings) (record : LockRecord) (kept : Option Kept) : FanCtl :=
  { FanCtl.reset with
    fans := Tbl.ofFn fun i => startFanRecord (cfg.fans.get i) (lockRead cfg.fans record i) (kept.map fun k => k.fans.get i)
    lead := (kept.map (·.lead)).getD cfg.lead
    rotationLeft := cfg.rotationMs }

/-- The link at the entry: JOINING for 2 Tr (R77, R78). -/
def startLink (cfg : Settings) : Link := { Link.reset with state := .joining, join := .running (2 * cfg.reportMs) }

/-- The bays at the entry, the flash phase on and its timer started (R102, R109). -/
def startScanner (cfg : Settings) : Scanner :=
  { Scanner.reset with
    bays := Tbl.ofFn fun b => startBay (cfg.bays.get b)
    flash := .running Config.flashMs }

/-- The lamp channels at the entry, each target formed from its record at its reset values (R152, R153). -/
def startLamps (cfg : Settings) : Lamps :=
  ⟨Tbl.ofFn fun k => (Channel.reset 0).retarget false (cfg.lamps.get k), .running Config.rampMs,
    .running Config.pwmMs, ⟨0, 0, 0, 0⟩⟩

/-- Every block at its start values, from the stored image and the lock record (R167). -/
def State.loadBlocks (s : State) (kept : Option Kept) : State :=
  let cfg := settingsOf s.store.stored
  { s with
    mode := .operating
    settings := cfg
    gas := startGas cfg kept
    fume := startFume cfg
    comms := { s.comms with fan := startFans cfg s.store.lockRecord kept, link := startLink cfg }
    scanner := startScanner cfg
    guide := (Guide.reset cfg.unit).markBoth
    lamps := startLamps cfg
    store := { s.store with loaded := s.store.stored, writeError := lockRecordBad cfg.fans s.store.lockRecord } }

/-- The lane of a port at the entry, where the port is owned (R110). -/
def startLaneOf (pins : Pins) (s : State) (p : Fin 4) : State :=
  if (s.settings.ports.get p).owned then s.startLane p (pins.loops.get p) else s

/-- The zone state controller at the entry: the PURGE level as it stands, the causes from their owners, an evaluation
from NORMAL (R162). -/
def State.startZone (s : State) (pins : Pins) : State :=
  { s with zone := { s.zone with
      purgeIn := pins.purge
      gasCause := ⟨s.invalid .co, s.invalid .no2⟩
      ventCause := s.comms.fan.noVent } }.evaluate

/-- The entry to OPERATING of a station whose blocks are stopped (R167): the blocks loaded, the lanes and the first scan
started, the zone state formed, the demand worked out, the guidance re-formed. -/
def State.enterOperating (s : State) (pins : Pins) (kept : Option Kept) : State :=
  let s1 := (List.finRange 4).foldl (startLaneOf pins) (s.loadBlocks kept)
  ((s1.beginScan.startZone pins).reworkDemand).presentCounts

/-! ## The start (R165) -/

/-- The start that follows a reset (R165). -/
def State.start (s : State) (pins : Pins) (kept : Option Kept) : State :=
  let s0 := s.stopped
  if pins.strapLow || !s0.store.storedValid then s0.enterCommission else s0.enterOperating pins kept

/-- What a restart taken in OPERATING keeps; a fault or a rotated lead order is not carried into COMMISSION, so one
taken there keeps nothing (R2, R57, R173). -/
def State.kept (s : State) : Option Kept :=
  if s.operating then some ⟨s.gas.heads, s.comms.fan.fans, s.comms.fan.lead⟩ else none

end Sys2Proof.Machine
end

