-- ==== Sys2Proof/Machine/Resets.lean ====
section
/-! DEFINITION. The commands of the two resets (R173). -/

namespace Sys2Proof.Machine

/-- POWER_ON_RESET: every block stops, nothing but the store is kept, and a start follows (R165, R173). -/
def execPowerOnReset (pins : Pins) (s : State) : Host.Outcome State Fault Refusal := done (s.start pins none)

/-- RESTART_TAKEN: taken once a restart is due (R172, R178); it keeps what R173 says, and a start follows. -/
def execRestartTaken (pins : Pins) (s : State) : Host.Outcome State Fault Refusal :=
  done (if s.restartDue then s.start pins s.kept else s)

end Sys2Proof.Machine
end

