-- ==== Sys2Proof/Machine/Dispatch.lean ====
section
/-! DEFINITION. The meaning of each command: one arm for each constructor of Instr. -/

namespace Sys2Proof.Machine

/-- What a command does to everything but the queue. -/
def exec (i : Instr) (s : State) : Host.Outcome State Fault Refusal :=
  match i with
  | .powerOnReset pins => Sys2Proof.Machine.execPowerOnReset pins s
  | .restartTaken pins => Sys2Proof.Machine.execRestartTaken pins s
  | .warmUpTimerExpiry h => Sys2Proof.Machine.execWarmUpTimerExpiry h s
  | .headValueAgesTs h => Sys2Proof.Machine.execHeadValueAgesTs h s
  | .headValueAges2Ts h => Sys2Proof.Machine.execHeadValueAges2Ts h s
  | .sampleConversionComplete code => Sys2Proof.Machine.execSampleConversionComplete code s
  | .zeroConversionComplete code => Sys2Proof.Machine.execZeroConversionComplete code s
  | .zeroProtectedPartEnd => Sys2Proof.Machine.execZeroProtectedPartEnd s
  | .settleTimerExpiry h => Sys2Proof.Machine.execSettleTimerExpiry h s
  | .zeroIntervalTimerExpiry h => Sys2Proof.Machine.execZeroIntervalTimerExpiry h s
  | .clearHeadFault index => Sys2Proof.Machine.execClearHeadFault index s
  | .gasUpdateTimerExpiry => Sys2Proof.Machine.execGasUpdateTimerExpiry s
  | .minuteBoundary => Sys2Proof.Machine.execMinuteBoundary s
  | .movementRoll => Sys2Proof.Machine.execMovementRoll s
  | .dwellTimerExpiry => Sys2Proof.Machine.execDwellTimerExpiry s
  | .localSpacingTimerExpiry => Sys2Proof.Machine.execLocalSpacingTimerExpiry s
  | .tachPulse fan periodUs => Sys2Proof.Machine.execTachPulse fan periodUs s
  | .tachTimeout fan => Sys2Proof.Machine.execTachTimeout fan s
  | .spinUpTimerExpiry fan => Sys2Proof.Machine.execSpinUpTimerExpiry fan s
  | .runningCheck fan => Sys2Proof.Machine.execRunningCheck fan s
  | .checkHoldTimerExpiry fan => Sys2Proof.Machine.execCheckHoldTimerExpiry fan s
  | .rotationTimerExpiry => Sys2Proof.Machine.execRotationTimerExpiry s
  | .boostTimerExpiry => Sys2Proof.Machine.execBoostTimerExpiry s
  | .lockFan index => Sys2Proof.Machine.execLockFan index s
  | .unlockFan index => Sys2Proof.Machine.execUnlockFan index s
  | .clearFanFault index => Sys2Proof.Machine.execClearFanFault index s
  | .boostStage stage minutes => Sys2Proof.Machine.execBoostStage stage minutes s
  | .busFree => Sys2Proof.Machine.execBusFree s
  | .arbitrationLost => Sys2Proof.Machine.execArbitrationLost s
  | .lateCollision => Sys2Proof.Machine.execLateCollision s
  | .frameDelivered => Sys2Proof.Machine.execFrameDelivered s
  | .attemptVoided => Sys2Proof.Machine.execAttemptVoided s
  | .attemptUnheard => Sys2Proof.Machine.execAttemptUnheard s
  | .zoneReportTaken sender payload => Sys2Proof.Machine.execZoneReportTaken sender payload s
  | .startNoticeTaken sender fan window => Sys2Proof.Machine.execStartNoticeTaken sender fan window s
  | .transitNoticeTaken sender target direction port => Sys2Proof.Machine.execTransitNoticeTaken sender target direction port s
  | .serviceRequestTaken sender target kind argument data => Sys2Proof.Machine.execServiceRequestTaken sender target kind argument data s
  | .unpassedFrameTaken sender kind => Sys2Proof.Machine.execUnpassedFrameTaken sender kind s
  | .receivedFrameDiscarded checkError => Sys2Proof.Machine.execReceivedFrameDiscarded checkError s
  | .brokenFrame => Sys2Proof.Machine.execBrokenFrame s
  | .stretchBegin => Sys2Proof.Machine.execStretchBegin s
  | .stretchTimerExpiry => Sys2Proof.Machine.execStretchTimerExpiry s
  | .stuckTimerExpiry => Sys2Proof.Machine.execStuckTimerExpiry s
  | .joinTimerExpiry => Sys2Proof.Machine.execJoinTimerExpiry s
  | .lateCollisionRecordLapse => Sys2Proof.Machine.execLateCollisionRecordLapse s
  | .periodicRequest => Sys2Proof.Machine.execPeriodicRequest s
  | .spacingTimerExpiry => Sys2Proof.Machine.execSpacingTimerExpiry s
  | .staleTimerExpiry place => Sys2Proof.Machine.execStaleTimerExpiry place s
  | .lostTimerExpiry place => Sys2Proof.Machine.execLostTimerExpiry place s
  | .startNoticeEntryExpiry unit fan => Sys2Proof.Machine.execStartNoticeEntryExpiry unit fan s
  | .scanTimerExpiry => Sys2Proof.Machine.execScanTimerExpiry s
  | .bayPollAnswer bay reading => Sys2Proof.Machine.execBayPollAnswer bay reading s
  | .bayNoAnswer bay => Sys2Proof.Machine.execBayNoAnswer bay s
  | .flashTimerExpiry => Sys2Proof.Machine.execFlashTimerExpiry s
  | .loopChange port loop on => Sys2Proof.Machine.execLoopChange port loop on s
  | .lanePresenceTimerExpiry port => Sys2Proof.Machine.execLanePresenceTimerExpiry port s
  | .loopStuckTimerExpiry port loop => Sys2Proof.Machine.execLoopStuckTimerExpiry port loop s
  | .clearDetector index selector => Sys2Proof.Machine.execClearDetector index selector s
  | .arrivalExpiry => Sys2Proof.Machine.execArrivalExpiry s
  | .signRefreshTimerExpiry => Sys2Proof.Machine.execSignRefreshTimerExpiry s
  | .signRecordEnd => Sys2Proof.Machine.execSignRecordEnd s
  | .lampPresenceTimerExpiry channel => Sys2Proof.Machine.execLampPresenceTimerExpiry channel s
  | .rampTick => Sys2Proof.Machine.execRampTick s
  | .pwmPeriodStart => Sys2Proof.Machine.execPwmPeriodStart s
  | .purgeAssertionTaken => Sys2Proof.Machine.execPurgeAssertionTaken s
  | .purgeReleaseTaken => Sys2Proof.Machine.execPurgeReleaseTaken s
  | .alarmHoldTimerExpiry => Sys2Proof.Machine.execAlarmHoldTimerExpiry s
  | .lockWriteEnd readBack => Sys2Proof.Machine.execLockWriteEnd readBack s
  | .commitWriteEnd readBack => Sys2Proof.Machine.execCommitWriteEnd readBack s
  | .statusQuery part => Sys2Proof.Machine.execStatusQuery part s
  | .counterQuery group page => Sys2Proof.Machine.execCounterQuery group page s
  | .clearStoreError => Sys2Proof.Machine.execClearStoreError s
  | .configWrite argument data => Sys2Proof.Machine.execConfigWrite argument data s
  | .configRead argument => Sys2Proof.Machine.execConfigRead argument s
  | .configCommit => Sys2Proof.Machine.execConfigCommit s
  | .restart => Sys2Proof.Machine.execRestart s
  | .unknownRequestKind kind argument => Sys2Proof.Machine.execUnknownRequestKind kind argument s

end Sys2Proof.Machine
end

