-- ==== Sys2Proof/Safety.lean ====
section
/-! DEFINITION. What a sound station looks like between two steps: the terms the statements use. -/

namespace Sys2Proof.Machine

/-! ## Nothing waits for the end of a step -/

/-- The zone state controller knows NO_VENT as it stands (R157). -/
def State.ventTold (s : State) : Bool := !s.operating || decide (s.zone.ventCause = s.comms.fan.noVent)

/-- The responder has no request that it may take (R175). -/
def State.requestsTaken (s : State) : Bool := !s.mayServe || s.comms.service.queue.isEmpty

/-- The bus is not free for a frame that waits (R61, R66). -/
def State.framesStarted (s : State) : Bool := !s.canStart

/-- Nothing is left for the end of a step: NO_VENT is told, no request can be taken, no frame can start (log 8). -/
def State.atRest (s : State) : Bool := s.ventTold && s.requestsTaken && s.framesStarted

/-- Nothing will follow a command's own effect unless it changes NO_VENT: NO_VENT is told, no request waits, and the bus
is not free. -/
def State.quiet (s : State) : Bool :=
  s.ventTold && s.comms.service.queue.isEmpty && decide (s.comms.link.busFreeCount ≠ Config.busFreeBits)

/-- A fan is available, and NO_VENT is clear as it then is (R40). -/
def State.vented (s : State) : Bool :=
  !s.comms.fan.noVent && (List.finRange 4).any (available s.settings s.comms.fan)

/-! ## What follows a command -/

/-- The stage in force once the demand has been worked out again: a rise at once, a fall of one step where the dwell
timer stands expired and the zone is neither in ALARM nor in PURGE (R38); in COMMISSION no demand is worked out (R57).
-/
def stageAfter (e : Env) (fc : FanCtl) : Nat :=
  if !e.operating then fc.stage
  else if fc.stage < demand e fc then demand e fc
  else if demand e fc < fc.stage ∧ fc.dwell = .expired ∧ e.grave = false then fc.stage - 1
  else fc.stage

/-- The responder takes a request the moment it comes, and its reply finds a place in the queue (R85, R175). -/
def State.ready (s : State) : Bool :=
  s.quiet && s.mayServe && decide (s.comms.link.state ≠ .silent) && decide (s.comms.link.queue.length < 8)

/-- The station once it has taken a request and given it a reply, before the effect of the request itself: the request
is the current one, its reply stands in the queue at attempt 0, and a stretch that waited for a place has ended (R73,
R84, R175). -/
def State.replied (s : State) (r : Request) (reply : Reply) : State :=
  { s with
    comms := { s.comms with
      service := { s.comms.service with current := some ⟨r, reply⟩ }
      link := { s.comms.link with
        queue := enqueue s.grave ⟨.reply reply, 0, true, s.moment, s.comms.draws, false⟩ s.comms.link.queue
        stretch := .stopped
        stuck := if s.comms.link.stretch.isRunning then .stopped else s.comms.link.stuck }
      draws := s.comms.draws + 1 }
    moment := s.moment + 1 }

/-! ## Rules of the whole machine -/

/-- A head configured absent is ABSENT and takes no part in conversions (R1); a head under a zero conversion is at rest
(R10); a head at rest is covered: its partner is ACTIVE, or it is the one head of its gas and FS lies below 128
(R9, R14); in ALARM and PURGE no head is at rest (R13). -/
def State.headsSound (s : State) : Prop :=
  ∀ h : Fin 4,
    ((s.settings.heads.get h).present = false → (s.gas.heads.get h).state = .absent ∧
      s.gas.converter.samples h = false ∧ s.gas.converter.zeroes h = false) ∧
    (s.gas.converter.zeroes h = true → (s.gas.heads.get h).state = .zeroing) ∧
    ((s.gas.heads.get h).state = .zeroing → s.grave = false ∧
      ((s.gas.heads.get (partner h)).state = .active ∨
        (s.settings.heads.get h).present = true ∧ (s.settings.heads.get (partner h)).present = false ∧
          s.fume.fs < 128))

/-- Head `h` goes to rest where its latest value has the age `age` and the other heads and the zone stand as they do:
it is ACTIVE with a backlog, its value is younger than 2 Ts, the zone is in NORMAL or DIVERT, and its gas is covered
(R9). -/
def State.dueForRest (s : State) (h : Fin 4) (age : Nat) : Bool :=
  decide ((s.gas.heads.get h).state = .active) && decide (0 < (s.gas.heads.get h).backlog) &&
    decide (age < 2 * s.settings.tsMs) && !s.grave &&
    (decide ((s.gas.heads.get (partner h)).state = .active) ||
      (s.settings.heads.get h).present && !(s.settings.heads.get (partner h)).present && decide (s.fume.fs < 128))

/-- Every score the fume unit keeps lies in 0 to 1023 (R28). -/
def State.scoresSound (s : State) : Prop :=
  (∀ g : Gas, (s.fume.gases.get g).shortScore ≤ 1023 ∧ (s.fume.gases.get g).exposureScore ≤ 1023) ∧
    s.fume.fs ≤ 1023 ∧ s.fume.es ≤ 1023

/-- ES0, Q and ES are as their sources give them now (R29, R31, R32). -/
def State.effectiveSound (s : State) : Prop :=
  s.fume.es0 = s.fume.terms.cells.foldl (fun m t => max m (t.getD 0)) s.fume.fs ∧
    s.fume.q = s.queueLanes ∧
    s.fume.es = min 1023 (s.fume.es0 +
      (s.fume.movement.cells.foldl (· + ·) 0 * s.settings.km + s.fume.q * s.settings.kq) / 4)

/-- A turning fan has the duty of the stage in force, and every other fan, a locked or faulted one among them, has
duty 0 (R39, R54). -/
def State.dutiesSound (s : State) : Prop :=
  ∀ i : Fin 4, (s.comms.fanAt i).duty =
    if (s.comms.fanAt i).driveOn then stageDuty s.settings s.comms.fan.stage else 0

/-- The stage thresholds as a committed image has them: the entries rise, and each exit lies below its entry (R171). -/
def thresholdsOrdered (cfg : Settings) : Prop :=
  cfg.entry.get 0 < cfg.entry.get 1 ∧ cfg.entry.get 1 < cfg.entry.get 2 ∧
    ∀ k : Fin 3, cfg.exit.get k < cfg.entry.get k

/-- While OPERATING, the stage in force is at least the demand, as a rise takes effect at once (R38): at least 4 in
ALARM and PURGE, and else at least the fail-safe stage while a fitted gas is INVALID, the boost stage while a boost
override runs, and every stage whose entry threshold ES reaches (R36, R37). -/
def State.stageSound (s : State) : Prop :=
  s.operating = true → thresholdsOrdered s.settings →
    (s.grave = true → 4 ≤ s.comms.fan.stage) ∧
    (s.grave = false →
      (∀ g, s.settings.fitted g = true → (s.fume.gases.get g).valid = false →
        s.settings.failSafe ≤ s.comms.fan.stage) ∧
      (∀ b, s.comms.fan.boost = some b → b.stage ≤ s.comms.fan.stage) ∧
      ∀ k : Fin 3, s.settings.entry.get k ≤ s.fume.es → k.val + 1 ≤ s.comms.fan.stage)

/-- The queues and lists hold no more than their places (R84, R95, R117, R175). -/
def State.listsSound (s : State) : Prop :=
  s.comms.link.queue.length ≤ 8 ∧ s.comms.service.queue.length ≤ 2 ∧ s.comms.notices.length ≤ 16 ∧
    s.tracker.list.length ≤ 16

/-- `f` may stand before `g` in the transmit queue: it has the lower class by the zone state as it stands, or the same
class and no later queueing time (R84). -/
def mayPrecede (grave : Bool) (f g : Frame) : Prop :=
  f.payload.cls grave < g.payload.cls grave ∨
    f.payload.cls grave = g.payload.cls grave ∧ f.queuedAt ≤ g.queuedAt

/-- The transmit queue is ordered by class and queueing time, by the zone state as it stands, and holds at most one ZONE
REPORT and at most one START NOTICE (R42, R84). -/
def State.queueSound (s : State) : Prop :=
  s.comms.link.queue.Pairwise (mayPrecede s.grave) ∧
    (s.comms.link.queue.filter fun f => f.payload.isReport).length ≤ 1 ∧
    (s.comms.link.queue.filter fun f => f.payload.isStartNotice).length ≤ 1

/-- The bytes of a sign record before its check, place by place: the index of the sign; the legend, 0 with the two free
counts or CLOSED with two zeros; for each slot its content, the emphasis in bit 7, and the count of an ARROW (R181). -/
def isSignBody (i : Fin 2) (g : Sign) (body : List Byte) : Prop :=
  body.length = 12 ∧ body.head? = some (byte i.val) ∧
    (body.drop 1).take 3 = (match g.legend with
      | .counts general accessible => [0, byte general, byte accessible]
      | .closed => [1, 0, 0]) ∧
    ∀ j : Fin 4, (body.drop (4 + 2 * j.val)).take 2 = match g.slots.get j with
      | .dark => [0, 0]
      | .closed => [1, 0]
      | .full => [2, 0]
      | .arrow n emphasised => [if emphasised then 0x83 else 0x03, byte n]

/-- A bay is HELD exactly while one entry of the arrival list holds it, and then one entry alone (R121). -/
def State.holdsSound (s : State) : Prop :=
  ∀ b : Fin 48, (s.tracker.list.filter (Arrival.holds b)).length = if s.bayState b = .held then 1 else 0

/-- The number of HELD bays equals the number of arrival entries that carry a held bay (R121). -/
def State.holdsCounted (s : State) : Prop :=
  ((List.finRange 48).filter fun b => decide (s.bayState b = .held)).length =
    (s.tracker.list.filter fun a => a.bay.isSome).length

/-- Outside NORMAL the advertised counts and the advertised offer are zero, with this station as origin (R134). -/
def State.advertSound (s : State) : Prop :=
  s.zone.state ≠ .normal →
    s.guide.advGeneral = 0 ∧ s.guide.advAccessible = 0 ∧ s.guide.advOffer = ⟨0, 0, 0, s.settings.unit, none⟩

/-- The best offer, the emphasised port, the advertised figures and the signs are as the own offer, the candidates and
the free counts give them now. The best offer is the own offer or a candidate, of the greatest value, then the fewest
hops, then the own offer first and the lower port (R133). In NORMAL the free counts and the best offer are advertised
(R134), and the best offer's port is emphasised where it is a candidate of value 1 or more; outside NORMAL it is the
port of the best candidate so (R136). A slot is dark without a port, a neighbour or contents, else CLOSED for a
neighbour in ALARM or PURGE, FULL without a candidate of value 1 or more, and else an arrow with the offer's free
count (R137); the legend is CLOSED in ALARM and PURGE and else the two free counts (R138). -/
def State.guidanceFormed (s : State) : Prop :=
  let g := s.guide
  (g.bestPort = none → g.best = g.own) ∧
  (∀ p, g.bestPort = some p → g.candidates.get p = some g.best ∧
    (g.own.value < g.best.value ∨ g.own.value = g.best.value ∧ g.best.hops < g.own.hops)) ∧
  (∀ p, ∀ o ∈ g.candidates.get p, o.value < g.best.value ∨ o.value = g.best.value ∧
    (g.best.hops < o.hops ∨ g.best.hops = o.hops ∧ ∀ q ∈ g.bestPort, q ≤ p)) ∧
  (s.zone.state = .normal →
    g.advGeneral = s.freeCount .general ∧ g.advAccessible = s.freeCount .accessible ∧ g.advOffer = g.best ∧
    g.emphasised = if 1 ≤ g.best.value then g.bestPort else none) ∧
  (s.zone.state ≠ .normal →
    g.advGeneral = 0 ∧ g.advAccessible = 0 ∧ g.advOffer = ⟨0, 0, 0, s.settings.unit, none⟩ ∧
    (∀ p ∈ g.emphasised, ∃ o ∈ g.candidates.get p, 1 ≤ o.value ∧ ∀ q, ∀ x ∈ g.candidates.get q,
      x.value < o.value ∨ x.value = o.value ∧ (o.hops < x.hops ∨ o.hops = x.hops ∧ p ≤ q)) ∧
    (g.emphasised = none → ∀ q, ∀ x ∈ g.candidates.get q, x.value = 0)) ∧
  ∀ i, (g.signs.get i).legend =
      (if s.grave then .closed else .counts (s.freeCount .general) (s.freeCount .accessible)) ∧
    ∀ j, (g.signs.get i).slots.get j =
      match (s.settings.slots.get i).get j with
      | none => .dark
      | some p =>
        match (s.settings.placeOfPort p).bind fun n => (s.peers.get n).contents with
        | none => .dark
        | some c =>
          if c.report.zoneState = 2 ∨ c.report.zoneState = 3 then .closed
          else match g.candidates.get p with
            | some o => if 1 ≤ o.value then .arrow o.free (decide (g.emphasised = some p)) else .full
            | none => .full

/-- Every lead-in demand stands set exactly while an entry of the arrival list that holds a bay names the channel, by
its source port or by that bay, and its channel record holds the demand as presented (R127, R146). -/
def State.leadInSound (s : State) : Prop :=
  ∀ k : Fin 8,
    s.tracker.leadIn.get k = (s.tracker.list.any fun a => match a.bay with
      | none => false
      | some b =>
        decide (sourceChannel s.settings a.source = some k) || decide ((s.settings.bays.get b).lamp = some k)) ∧
    (s.lamps.channels.get k).leadIn = s.tracker.leadIn.get k

/-- Every lamp target is as R147 forms it: 1023 in COMMISSION, ALARM and PURGE, else the greatest of the background, the
presence level while presence lasts and the mask takes it, and the lead-in level while it is demanded and the mask takes
it. -/
def State.lampsSound (s : State) : Prop :=
  ∀ k : Fin 8, (s.lamps.channels.get k).target =
    if s.operating = false ∨ s.zone.state = .alarm ∨ s.zone.state = .purge then 1023
    else max (max (s.settings.lamps.get k).background
        (if (s.lamps.channels.get k).presence ≠ .stopped ∧ (s.settings.lamps.get k).maskPresence = true
          then (s.settings.lamps.get k).presence else 0))
      (if (s.lamps.channels.get k).leadIn = true ∧ (s.settings.lamps.get k).maskLeadIn = true
        then (s.settings.lamps.get k).leadIn else 0)

end Sys2Proof.Machine
end

