-- ==== Sys2Proof/Certificates/Slice0/Obligations.lean ====
section
/-! DEFINITION. The statements about the station, for the provers: what its commands do, and what every step keeps. -/

open Sys2Proof Sys2Proof.Machine

/-! ## The machine (log 1, log 28) -/

/-- A step takes the command at the front of the queue and runs it on the state with the queue's rest. The model's
queue (log 28). -/
def Obligations.StepRunsTheFrontCommand : Prop :=
  ∀ (c : Instr) (rest : List Instr) (s : State), s.pending = c :: rest → step s = exec c { s with pending := rest }

/-- On an empty queue one millisecond passes: the clock moves on, and of every block its timers and ages alone may
change: no state, value, list, queue, mark, offer or counter does. The model's choice (log 1). -/
def Obligations.IdleStepOnlyLetsTimePass : Prop :=
  ∀ s : State, s.pending = [] → ∃ t, step s = .next t ∧
    t = { s with
      now := s.now + 1, moment := s.moment + 1
      gas := { s.gas with heads := t.gas.heads, converter := t.gas.converter }
      fume := { s.fume with update := t.fume.update, minute := t.fume.minute, roll := t.fume.roll }
      comms := { s.comms with
        fan := { s.comms.fan with
          fans := t.comms.fan.fans, dwell := t.comms.fan.dwell, rotationLeft := t.comms.fan.rotationLeft
          spacing := t.comms.fan.spacing, boost := t.comms.fan.boost }
        link := { s.comms.link with
          stretch := t.comms.link.stretch, join := t.comms.link.join, stuck := t.comms.link.stuck
          report := t.comms.link.report, spacing := t.comms.link.spacing }
        notices := t.comms.notices }
      peers := t.peers
      scanner := { s.scanner with lanes := t.scanner.lanes, scan := t.scanner.scan, flash := t.scanner.flash }
      guide := { s.guide with refresh := t.guide.refresh, line := t.guide.line }
      lamps := { s.lamps with channels := t.lamps.channels, ramp := t.lamps.ramp, pwm := t.lamps.pwm }
      zone := { s.zone with hold := t.zone.hold } } ∧
    (∀ h, t.gas.heads.get h = { s.gas.heads.get h with
        latest := (t.gas.heads.get h).latest, warmUp := (t.gas.heads.get h).warmUp
        settle := (t.gas.heads.get h).settle, zeroInterval := (t.gas.heads.get h).zeroInterval } ∧
      (t.gas.heads.get h).latest.map (fun l => (l.value, l.age)) =
        (s.gas.heads.get h).latest.map (fun l => (l.value, l.age + 1))) ∧
    t.gas.converter = (match s.gas.converter with
      | .idle => .idle
      | .sample h n => .sample h (n - 1)
      | .zero h guarded n => .zero h guarded (n - 1)) ∧
    (∀ i, t.comms.fanAt i = { s.comms.fanAt i with
      hold := (t.comms.fanAt i).hold, spinUp := (t.comms.fanAt i).spinUp, check := (t.comms.fanAt i).check }) ∧
    t.comms.fan.boost.map (·.stage) = s.comms.fan.boost.map (·.stage) ∧
    t.comms.notices.map (fun n => (n.unit, n.fan, n.heard, n.window)) =
      s.comms.notices.map (fun n => (n.unit, n.fan, n.heard, n.window)) ∧
    (∀ n, t.peers.get n = { s.peers.get n with stale := (t.peers.get n).stale, lost := (t.peers.get n).lost }) ∧
    (∀ p, t.laneAt p = { s.laneAt p with
      presence := (t.laneAt p).presence, stuckA := (t.laneAt p).stuckA, stuckB := (t.laneAt p).stuckB }) ∧
    (∀ k, t.lamps.channels.get k = { s.lamps.channels.get k with
      presence := match (s.lamps.channels.get k).presence with
        | .counting n => .counting (n - 1)
        | x => x }) ∧
    t.guide.line.map (fun x => (x.sign, x.bytes)) = s.guide.line.map (fun x => (x.sign, x.bytes))

/-- Every command completes: it answers a next state. That it is one moment later with the clock left alone, that the
queue of commands is left alone, and that a command is answered where it cannot arrive are the model's choices (log 1,
log 28, log 2). -/
def Obligations.EveryCommandCompletes : Prop :=
  ∀ (c : Instr) (s : State), ∃ t, exec c s = .next t ∧ t.pending = s.pending ∧ t.now = s.now ∧ t.moment = s.moment + 1

/-- After every command, no request waits that the responder may take (R175), and no frame waits on a bus that is free
for the link to start it (R61, R66, R84). That a frame enters arbitration in the step in which it comes to wait,
unless another party has started first, is the model's choice (log 7). -/
def Obligations.NothingThatCouldMoveIsLeftWaiting : Prop :=
  ∀ (c : Instr) (s t : State), exec c s = .next t → t.requestsTaken = true ∧ t.framesStarted = true

/-! ## Resets and starts (Chapter 11) -/

/-- A power-on reset with the strap low or without a valid stored image starts in COMMISSION: fans off, heads ABSENT,
zone NORMAL, link OFF, lists empty, lamps ramping from 0 to full, signs dark with a legend of 0 and 0, the record of
sign 0 on the line and counted, the staging buffer filled, the stored image kept, COUNTER QUERY to read 0 of every
counter (R76, R77, R139, R142, R151, R152, R165, R166, R177). What the stored bytes are after an abandoned commit
write, the record of a bay not in use, the records of absent heads and fans, and that the count of the sign record is
kept though it reads 0 are the model's choices (log 13, log 22, log 21, log 31). -/
def Obligations.PowerOnResetIntoCommission : Prop :=
  ∀ (pins : Pins) (s : State), pins.strapLow = true ∨ s.store.storedValid = false →
    ∃ t, exec (.powerOnReset pins) s = .next t ∧ t.mode = .commission ∧ t.pending = s.pending ∧
      (∀ h, (t.gas.heads.get h).state = .absent ∧ (t.gas.heads.get h).latest = none) ∧ t.gas.converter = .idle ∧
      t.fume.fs = 0 ∧ t.fume.es = 0 ∧ t.comms.fan.stage = 0 ∧
      (∀ i, (t.comms.fanAt i).state = .stopped ∧ (t.comms.fanAt i).duty = 0) ∧
      t.comms.link.state = .off ∧ t.comms.link.queue = [] ∧ t.comms.link.busFreeCount = 0 ∧
      t.comms.link.stuck = .stopped ∧ t.comms.service = ⟨[], none, false⟩ ∧ t.comms.notices = [] ∧
      (∀ n, t.peers.get n = ⟨none, .lost, .stopped, .stopped⟩) ∧
      (∀ b, t.bayState b = .unused) ∧ t.tracker.list = [] ∧ t.zone.state = .normal ∧
      (∀ k, (t.lamps.channels.get k).level = 0 ∧ (t.lamps.channels.get k).target = 1023) ∧
      t.lamps.ramp = .running 10 ∧ t.lamps.pwm = .running 1 ∧
      (∀ i j, ((t.guide.signs.get i).slots.get j) = .dark) ∧ (∀ i, (t.guide.signs.get i).legend = .counts 0 0) ∧
      (∀ g : Fin 11, ∀ counters ∈ t.counterGroups[g.val]?, ∀ n ∈ counters, n = 0) ∧
      t.guide.counters = ⟨0, 0, 0, 0, 1⟩ ∧ t.guide.line.map (·.sign) = some 0 ∧
      t.store.stored = s.store.stored ∧ t.store.status = .ready ∧ t.store.writeError = false ∧
      t.store.staging = if s.store.storedValid then s.store.stored else Tbl.const 512 0

/-- A power-on reset with the strap high and a valid stored image loads it and enters OPERATING, each block at its
start values (R2, R33, R57, R77, R78, R98, R102, R128, R152, R162, R165, R167). In every image that a commit accepts
A_on is at least 1, as A_off lies below it, and the fail-safe stage is at most 4 (R171). A lock write cut short by the
reset leaves a record that the start reads as any other (R168). The records of an absent head and of a bay not in use,
and what the cut short writes leave, are the model's choices (log 21, log 22, log 13). -/
def Obligations.PowerOnResetIntoOperating : Prop :=
  ∀ (pins : Pins) (s : State), pins.strapLow = false → s.store.storedValid = true →
    0 < (settingsOf s.store.stored).alarmOn → (settingsOf s.store.stored).failSafe ≤ 4 →
    ∃ t, exec (.powerOnReset pins) s = .next t ∧ t.mode = .operating ∧ t.pending = s.pending ∧
      t.settings = settingsOf s.store.stored ∧
      (∀ h, t.gas.heads.get h = if (t.settings.heads.get h).present
        then ⟨.warming, none, (t.settings.heads.get h).zc, 0, .running 60000, .stopped, .stopped⟩
        else Head.absent) ∧
      t.gas.converter = .idle ∧
      (∀ g, (t.fume.gases.get g).valid = false ∧ (t.fume.gases.get g).acc = 0) ∧ t.fume.fs = 0 ∧ t.fume.es = 0 ∧
      t.fume.update = .running t.settings.tsMs ∧ t.fume.minute = .running 60000 ∧ t.fume.roll = .running 10000 ∧
      t.comms.fan.lead = t.settings.lead ∧
      (∀ i, (t.settings.fans.get i).present = true → lockRead t.settings.fans t.store.lockRecord i = true →
        (t.comms.fanAt i).state = .locked) ∧
      (∀ i, (t.comms.fanAt i).driveOn = false) ∧
      ((t.settings.fitted .co || t.settings.fitted .no2) = true → t.settings.failSafe ≤ t.comms.fan.stage) ∧
      t.comms.link.state = .joining ∧ t.comms.link.join = .running (2 * (1000 * t.settings.reportPeriod)) ∧
      t.comms.service = ⟨[], none, false⟩ ∧ t.comms.notices = [] ∧
      (∀ n, t.peers.get n = ⟨none, .lost, .stopped, .stopped⟩) ∧
      (∀ b, t.bayState b = if !(t.settings.bays.get b).inUse then .unused
        else if (t.settings.bays.get b).closed then .closed else .unknown) ∧
      t.tracker.list = [] ∧
      (pins.purge = true → t.zone.state = .purge) ∧
      (pins.purge = false → (t.settings.fitted .co || t.settings.fitted .no2) = true → t.zone.state = .divert) ∧
      (∀ k, (t.lamps.channels.get k).level = 0) ∧ t.lamps.ramp = .running 10 ∧ t.lamps.pwm = .running 1 ∧
      t.store.loaded = s.store.stored ∧ t.store.stored = s.store.stored ∧ t.store.status = .ready ∧
      ((∀ r, s.store.status ≠ .lockWrite r) → t.store.lockRecord = s.store.lockRecord) ∧
      (t.store.writeError = true ↔ t.store.lockRecord ≠ Tbl.const 5 0xFF ∧
        (t.store.lockRecord.get 4 ≠ crc8 (t.store.lockRecord.cells.take 4) ∨
          ∃ i : Fin 4, (t.settings.fans.get i).present = true ∧
            t.store.lockRecord.get (i.castLE (by decide)) ≠ 0x5A ∧
            t.store.lockRecord.get (i.castLE (by decide)) ≠ 0xA5))

/-- A restart is taken once it is due, and from OPERATING into OPERATING it keeps each present head's DRIFT or OPEN,
each present fan's FAULT with its cause where the lock record does not show the fan locked, and the lead order; taken
in COMMISSION it keeps none of them, and into COMMISSION no head or fan holds a fault and the lead order is the
configured one (R2, R57, R173, R176). A restart that is not due changes nothing (the model's choice for a command that
cannot arrive, log 2). That the lead order is empty while no valid image stands is the model's choice too (log 21). -/
def Obligations.RestartKeepsLatchedFaultsAndTheLead : Prop :=
  ∀ (pins : Pins) (s : State), s.atRest = true →
    (s.restartDue = true → s.operating = true → pins.strapLow = false → s.store.storedValid = true →
      ∃ t, exec (.restartTaken pins) s = .next t ∧ t.mode = .operating ∧ t.settings = settingsOf s.store.stored ∧
        t.comms.fan.lead = s.comms.fan.lead ∧ t.comms.service = ⟨[], none, false⟩ ∧ t.comms.link.state = .joining ∧
        (∀ h, (t.settings.heads.get h).present = true → (s.gas.heads.get h).faulted = true →
          t.gas.heads.get h =
            ⟨(s.gas.heads.get h).state, none, (t.settings.heads.get h).zc, 0, .stopped, .stopped, .stopped⟩) ∧
        (∀ h, (t.settings.heads.get h).present = true → (s.gas.heads.get h).faulted = false →
          (t.gas.heads.get h).state = .warming) ∧
        (∀ i, (t.settings.fans.get i).present = true → lockRead t.settings.fans t.store.lockRecord i = false →
          (s.comms.fanAt i).state = .fault →
            (t.comms.fanAt i).state = .fault ∧ (t.comms.fanAt i).cause = (s.comms.fanAt i).cause)) ∧
    (s.restartDue = true → s.operating = false → pins.strapLow = false → s.store.storedValid = true →
      ∃ t, exec (.restartTaken pins) s = .next t ∧ t.mode = .operating ∧ t.settings = settingsOf s.store.stored ∧
        t.comms.fan.lead = t.settings.lead ∧
        (∀ h, (t.gas.heads.get h).state =
          if (t.settings.heads.get h).present then .warming else .absent) ∧
        ∀ i, (t.comms.fanAt i).state ≠ .fault ∧ (t.comms.fanAt i).cause = none) ∧
    (s.restartDue = true → pins.strapLow = true ∨ s.store.storedValid = false →
      ∃ t, exec (.restartTaken pins) s = .next t ∧ t.mode = .commission ∧
        (∀ h, (t.gas.heads.get h).state = .absent) ∧
        (∀ i, (t.comms.fanAt i).state = .stopped ∧ (t.comms.fanAt i).cause = none) ∧
        t.comms.fan.lead = if s.store.storedValid then (settingsOf s.store.stored).lead else []) ∧
    (s.restartDue = false → exec (.restartTaken pins) s = .next { s with moment := s.moment + 1 })

/-! ## Gas heads and the converter (Chapter 1) -/

/-- A WARMING head whose warm-up timer expires enters ACTIVE with its zero interval timer started; with no value it
stands URGENT, or is converted at once; its partner may go to rest, and no other head changes (R3, R8, R9). -/
def Obligations.WarmUpEndsInService : Prop :=
  ∀ (h : Fin 4) (s : State), s.atRest = true → (s.gas.heads.get h).state = .warming →
    (s.gas.heads.get h).warmUp.isRunning = true →
    ∃ t, exec (.warmUpTimerExpiry h) s = .next t ∧ t = { s with gas := t.gas, moment := s.moment + 1 } ∧
      t.gas.heads.get h = { s.gas.heads.get h with
        state := .active, warmUp := .stopped, zeroInterval := .running (3600000 * s.settings.zeroHours) } ∧
      ((s.gas.heads.get h).latest = none →
        requestOf t.settings t.gas h = some .urgent ∨ t.gas.converter.samples h = true) ∧
      (∀ k, k ≠ h → k ≠ partner h → t.gas.heads.get k = s.gas.heads.get k) ∧
      (t.gas.heads.get (partner h) = s.gas.heads.get (partner h) ∨
        (s.gas.heads.get (partner h)).state = .active ∧ 0 < (s.gas.heads.get (partner h)).backlog ∧
          t.gas.heads.get (partner h) =
            { s.gas.heads.get (partner h) with state := .zeroing, settle := .running 2000 })

/-- An ACTIVE head whose latest value reaches age Ts stands a request, so an idle converter does not stay idle (R4, R5);
only that head's age and the converter move. -/
def Obligations.ValueAtSamplePeriodIsAskedFor : Prop :=
  ∀ (h : Fin 4) (l : Latest) (s : State), s.atRest = true → (s.gas.heads.get h).state = .active →
    (s.gas.heads.get h).latest = some l →
    ∃ t, exec (.headValueAgesTs h) s = .next t ∧ t = { s with gas := t.gas, moment := s.moment + 1 } ∧
      t.gas.heads.get h = { s.gas.heads.get h with latest := some ⟨l.value, max l.age s.settings.tsMs⟩ } ∧
      (∀ k, k ≠ h → t.gas.heads.get k = s.gas.heads.get k) ∧ t.gas.converter ≠ .idle

/-- An ACTIVE head whose latest value passes age 2 Ts, and which is not being converted, is URGENT: a zero conversion
in its protected part is aborted, ZERO_ABORTS is counted and a sample conversion starts at once; past the protected
part the request waits (R4, R5, R11). -/
def Obligations.UrgentRequestBreaksAProtectedZeroConversion : Prop :=
  ∀ (h z : Fin 4) (l : Latest) (guarded : Bool) (left : Nat) (s : State), s.atRest = true →
    (s.gas.heads.get h).state = .active → (s.gas.heads.get h).latest = some l →
    s.gas.converter = .zero z guarded left →
    ∃ t, exec (.headValueAges2Ts h) s = .next t ∧ t = { s with gas := t.gas, moment := s.moment + 1 } ∧
      t.gas.heads.get h = { s.gas.heads.get h with latest := some ⟨l.value, max l.age (2 * s.settings.tsMs + 1)⟩ } ∧
      (∀ k, k ≠ h → t.gas.heads.get k = s.gas.heads.get k) ∧
      (guarded = true → (∃ k, t.gas.converter = .sample k 40) ∧
        t.gas.counters = { s.gas.counters with zeroAborts := bump s.gas.counters.zeroAborts }) ∧
      (guarded = false → t.gas.converter = s.gas.converter ∧ t.gas.counters = s.gas.counters)

/-- A good code of a sample conversion gives its head the concentration of R18 at age 0 and sets the gas's UNDER or OVER
flag where a clamp acts; the head stays ACTIVE, or goes to rest where a check is due; the converter is granted afresh
(R5, R7, R9, R18, R34). -/
def Obligations.SampleGivesAConcentration : Prop :=
  ∀ (h : Fin 4) (left : Nat) (code : BitVec 12) (s : State), s.atRest = true →
    s.gas.converter = .sample h left → 8 < code.toNat → code.toNat < 4087 →
    ∃ t v under high, exec (.sampleConversionComplete code) s = .next t ∧
      t = { s with gas := t.gas, fume := t.fume, moment := s.moment + 1 } ∧
      under = decide (code.toNat < (s.gas.heads.get h).zr) ∧
      high = (!under && decide (fullScale (gasOf h) <
        (code.toNat - (s.gas.heads.get h).zr) * (s.settings.heads.get h).span / 256)) ∧
      v = (if under then 0 else min (fullScale (gasOf h))
        ((code.toNat - (s.gas.heads.get h).zr) * (s.settings.heads.get h).span / 256)) ∧
      (t.gas.heads.get h).latest = some ⟨v, 0⟩ ∧ (t.gas.heads.get h).zr = (s.gas.heads.get h).zr ∧
      (t.gas.heads.get h).backlog = (s.gas.heads.get h).backlog ∧
      t.gas.heads.get h = (if s.dueForRest h 0
        then { s.gas.heads.get h with latest := some ⟨v, 0⟩, state := .zeroing, settle := .running 2000 }
        else { s.gas.heads.get h with latest := some ⟨v, 0⟩ }) ∧
      (t.gas.converter = .idle → t.gas.pointer = s.gas.pointer ∧ ∀ k, requestOf t.settings t.gas k = none) ∧
      (∀ k, t.gas.converter.samples k = true → t.gas.pointer = k ∧ t.gas.converter = .sample k 40) ∧
      (∀ k, t.gas.converter.zeroes k = true → t.gas.pointer = k ∧ t.gas.converter = .zero k true 40) ∧
      (∀ k, k ≠ h → t.gas.heads.get k = s.gas.heads.get k) ∧
      t.fume = { s.fume with gases := t.fume.gases, counters := t.fume.counters } ∧
      (t.fume.gases.get (gasOf h)).underRange.isSet = ((s.fume.gases.get (gasOf h)).underRange.isSet || under) ∧
      (t.fume.gases.get (gasOf h)).overRange.isSet = ((s.fume.gases.get (gasOf h)).overRange.isSet || high) ∧
      (t.fume.gases.get (gasOf h)).acc = (s.fume.gases.get (gasOf h)).acc ∧
      (∀ g, g ≠ gasOf h → t.fume.gases.get g = s.fume.gases.get g) ∧
      t.fume.counters = { s.fume.counters with
        overSamples := if high then bump s.fume.counters.overSamples else s.fume.counters.overSamples
        underSamples := if under then bump s.fume.counters.underSamples else s.fume.counters.underSamples }

/-- A code of 8 or less, or of 4087 or more, of a sample conversion puts its head in OPEN: value absent, settle and
zero interval timers stopped, OPEN_FAULTS counted; a partner at rest loses its cover and returns to ACTIVE with its
backlog and runtime zero kept, counted in ZERO_WITHDRAWN (R7, R14, R15). -/
def Obligations.RailCodeOpensTheHead : Prop :=
  ∀ (h : Fin 4) (left : Nat) (code : BitVec 12) (s : State), s.atRest = true →
    s.gas.converter = .sample h left → code.toNat ≤ 8 ∨ 4087 ≤ code.toNat →
    ∃ t, exec (.sampleConversionComplete code) s = .next t ∧ t = { s with gas := t.gas, moment := s.moment + 1 } ∧
      t.gas.heads.get h = { s.gas.heads.get h with
        state := .openCircuit, latest := none, settle := .stopped, zeroInterval := .stopped } ∧
      (∀ k, k ≠ h → k ≠ partner h → t.gas.heads.get k = s.gas.heads.get k) ∧
      t.gas.heads.get (partner h) = (if (s.gas.heads.get (partner h)).state = .zeroing
        then { s.gas.heads.get (partner h) with state := .active, settle := .stopped }
        else s.gas.heads.get (partner h)) ∧
      t.gas.counters.openFaults = bump s.gas.counters.openFaults ∧
      t.gas.counters.zeroWithdrawn = (if (s.gas.heads.get (partner h)).state = .zeroing
        then bump s.gas.counters.zeroWithdrawn else s.gas.counters.zeroWithdrawn)

/-- The code z of a zero conversion: outside the open-circuit bounds and within the drift limit of the configured zero,
the head returns to ACTIVE, its runtime zero moves by (z - Zr) / 4 truncated toward zero, its backlog falls by 1 and
ZERO_CHECKS is counted; beyond the limit it enters DRIFT with its value absent, Zr and backlog as they were, and
DRIFT_FAULTS is counted; on a rail code it enters OPEN (R7, R12, R15). -/
def Obligations.ZeroCheckStepsTheZeroOrFindsDrift : Prop :=
  ∀ (h : Fin 4) (guarded : Bool) (left : Nat) (code : BitVec 12) (s : State), s.atRest = true →
    s.gas.converter = .zero h guarded left →
    ∃ t, exec (.zeroConversionComplete code) s = .next t ∧ t = { s with gas := t.gas, moment := s.moment + 1 } ∧
      (∀ k, k ≠ h → k ≠ partner h → t.gas.heads.get k = s.gas.heads.get k) ∧
      (code.toNat ≤ 8 ∨ 4087 ≤ code.toNat →
        t.gas.heads.get h = { s.gas.heads.get h with
          state := .openCircuit, latest := none, settle := .stopped, zeroInterval := .stopped } ∧
        t.gas.counters.openFaults = bump s.gas.counters.openFaults) ∧
      (8 < code.toNat → code.toNat < 4087 →
        ((code.toNat : Int) - (s.settings.heads.get h).zc).natAbs ≤ (s.settings.heads.get h).drift →
        (t.gas.heads.get h).state = .active ∧ (t.gas.heads.get h).settle = .stopped ∧
        ((t.gas.heads.get h).zr : Int) =
          (s.gas.heads.get h).zr + ((code.toNat : Int) - (s.gas.heads.get h).zr).tdiv 4 ∧
        (t.gas.heads.get h).backlog = (s.gas.heads.get h).backlog - 1 ∧
        (t.gas.heads.get h).latest = (s.gas.heads.get h).latest ∧
        t.gas.counters.zeroChecks = bump s.gas.counters.zeroChecks) ∧
      (8 < code.toNat → code.toNat < 4087 →
        (s.settings.heads.get h).drift < ((code.toNat : Int) - (s.settings.heads.get h).zc).natAbs →
        t.gas.heads.get h = { s.gas.heads.get h with
          state := .drift, latest := none, settle := .stopped, zeroInterval := .stopped } ∧
        t.gas.counters.driftFaults = bump s.gas.counters.driftFaults)

/-- The end of the protected part only opens the conversion to its end; the settle timer's end makes the resting head
stand a ZERO request, or be converted at once, and an idle converter does not stay idle (R5, R10, R11). -/
def Obligations.ZeroCheckGoesOnThroughItsTimers : Prop :=
  (∀ (h : Fin 4) (left : Nat) (s : State), s.atRest = true → s.gas.converter = .zero h true left →
    exec .zeroProtectedPartEnd s =
      .next { s with gas := { s.gas with converter := .zero h false left }, moment := s.moment + 1 }) ∧
  (∀ (h : Fin 4) (s : State), s.atRest = true → (s.gas.heads.get h).state = .zeroing →
    (s.gas.heads.get h).settle.isRunning = true →
    ∃ t, exec (.settleTimerExpiry h) s = .next t ∧ t = { s with gas := t.gas, moment := s.moment + 1 } ∧
      t.gas.heads.get h = { s.gas.heads.get h with settle := .expired } ∧
      (∀ k, k ≠ h → t.gas.heads.get k = s.gas.heads.get k) ∧
      (requestOf t.settings t.gas h = some .zero ∨ t.gas.converter.zeroes h = true) ∧ t.gas.converter ≠ .idle)

/-- At an expiry of its zero interval timer the timer restarts, and the backlog of an ACTIVE or ZEROING head rises by 1,
up to 3; an ACTIVE head may then go to rest, and no other head changes (R8, R9). -/
def Obligations.ZeroIntervalRaisesTheBacklog : Prop :=
  ∀ (h : Fin 4) (s : State), s.atRest = true → (s.gas.heads.get h).zeroInterval.isRunning = true →
    ∃ t, exec (.zeroIntervalTimerExpiry h) s = .next t ∧ t = { s with gas := t.gas, moment := s.moment + 1 } ∧
      (t.gas.heads.get h).zeroInterval = .running (3600000 * s.settings.zeroHours) ∧
      (t.gas.heads.get h).backlog =
        (if (s.gas.heads.get h).state = .active ∨ (s.gas.heads.get h).state = .zeroing
          then min 3 ((s.gas.heads.get h).backlog + 1) else (s.gas.heads.get h).backlog) ∧
      (t.gas.heads.get h).latest = (s.gas.heads.get h).latest ∧ (t.gas.heads.get h).zr = (s.gas.heads.get h).zr ∧
      ((t.gas.heads.get h).state = (s.gas.heads.get h).state ∨
        (s.gas.heads.get h).state = .active ∧ (t.gas.heads.get h).state = .zeroing ∧
          (t.gas.heads.get h).settle = .running 2000) ∧
      (∀ k, k ≠ h → t.gas.heads.get k = s.gas.heads.get k)

/-- After the arbiter has run, an idle converter means that no head stands a request; a grant goes to a head that
stands a request of the highest level there is, of those at that level to the first after the head last granted, in
the order CO-A, CO-B, NO2-A, NO2-B and round again, and the pointer moves to it; a converter that is busy, but with a
zero conversion in its protected part, is left alone (R5, R11). -/
def Obligations.ArbiterServesTheHighestLevel : Prop :=
  ∀ (cfg : Settings) (g : GasFront),
    ((g.arbitrate cfg).converter = .idle → ∀ h, requestOf cfg (g.arbitrate cfg) h = none) ∧
    (g.converter = .idle → (g.arbitrate cfg).converter = .idle → g.arbitrate cfg = g) ∧
    (g.converter ≠ .idle → (∀ h left, g.converter ≠ .zero h true left) → g.arbitrate cfg = g) ∧
    (g.converter = .idle → ∀ h left, (g.arbitrate cfg).converter = .sample h left →
      (g.arbitrate cfg).pointer = h ∧
      (∀ k, requestOf cfg g k = requestOf cfg g h → h - g.pointer - 1 ≤ k - g.pointer - 1) ∧
      (requestOf cfg g h = some .urgent ∨
        requestOf cfg g h = some .normal ∧ ∀ k, requestOf cfg g k ≠ some .urgent)) ∧
    (g.converter = .idle → ∀ h guarded left, (g.arbitrate cfg).converter = .zero h guarded left →
      (g.arbitrate cfg).pointer = h ∧
      (∀ k, requestOf cfg g k = requestOf cfg g h → h - g.pointer - 1 ≤ k - g.pointer - 1) ∧
      requestOf cfg g h = some .zero ∧ ∀ k, requestOf cfg g k ≠ some .urgent ∧ requestOf cfg g k ≠ some .normal)

/-- Every step leaves every head at rest covered, its partner ACTIVE or, as the one head of its gas, FS below 128; it
leaves none at rest in ALARM or PURGE, none but a head at rest under a zero conversion, and no head configured absent
in use (R1, R9, R10, R13, R14). -/
def Obligations.RestingHeadsStayCovered : Prop :=
  ∀ s t : State, s.headsSound → step s = .next t → t.headsSound

/-! ## Fume computation (Chapter 2) -/

/-- At an expiry of the gas update timer the timer restarts and every fitted gas is updated: with a usable head its
accumulator, minute accumulator, skip count, validity and short score take the good update, with none the skipped
update; a gas not fitted stays as it is; then FS is formed from the valid gases. The combined value is the greatest
latest value of the gas's heads that are ACTIVE with a value younger than 2 Ts. FS is presented to the zone state
controller: at D_on the score cause is set, below D_off cleared, between them it stays; a zone in NORMAL or DIVERT
enters ALARM, its hold started and counted, where FS is A_on or more, and else is in DIVERT exactly while a cause
holds; in ALARM, FS at A_off or more starts the hold afresh (R20 to R24, R27, R28, R156, R158, R159). -/
def Obligations.GasUpdateFiltersEveryFittedGas : Prop :=
  ∀ s : State, s.comms.service.queue = [] → s.fume.update.isRunning = true →
    (∀ g, s.combined g = ((List.finRange 4).filter fun h => decide (gasOf h = g) &&
        decide ((s.gas.heads.get h).state = .active) && (s.gas.heads.get h).isYoung s.settings).foldl
          (fun m h => maxOption m ((s.gas.heads.get h).latest.map (·.value))) none) ∧
    ∃ t, exec .gasUpdateTimerExpiry s = .next t ∧ t.fume.update = .running s.settings.tsMs ∧
      (∀ g x, s.settings.fitted g = true → s.combined g = some x →
        (t.fume.gases.get g).acc = (s.fume.gases.get g).acc - (s.fume.gases.get g).acc / 4 + x ∧
        (t.fume.gases.get g).sum = (s.fume.gases.get g).sum + x ∧
        (t.fume.gases.get g).count = (s.fume.gases.get g).count + 1 ∧
        (t.fume.gases.get g).skips = 0 ∧ (t.fume.gases.get g).valid = true ∧
        (t.fume.gases.get g).shortScore =
          min 1023 ((t.fume.gases.get g).acc / 4 * 256 / s.settings.shortLimit.get g)) ∧
      (∀ g, s.settings.fitted g = true → s.combined g = none →
        (t.fume.gases.get g).acc = (s.fume.gases.get g).acc ∧ (t.fume.gases.get g).sum = (s.fume.gases.get g).sum ∧
        (t.fume.gases.get g).count = (s.fume.gases.get g).count ∧
        (t.fume.gases.get g).skips = (if (s.fume.gases.get g).skips < 2 then (s.fume.gases.get g).skips + 1 else 3) ∧
        (t.fume.gases.get g).valid = ((s.fume.gases.get g).valid && decide ((s.fume.gases.get g).skips < 2)) ∧
        (t.fume.gases.get g).shortScore = (s.fume.gases.get g).shortScore) ∧
      (∀ g, s.settings.fitted g = false →
        (t.fume.gases.get g).acc = (s.fume.gases.get g).acc ∧
        (t.fume.gases.get g).valid = (s.fume.gases.get g).valid ∧
        (t.fume.gases.get g).shortScore = (s.fume.gases.get g).shortScore) ∧
      (∀ g, (t.fume.gases.get g).ring = (s.fume.gases.get g).ring ∧
        (t.fume.gases.get g).exposure = (s.fume.gases.get g).exposure ∧
        (t.fume.gases.get g).exposureScore = (s.fume.gases.get g).exposureScore) ∧
      t.fume.fs = (maxOption (gasScore (s.settings.fitted .co) t.fume.gases.co)
        (gasScore (s.settings.fitted .no2) t.fume.gases.no2)).getD s.fume.fs ∧
      t.zone.fsLast = t.fume.fs ∧ t.zone.purgeIn = s.zone.purgeIn ∧
      t.zone.scoreCause = (if s.settings.divertOn ≤ t.fume.fs then true
        else if t.fume.fs < s.settings.divertOff then false else s.zone.scoreCause) ∧
      (s.grave = false → s.zone.purgeIn = false → s.settings.alarmOn ≤ t.fume.fs → t.zone.state = .alarm ∧
        t.zone.hold = .running (1000 * s.settings.alarmHold) ∧
        t.zone.counters.alarmEntries = bump s.zone.counters.alarmEntries) ∧
      (s.grave = false → s.zone.purgeIn = false → s.zone.fsLast < s.settings.alarmOn →
        t.fume.fs < s.settings.alarmOn → t.zone.state =
          (if t.zone.scoreCause || t.zone.gasCause.co || t.zone.gasCause.no2 || t.zone.ventCause
            then .divert else .normal)) ∧
      (s.zone.state = .alarm → s.zone.purgeIn = false → t.zone.state = .alarm ∧
        t.zone.hold = if s.settings.alarmOff ≤ t.fume.fs
          then .running (1000 * s.settings.alarmHold) else s.zone.hold) ∧
      t.fume.minute = s.fume.minute ∧ t.fume.roll = s.fume.roll ∧ t.fume.movement = s.fume.movement ∧
      t.fume.terms = s.fume.terms ∧ t.mode = s.mode ∧ t.settings = s.settings ∧ t.now = s.now ∧ t.peers = s.peers ∧
      t.scanner.lanes = s.scanner.lanes ∧ t.store = s.store ∧ t.pending = s.pending

/-- At a minute boundary the minute timer restarts, and each fitted gas closes its minute: a bin enters its ring in the
place of the oldest, present where twice the count is at least the updates of a full minute; the exposure is the mean of
the present bins where there are 10 or more; its score follows; sum and count return to 0; then FS is formed
(R24 to R28). -/
def Obligations.MinuteBoundaryClosesABinOfEveryFittedGas : Prop :=
  ∀ s : State, s.comms.service.queue = [] → s.fume.minute.isRunning = true →
    ∃ t, exec .minuteBoundary s = .next t ∧ t.fume.minute = .running 60000 ∧
      (∀ g, s.settings.fitted g = true →
        (∀ i : Fin 14, (t.fume.gases.get g).ring.get i.castSucc = (s.fume.gases.get g).ring.get i.succ) ∧
        (t.fume.gases.get g).ring.get 14 = (if 600 / s.settings.tsTenths ≤ 2 * (s.fume.gases.get g).count
          then some ((s.fume.gases.get g).sum / (s.fume.gases.get g).count) else none) ∧
        (t.fume.gases.get g).exposure =
          (if 10 ≤ ((t.fume.gases.get g).ring.cells.filterMap id).length
            then some (((t.fume.gases.get g).ring.cells.filterMap id).sum /
              ((t.fume.gases.get g).ring.cells.filterMap id).length)
            else none) ∧
        (∀ e, (t.fume.gases.get g).exposure = some e →
          (t.fume.gases.get g).exposureScore = min 1023 (e * 256 / s.settings.exposureLimit.get g)) ∧
        (t.fume.gases.get g).sum = 0 ∧ (t.fume.gases.get g).count = 0) ∧
      (∀ g, s.settings.fitted g = false → (t.fume.gases.get g).ring = (s.fume.gases.get g).ring ∧
        (t.fume.gases.get g).exposure = (s.fume.gases.get g).exposure) ∧
      (∀ g, (t.fume.gases.get g).acc = (s.fume.gases.get g).acc ∧
        (t.fume.gases.get g).valid = (s.fume.gases.get g).valid ∧
        (t.fume.gases.get g).skips = (s.fume.gases.get g).skips ∧
        (t.fume.gases.get g).shortScore = (s.fume.gases.get g).shortScore) ∧
      t.fume.fs = (maxOption (gasScore (s.settings.fitted .co) t.fume.gases.co)
        (gasScore (s.settings.fitted .no2) t.fume.gases.no2)).getD s.fume.fs ∧
      t.fume.update = s.fume.update ∧ t.fume.roll = s.fume.roll ∧ t.fume.movement = s.fume.movement ∧
      t.fume.terms = s.fume.terms ∧ t.mode = s.mode ∧ t.settings = s.settings ∧ t.now = s.now ∧ t.peers = s.peers ∧
      t.scanner.lanes = s.scanner.lanes ∧ t.store = s.store ∧ t.pending = s.pending

/-- At an expiry of the movement roll timer the timer restarts, the oldest movement bin leaves the ring and a new
current bin starts at 0; ES0 is the greatest of FS and the assist terms, ES is ES0 + (M km + Q kq) / 4, at most 1023,
and the stage follows the demand (R29, R30, R32, R38). -/
def Obligations.MovementRollForgetsTheOldestBin : Prop :=
  ∀ s : State, s.quiet = true → s.vented = true → s.fume.roll.isRunning = true →
    ∃ t, exec .movementRoll s = .next t ∧
      t = { s with
        fume := { s.fume with roll := .running 10000, movement := t.fume.movement, es0 := t.fume.es0, es := t.fume.es }
        comms := t.comms
        moment := s.moment + 1 } ∧
      t.fume.movement.get 5 = 0 ∧ (∀ i : Fin 5, t.fume.movement.get i.castSucc = s.fume.movement.get i.succ) ∧
      t.fume.es0 = s.fume.terms.cells.foldl (fun m x => max m (x.getD 0)) s.fume.fs ∧
      t.fume.es = min 1023 (t.fume.es0 + (t.fume.movement.cells.sum * s.settings.km + s.fume.q * s.settings.kq) / 4) ∧
      t.comms.fan.stage = stageAfter t.env s.comms.fan ∧
      (stageAfter t.env s.comms.fan = s.comms.fan.stage → t.comms = s.comms)

/-- Every step keeps every score in 0 to 1023, and keeps ES0, Q and ES in step with FS, the assist terms, the movement
ring and the QUEUE flags (R28, R29, R31, R32). -/
def Obligations.ScoresStayInRangeAndInStep : Prop :=
  ∀ s t : State, s.scoresSound → s.effectiveSound → step s = .next t → t.scoresSound ∧ t.effectiveSound

/-! ## Fans (Chapter 3) -/

/-- A tachometer pulse gives a turning fan the speed 60,000,000 / (period x pulses), 0 for a period longer than 1 s, and
more than 1 s without a pulse gives it 0; a fan whose drive is off keeps its speed absent or as it is; nothing else
changes (R47). That a pulse comes with its period is the form of the model's command (log 15). -/
def Obligations.TachometerGivesATurningFanItsSpeed : Prop :=
  ∀ (i : Fin 4) (period : Nat) (s : State), s.atRest = true →
    ((s.comms.fanAt i).driveOn = true →
      exec (.tachPulse i period) s = .next { s with
        comms := s.comms.setFan i { s.comms.fanAt i with
          speed := some (if 1000000 < period then 0 else 60000000 / (period * (s.settings.fans.get i).pulses)) }
        moment := s.moment + 1 } ∧
      exec (.tachTimeout i) s = .next { s with
        comms := s.comms.setFan i { s.comms.fanAt i with speed := some 0 }
        moment := s.moment + 1 }) ∧
    ((s.comms.fanAt i).driveOn = false →
      exec (.tachPulse i period) s = .next { s with moment := s.moment + 1 } ∧
      exec (.tachTimeout i) s = .next { s with moment := s.moment + 1 })

/-- The spin-up timer's expiry: under a check hold the check stands due; else a fan at half its expected speed or more
enters RUNNING with no failing checks and a check due in 1 s, and where it is the incoming fan of a handover every
mark clears and every fan that is not wanted stops; a slower one enters FAULT with cause NO_START, drive off; where it
was the last fan available, with a stage of 1 or more in force, NO_VENT is set, and as a cause it takes a zone in
NORMAL to DIVERT (R40, R47, R48, R50, R53, R157, R158). That the failing-check count of a faulted fan stays is the
model's choice (log 19). -/
def Obligations.SpinUpCheckStartsOrFaultsTheFan : Prop :=
  ∀ (i : Fin 4) (s : State), s.quiet = true → s.comms.fan.noVent = false → (s.comms.fanAt i).state = .spinup →
    (s.comms.fanAt i).spinUp.isRunning = true →
    ((s.comms.fanAt i).hold.isRunning = true →
      exec (.spinUpTimerExpiry i) s = .next { s with
        comms := s.comms.setFan i { s.comms.fanAt i with spinUp := .expired }, moment := s.moment + 1 }) ∧
    ((s.comms.fanAt i).hold.isRunning = false →
      (s.settings.fans.get i).rated * (s.comms.fanAt i).duty / 510 ≤ (s.comms.fanAt i).speed.getD 0 →
      s.comms.fan.incoming ≠ some i →
      exec (.spinUpTimerExpiry i) s = .next { s with
        comms := s.comms.setFan i { s.comms.fanAt i with
          state := .running, failing := 0, spinUp := .stopped, check := .running 1000 }
        moment := s.moment + 1 }) ∧
    ((s.comms.fanAt i).hold.isRunning = false →
      (s.settings.fans.get i).rated * (s.comms.fanAt i).duty / 510 ≤ (s.comms.fanAt i).speed.getD 0 →
      s.comms.fan.incoming = some i → i ∈ wantedSet s.settings s.comms.fan → s.vented = true →
      ∃ t, exec (.spinUpTimerExpiry i) s = .next t ∧ t = { s with comms := t.comms, moment := s.moment + 1 } ∧
        (t.comms.fanAt i).state = .running ∧ t.comms.fan.incoming = none ∧ t.comms.fan.stage = s.comms.fan.stage ∧
        ∀ j, (t.comms.fanAt j).handover = false ∧
          (j ∉ wantedSet s.settings s.comms.fan → (t.comms.fanAt j).driveOn = false)) ∧
    ((s.comms.fanAt i).hold.isRunning = false →
      (s.comms.fanAt i).speed.getD 0 < (s.settings.fans.get i).rated * (s.comms.fanAt i).duty / 510 →
      (∃ j, j ≠ i ∧ available s.settings s.comms.fan j = true) →
      ∃ t, exec (.spinUpTimerExpiry i) s = .next t ∧ t = { s with comms := t.comms, moment := s.moment + 1 } ∧
        t.comms.fanAt i = { s.comms.fanAt i with
          state := .fault, duty := 0, speed := none, cause := some .noStart, handover := false,
          hold := .stopped, spinUp := .stopped, check := .stopped } ∧
        t.comms.fan.counters.noStartFaults = bump s.comms.fan.counters.noStartFaults ∧
        t.comms.fan.stage = s.comms.fan.stage ∧ t.comms.fan.lead = s.comms.fan.lead) ∧
    ((s.comms.fanAt i).hold.isRunning = false → s.operating = true →
      (s.comms.fanAt i).speed.getD 0 < (s.settings.fans.get i).rated * (s.comms.fanAt i).duty / 510 →
      (∀ j, j ≠ i → available s.settings s.comms.fan j = false) →
      1 ≤ s.comms.fan.stage → demand s.env s.comms.fan = s.comms.fan.stage →
      ∃ t, exec (.spinUpTimerExpiry i) s = .next t ∧
        (t.comms.fanAt i).state = .fault ∧ (t.comms.fanAt i).cause = some .noStart ∧
        t.comms.fan.noVent = true ∧ t.zone.ventCause = true ∧
        (s.grave = true → s.zone.purgeIn = decide (s.zone.state = .purge) → t.zone.state = s.zone.state) ∧
        (s.grave = false → s.zone.purgeIn = false → s.zone.fsLast < s.settings.alarmOn → t.zone.state = .divert))

/-- A running check of a RUNNING fan: at half its expected speed or more its failing count returns to 0, a slower one
raises it, and the third in a row puts the fan in FAULT with cause STALL; under a check hold no check is taken. The
end of a check hold starts the checks of a RUNNING fan afresh, and takes the spin-up check that fell due (R47, R49,
R50). -/
def Obligations.RunningChecksFindAStall : Prop :=
  ∀ (i : Fin 4) (s : State), s.quiet = true → s.comms.fan.noVent = false →
    ((s.comms.fanAt i).state = .running → (s.comms.fanAt i).hold.isRunning = true →
      exec (.runningCheck i) s = .next { s with moment := s.moment + 1 } ∧
      exec (.checkHoldTimerExpiry i) s = .next { s with
        comms := s.comms.setFan i { s.comms.fanAt i with hold := .stopped, check := .running 1000 }
        moment := s.moment + 1 }) ∧
    ((s.comms.fanAt i).state = .spinup → (s.comms.fanAt i).hold.isRunning = true →
      (s.comms.fanAt i).spinUp = .expired → s.comms.fan.incoming ≠ some i →
      (s.settings.fans.get i).rated * (s.comms.fanAt i).duty / 510 ≤ (s.comms.fanAt i).speed.getD 0 →
      exec (.checkHoldTimerExpiry i) s = .next { s with
        comms := s.comms.setFan i { s.comms.fanAt i with
          state := .running, failing := 0, hold := .stopped, spinUp := .stopped, check := .running 1000 }
        moment := s.moment + 1 }) ∧
    ((s.comms.fanAt i).state = .running → (s.comms.fanAt i).hold.isRunning = false →
      (s.comms.fanAt i).check.isRunning = true →
      ((s.settings.fans.get i).rated * (s.comms.fanAt i).duty / 510 ≤ (s.comms.fanAt i).speed.getD 0 →
        exec (.runningCheck i) s = .next { s with
          comms := s.comms.setFan i { s.comms.fanAt i with failing := 0, check := .running 1000 }
          moment := s.moment + 1 }) ∧
      ((s.comms.fanAt i).speed.getD 0 < (s.settings.fans.get i).rated * (s.comms.fanAt i).duty / 510 →
        (s.comms.fanAt i).failing < 2 →
        exec (.runningCheck i) s = .next { s with
          comms := s.comms.setFan i { s.comms.fanAt i with
            failing := (s.comms.fanAt i).failing + 1, check := .running 1000 }
          moment := s.moment + 1 }) ∧
      ((s.comms.fanAt i).speed.getD 0 < (s.settings.fans.get i).rated * (s.comms.fanAt i).duty / 510 →
        2 ≤ (s.comms.fanAt i).failing → (∃ j, j ≠ i ∧ available s.settings s.comms.fan j = true) →
        ∃ t, exec (.runningCheck i) s = .next t ∧ t = { s with comms := t.comms, moment := s.moment + 1 } ∧
          (t.comms.fanAt i).state = .fault ∧ (t.comms.fanAt i).cause = some .stall ∧ (t.comms.fanAt i).duty = 0 ∧
          (t.comms.fanAt i).speed = none ∧ (t.comms.fanAt i).hold = .stopped ∧
          t.comms.fan.counters.stallFaults = bump s.comms.fan.counters.stallFaults ∧
          t.comms.fan.stage = s.comms.fan.stage ∧ t.comms.fan.lead = s.comms.fan.lead))

/-- With the stage in force at or above the demand: the dwell timer's expiry lowers it by one step, with a fresh dwell,
where the demand lies below it and the zone is neither in ALARM nor in PURGE, and else only stands expired; the boost
timer's expiry ends the override, counted, and the stage falls where the demand without it then allows
(R35, R38, R56). -/
def Obligations.DwellAndBoostEndsLowerTheStageOneStep : Prop :=
  ∀ s : State, s.quiet = true → s.vented = true → s.operating = true →
    demand s.env s.comms.fan ≤ s.comms.fan.stage →
    (s.comms.fan.dwell.isRunning = true → demand s.env s.comms.fan < s.comms.fan.stage → s.grave = false →
      ∃ t, exec .dwellTimerExpiry s = .next t ∧ t = { s with comms := t.comms, moment := s.moment + 1 } ∧
        t.comms.fan.stage = s.comms.fan.stage - 1 ∧ t.comms.fan.dwell = .running (1000 * s.settings.dwell) ∧
        t.comms.fan.lead = s.comms.fan.lead ∧ t.comms.fan.boost = s.comms.fan.boost) ∧
    (s.comms.fan.dwell.isRunning = true → demand s.env s.comms.fan = s.comms.fan.stage ∨ s.grave = true →
      exec .dwellTimerExpiry s = .next { s with
        comms := { s.comms with fan := { s.comms.fan with dwell := .expired } }, moment := s.moment + 1 }) ∧
    (s.comms.fan.boost.isSome = true →
      ∃ t, exec .boostTimerExpiry s = .next t ∧ t = { s with comms := t.comms, moment := s.moment + 1 } ∧
        t.comms.fan.boost = none ∧ t.comms.fan.counters.boostsEnded = bump s.comms.fan.counters.boostsEnded ∧
        t.comms.fan.lead = s.comms.fan.lead ∧
        t.comms.fan.stage =
          (if demand s.env { s.comms.fan with boost := none } < s.comms.fan.stage ∧ s.comms.fan.dwell = .expired ∧
              s.grave = false
            then s.comms.fan.stage - 1 else s.comms.fan.stage))

/-- The local spacing timer's expiry starts the local release where one is held, else, with the link ISOLATED or SILENT,
the first WAIT_PERMIT fan of the lead order: it enters SPINUP at the duty of the stage in force with its spin-up timer
running, the spacing restarts with W and LOCAL_STARTS is counted; with neither, the timer only stops (R45, R46, R48).
That the local release goes first is the model's choice (log 29). -/
def Obligations.LocalSpacingStartsOneFanAtATime : Prop :=
  ∀ (i : Fin 4) (s : State), s.quiet = true → s.comms.fan.spacing.isRunning = true →
    (s.comms.fan.release = none → s.comms.link.state = .isolated ∨ s.comms.link.state = .silent →
      s.comms.fan.firstWaiting = some i →
      exec .localSpacingTimerExpiry s = .next { s with
        comms := { s.comms with fan := { s.comms.fan with
          fans := s.comms.fan.fans.set i { s.comms.fanAt i with
            state := .spinup, duty := stageDuty s.settings s.comms.fan.stage, speed := some 0,
            hold := .stopped, spinUp := .running 10000, check := .stopped }
          spacing := .running (1000 * s.settings.window)
          counters := { s.comms.fan.counters with localStarts := bump s.comms.fan.counters.localStarts } } }
        moment := s.moment + 1 }) ∧
    (s.comms.fan.release = some i → (s.comms.fanAt i).state = .waitPermit → s.comms.link.queue.length < 8 →
      ∃ t, exec .localSpacingTimerExpiry s = .next t ∧ t = { s with comms := t.comms, moment := s.moment + 1 } ∧
        t.comms.fanAt i = { s.comms.fanAt i with
          state := .spinup, duty := stageDuty s.settings s.comms.fan.stage, speed := some 0,
          hold := .stopped, spinUp := .running 10000, check := .stopped } ∧
        t.comms.fan.release = none ∧ t.comms.fan.spacing = .running (1000 * s.settings.window) ∧
        t.comms.fan.counters.localStarts = bump s.comms.fan.counters.localStarts ∧
        ∀ j, j ≠ i → t.comms.fanAt j = s.comms.fanAt j) ∧
    (s.comms.fan.release = none → s.comms.link.state ≠ .isolated → s.comms.link.state ≠ .silent →
      exec .localSpacingTimerExpiry s = .next { s with
        comms := { s.comms with fan := { s.comms.fan with spacing := .stopped } }, moment := s.moment + 1 })

/-- The rotation timer's expiry starts a fresh rotation period; with an available fan outside the wanted set and no
handover in progress the first fan of the lead order goes last, ROTATIONS is counted, and a turning fan that thereby
leaves the wanted set keeps its drive on under a handover mark (R52, R53). -/
def Obligations.RotationPutsTheFirstFanLastUnderHandover : Prop :=
  ∀ s : State, s.quiet = true → s.vented = true → 1 ≤ s.comms.fan.stage →
    (s.comms.fan.incoming = none → (∃ i, available s.settings s.comms.fan i = true ∧
        i ∉ wantedSet s.settings s.comms.fan) →
      ∃ t, exec .rotationTimerExpiry s = .next t ∧ t = { s with comms := t.comms, moment := s.moment + 1 } ∧
        t.comms.fan.lead = s.comms.fan.lead.drop 1 ++ s.comms.fan.lead.take 1 ∧
        t.comms.fan.rotationLeft = 3600000 * s.settings.rotationHours ∧
        t.comms.fan.counters.rotations = bump s.comms.fan.counters.rotations ∧
        t.comms.fan.stage = s.comms.fan.stage ∧
        ∀ i, (s.comms.fanAt i).driveOn = true → i ∈ wantedSet s.settings s.comms.fan →
          (t.comms.fanAt i).state = (s.comms.fanAt i).state ∧
          (i ∉ wantedSet s.settings { s.comms.fan with lead := t.comms.fan.lead } →
            (t.comms.fanAt i).handover = true)) ∧
    (s.comms.fan.incoming ≠ none ∨ (∀ i, available s.settings s.comms.fan i = true →
        i ∈ wantedSet s.settings s.comms.fan) →
      exec .rotationTimerExpiry s = .next { s with
        comms := { s.comms with fan := { s.comms.fan with rotationLeft := 3600000 * s.settings.rotationHours } }
        moment := s.moment + 1 })

/-- The score demand of a stage in force from 0 to 4: below 3, with ES at or above the next entry threshold, the highest
stage whose entry threshold ES reaches; otherwise, from 1 to 3 with ES below the exit threshold, one less; at 4, 3; in
every other case the stage itself (R36). The model keeps no copy of it: it is formed from the ES and the stage that
stand, whenever it is asked for. -/
def Obligations.ScoreDemandFollowsTheThresholds : Prop :=
  ∀ (cfg : Settings) (es : Nat), thresholdsOrdered cfg →
    (∀ S : Fin 3, cfg.entry.get S ≤ es →
      (∃ k : Fin 3, scoreDemand cfg es S.val = k.val + 1 ∧ cfg.entry.get k ≤ es ∧
        ∀ j : Fin 3, cfg.entry.get j ≤ es → j ≤ k)) ∧
    (∀ S : Fin 3, es < cfg.exit.get S → scoreDemand cfg es (S.val + 1) = S.val) ∧
    (∀ S : Fin 3, cfg.exit.get S ≤ es → (∀ k : Fin 3, k.val = S.val + 1 → es < cfg.entry.get k) →
      scoreDemand cfg es (S.val + 1) = S.val + 1) ∧
    (es < cfg.entry.get 0 → scoreDemand cfg es 0 = 0) ∧
    scoreDemand cfg es 4 = 3

/-- Every step leaves every turning fan at the duty of the stage in force, and every other fan, LOCKED and FAULT ones
among them, at duty 0; and it leaves the stage in force at least at 4 in ALARM and PURGE, and else at least at the
fail-safe stage while a fitted gas is INVALID, at the boost stage while a boost override runs, and at every stage
whose entry threshold ES reaches (R36 to R39, R41, R50, R54). -/
def Obligations.StageMeetsTheDemandAndDutiesFollow : Prop :=
  ∀ s t : State, s.dutiesSound → s.stageSound → step s = .next t → t.dutiesSound ∧ t.stageSound

/-! ## This station's frames (Chapters 4 and 5) -/

/-- When the bus becomes free the first frame of the queue enters arbitration: it is in flight, built as two header
bytes (class and kind; 3 minus the attempt, and the unit), its payload and a CRC-8, and a report takes the range flags
as they stand; a START NOTICE at a live count of K or more is withdrawn first, counted, and the next frame goes; with
no frame to send the bus stays free, no line low (R19, R42, R43, R61, R63, R65, R66, R76). That the stuck timer stands
at 20 ms from the start condition is the model's choice (log 12), and that no further try follows a withdrawal is the
model's choice (log 9). -/
def Obligations.FreeBusStartsTheFirstFrame : Prop :=
  ∀ s : State, s.ventTold = true → s.comms.service.queue = [] → s.comms.link.flight = none →
    s.comms.link.maySend s.operating = true →
    (∀ (f : Frame) (rest : List Frame), s.comms.link.queue = f :: rest →
      (f.payload.isStartNotice = true → s.comms.notices.length < s.settings.allowance) →
      ∃ t, exec .busFree s = .next t ∧
        t = { s with
          comms := { s.comms with link := { s.comms.link with
            queue := { f with inFlight := true } :: rest, wire := t.comms.link.wire, busFreeCount := 0,
            stuck := .running 20, stuckSpell := false } }
          fume := t.fume
          moment := s.moment + 1 } ∧
        t.comms.link.wire.dropLast =
          byte (32 * f.payload.cls s.grave + f.payload.kindCode) :: byte (64 * (3 - f.attempt) + s.answeringUnit) ::
            s.payloadBytes f.payload ∧
        t.comms.link.wire.getLast? = some (crc8 t.comms.link.wire.dropLast) ∧
        (f.payload.isReport = false → t.fume = s.fume) ∧
        (f.payload.isReport = true → ∀ g,
          (t.fume.gases.get g).overRange = ⟨(s.fume.gases.get g).overRange.isSet,
            (s.fume.gases.get g).overRange.isSet⟩ ∧
          (t.fume.gases.get g).underRange = ⟨(s.fume.gases.get g).underRange.isSet,
            (s.fume.gases.get g).underRange.isSet⟩)) ∧
    (∀ (f g : Frame) (rest : List Frame), s.comms.link.queue = f :: g :: rest →
      f.payload.isStartNotice = true → s.settings.allowance ≤ s.comms.notices.length →
      ∃ t, exec .busFree s = .next t ∧ t.comms.link.queue = { g with inFlight := true } :: rest ∧
        t.comms.fan = { s.comms.fan with counters := { s.comms.fan.counters with
          noticeDeferred := bump s.comms.fan.counters.noticeDeferred } }) ∧
    (∀ f : Frame, s.comms.link.queue = [f] →
      f.payload.isStartNotice = true → s.settings.allowance ≤ s.comms.notices.length →
      exec .busFree s = .next { s with
        comms := { s.comms with
          fan := { s.comms.fan with counters := { s.comms.fan.counters with
            noticeDeferred := bump s.comms.fan.counters.noticeDeferred } }
          link := { s.comms.link with queue := [], busFreeCount := 16, stuck := .stopped, stuckSpell := false } }
        moment := s.moment + 1 }) ∧
    (s.comms.link.queue = [] →
      exec .busFree s = .next { s with
        comms := { s.comms with link := { s.comms.link with
          busFreeCount := 16, stuck := .stopped, stuckSpell := false } }
        moment := s.moment + 1 })

/-- After a lost arbitration the frame waits at its place with its attempt unchanged; after a first or second failed
attempt, voided or unheard, it waits with its attempt raised by one; each is counted, the bus-free count and the stuck
timer stand at zero, and nothing but the link changes (R61, R67, R70, R72, R76, R88). That the stuck timer stands at
zero while another party's frame goes on is the model's choice (log 12). -/
def Obligations.FailedAttemptsKeepTheFrameInItsPlace : Prop :=
  ∀ (f : Frame) (s : State), s.atRest = true → s.comms.link.flight = some f →
    exec .arbitrationLost s = .next { s with
      comms := { s.comms with link := { s.comms.link with
        queue := s.comms.link.queue.map fun x => if x.inFlight then { x with inFlight := false } else x
        wire := []
        busFreeCount := 0
        stuck := .stopped
        refreshMark := if f.payload.isReport then false else s.comms.link.refreshMark
        counters := { s.comms.link.counters with arbLost := bump s.comms.link.counters.arbLost } } }
      moment := s.moment + 1 } ∧
    (f.attempt < 2 →
      exec .attemptVoided s = .next { s with
        comms := { s.comms with link := { s.comms.link with
          queue := s.comms.link.queue.map fun x =>
            if x.inFlight then { x with attempt := x.attempt + 1, unheard := false, inFlight := false } else x
          wire := []
          busFreeCount := 0
          stuck := .stopped
          refreshMark := if f.payload.isReport then false else s.comms.link.refreshMark
          counters := { s.comms.link.counters with
            voidedAttempts := bump s.comms.link.counters.voidedAttempts } } }
        moment := s.moment + 1 } ∧
      exec .attemptUnheard s = .next { s with
        comms := { s.comms with link := { s.comms.link with
          queue := s.comms.link.queue.map fun x =>
            if x.inFlight then { x with attempt := x.attempt + 1, inFlight := false } else x
          wire := []
          busFreeCount := 0
          stuck := .stopped
          refreshMark := if f.payload.isReport then false else s.comms.link.refreshMark
          counters := { s.comms.link.counters with
            unheardAttempts := bump s.comms.link.counters.unheardAttempts } } }
        moment := s.moment + 1 })

/-- A third failed attempt, voided, unheard or by a stuck line, drops the frame, and so does one of the first frame to
send that a further expiry on a stuck line counts: FRAMES_DROPPED is counted, its end reaches the block that queued
it, a drop whose attempts were all unheard raises the count of unheard drops and any other clears it, and the third in
a row isolates an ACTIVE link; the frames that waited stay (R45, R72, R76, R80, R86). -/
def Obligations.ThirdFailureDropsTheFrame : Prop :=
  ∀ (c : Instr) (f : Frame) (s : State), s.quiet = true →
    (c = .attemptVoided ∨ c = .attemptUnheard) ∧ s.comms.link.flight = some f ∨
      c = .stuckTimerExpiry ∧ s.comms.link.state ≠ .silent ∧ (s.comms.link.flight = some f ∨
        s.comms.link.flight = none ∧ s.comms.link.stuckSpell = true ∧ s.comms.link.maySend s.operating = true ∧
          s.comms.link.queue.head? = some f ∧
          (f.payload.isStartNotice = true → s.comms.notices.length < s.settings.allowance)) →
    2 ≤ f.attempt → s.comms.link.queue.length ≤ 8 →
    ∃ t, exec c s = .next t ∧ t = { s with comms := t.comms, moment := s.moment + 1 } ∧
      t.comms.link.flight = none ∧ t.comms.link.wire = [] ∧
      t.comms.link.counters.framesDropped = bump s.comms.link.counters.framesDropped ∧
      t.comms.link.unheardDrops =
        (if c ≠ .attemptVoided ∧ f.unheard = true then min 3 (s.comms.link.unheardDrops + 1) else 0) ∧
      t.comms.link.state = (if s.comms.link.state = .active ∧ t.comms.link.unheardDrops = 3
        then .isolated else s.comms.link.state) ∧
      t.comms.link.counters.isolations = (if s.comms.link.state = .active ∧ t.comms.link.unheardDrops = 3
        then bump s.comms.link.counters.isolations else s.comms.link.counters.isolations) ∧
      (∀ g ∈ s.comms.link.queue, g.inFlight = false → g ≠ f → g.payload.isStartNotice = false →
        g ∈ t.comms.link.queue) ∧
      (∀ target d p, f.payload = .transit target d p →
        t.comms.link.peer.transitsLost = bump s.comms.link.peer.transitsLost) ∧
      (∀ r, f.payload = .reply r → t.comms.service.current = none) ∧
      (∀ i, f.payload = .startNotice i →
        t.comms.fan.counters.noticeDropped = bump s.comms.fan.counters.noticeDropped) ∧
      (f.payload.isReport = true → t.comms.fan.counters.noticeDropped = s.comms.fan.counters.noticeDropped)

/-- A delivered frame leaves the queue, counted, and its end is handed back: a report clears the range flags that it
carried and no others; a START NOTICE enters this station's own entry in the start-notice list and starts its fan
where that still waits, FAN_STARTS counted; a TRANSIT NOTICE is counted; a reply frees the responder; an ISOLATED link
is ACTIVE again, and the count of unheard drops is 0 (R19, R44, R71, R72, R80, R86). -/
def Obligations.DeliveredFrameIsHandedBack : Prop :=
  ∀ (f : Frame) (s : State), s.quiet = true → s.comms.link.flight = some f →
    ∃ t, exec .frameDelivered s = .next t ∧
      t = { s with fume := t.fume, comms := t.comms, moment := s.moment + 1 } ∧
      t.comms.link.flight = none ∧ t.comms.link.wire = [] ∧ t.comms.link.unheardDrops = 0 ∧
      t.comms.link.counters.framesDelivered = bump s.comms.link.counters.framesDelivered ∧
      t.comms.link.state = (if s.comms.link.state = .isolated then .active else s.comms.link.state) ∧
      (s.comms.link.queue.length ≤ 7 → ∀ g ∈ s.comms.link.queue, g.inFlight = false → g ∈ t.comms.link.queue) ∧
      (f.payload.isReport = false → t.fume = s.fume) ∧
      (f.payload.isReport = true →
        t.fume = { s.fume with gases := t.fume.gases } ∧ ∀ g,
        (t.fume.gases.get g).acc = (s.fume.gases.get g).acc ∧
        (t.fume.gases.get g).overRange =
          (if (s.fume.gases.get g).overRange.carried then ⟨false, false⟩ else (s.fume.gases.get g).overRange) ∧
        (t.fume.gases.get g).underRange =
          (if (s.fume.gases.get g).underRange.carried then ⟨false, false⟩ else (s.fume.gases.get g).underRange)) ∧
      (∀ i, f.payload = .startNotice i →
        ⟨s.settings.unit, i.val, s.now, s.settings.window, 1000 * s.settings.window⟩ ∈ t.comms.notices ∧
        ((s.comms.fanAt i).state = .waitPermit →
          t.comms.fanAt i = { s.comms.fanAt i with
            state := .spinup, duty := stageDuty s.settings s.comms.fan.stage, speed := some 0,
            hold := .stopped, spinUp := .running 10000, check := .stopped } ∧
          t.comms.fan.counters.fanStarts = bump s.comms.fan.counters.fanStarts) ∧
        ((s.comms.fanAt i).state ≠ .waitPermit → t.comms.fanAt i = s.comms.fanAt i ∧
          t.comms.fan.counters.fanStarts = s.comms.fan.counters.fanStarts)) ∧
      (∀ target d p, f.payload = .transit target d p →
        t.comms.link.peer.transitsSent = bump s.comms.link.peer.transitsSent ∧ t.comms.notices = s.comms.notices) ∧
      (∀ r, f.payload = .reply r → t.comms.service.current = none ∧ t.comms.notices = s.comms.notices)

/-- While OPERATING, a late collision whose record is empty, or holds an entry older than 60 s, is a failed attempt and
fills the record; one that finds an entry of at most 60 s silences the link: the queue is emptied, every frame but a
START NOTICE not in flight counted as dropped, the report timer stops, a waiting reply is finished. The lapse of an
entry older than 60 s empties the record, and with a younger entry or none nothing changes (R68, R79, R81). That the
stuck timer stands at zero while the other sender's frame goes on, and that a lapse before its time changes nothing,
are the model's choices (log 12, log 2). -/
def Obligations.SecondLateCollisionSilencesTheLink : Prop :=
  ∀ (f : Frame) (s : State), s.quiet = true →
    (∀ x, s.comms.link.lateRecord = some x → x + 60000 < s.now →
      exec .lateCollisionRecordLapse s = .next { s with
        comms := { s.comms with link := { s.comms.link with lateRecord := none } }, moment := s.moment + 1 }) ∧
    (s.comms.link.lateRecord = none ∨ (∃ x, s.comms.link.lateRecord = some x ∧ s.now ≤ x + 60000) →
      exec .lateCollisionRecordLapse s = .next { s with moment := s.moment + 1 }) ∧
    (s.operating = true → s.comms.link.flight = some f → f.attempt < 2 →
      (∀ x, s.comms.link.lateRecord = some x → x + 60000 < s.now) →
      exec .lateCollision s = .next { s with
        comms := { s.comms with link := { s.comms.link with
          queue := s.comms.link.queue.map fun x =>
            if x.inFlight then { x with attempt := x.attempt + 1, unheard := false, inFlight := false } else x
          wire := []
          busFreeCount := 0
          stuck := .stopped
          lateRecord := some s.now
          refreshMark := if f.payload.isReport then false else s.comms.link.refreshMark
          counters := { s.comms.link.counters with
            lateCollisions := bump s.comms.link.counters.lateCollisions } } }
        moment := s.moment + 1 }) ∧
    (s.operating = true → s.comms.link.flight = some f →
      ∀ x, s.comms.link.lateRecord = some x → s.now ≤ x + 60000 →
      ∃ t, exec .lateCollision s = .next t ∧ t = { s with comms := t.comms, moment := s.moment + 1 } ∧
        t.comms.link.state = .silent ∧ t.comms.link.queue = [] ∧ t.comms.link.report = .stopped ∧
        t.comms.link.unheardDrops = 0 ∧ t.comms.link.stretch = .stopped ∧
        t.comms.link.counters.lateCollisions = bump s.comms.link.counters.lateCollisions ∧
        t.comms.link.counters.framesDropped =
          bumpBy (s.comms.link.queue.filter fun x => !(x.payload.isStartNotice && !x.inFlight)).length
            s.comms.link.counters.framesDropped ∧
        ((∃ x ∈ s.comms.link.queue, x.payload.cls s.grave = 6) → t.comms.service.current = none) ∧
        t.comms.notices = s.comms.notices ∧ t.comms.fan.stage = s.comms.fan.stage)

/-- The stuck timer's expiry resets the line: a stretch stops, the bus-free count starts again, STUCK_LINE is counted,
the timer of 20 ms restarts, and a frame in flight takes a failed attempt; a further expiry on a line still stuck is a
failed attempt of the first frame that the link would send, or withdraws it where it is a START NOTICE that the live
count holds back; a SILENT link makes no reset and counts, while the bus, with a line low, is not free. A station
whose request queue is full pulls ZC low and begins a stretch of 2 ms, counted; its expiry releases the line and gives
the request up, counted (R43, R61, R66, R73, R74, R76, R81). That the line's reset adds nothing to UNHEARD_ATTEMPTS,
that no further try follows a withdrawal, and that the expiry acts whatever time the timer has left, are the model's
choices (log 10, log 9, log 2, log 12). -/
def Obligations.StuckLineAndStretchKeepTheBusMoving : Prop :=
  ∀ s : State, s.atRest = true →
    (s.comms.link.state = .silent →
      exec .stuckTimerExpiry s = .next { s with
        comms := { s.comms with link := { s.comms.link with
          busFreeCount := 0, stuck := .running 20
          counters := { s.comms.link.counters with stuckLine := bump s.comms.link.counters.stuckLine } } }
        moment := s.moment + 1 }) ∧
    (s.comms.link.state ≠ .silent → s.comms.link.flight = none → s.comms.link.stuckSpell = false →
      exec .stuckTimerExpiry s = .next { s with
        comms := { s.comms with link := { s.comms.link with
          stretch := .stopped, busFreeCount := 0, stuck := .running 20, stuckSpell := true
          counters := { s.comms.link.counters with stuckLine := bump s.comms.link.counters.stuckLine } } }
        moment := s.moment + 1 }) ∧
    (∀ f, s.comms.link.state ≠ .silent → s.comms.link.flight = some f → f.attempt < 2 →
      exec .stuckTimerExpiry s = .next { s with
        comms := { s.comms with link := { s.comms.link with
          queue := s.comms.link.queue.map fun x =>
            if x.inFlight then { x with attempt := x.attempt + 1, inFlight := false } else x
          wire := []
          refreshMark := if f.payload.isReport then false else s.comms.link.refreshMark
          stretch := .stopped, busFreeCount := 0, stuck := .running 20, stuckSpell := true
          counters := { s.comms.link.counters with stuckLine := bump s.comms.link.counters.stuckLine } } }
        moment := s.moment + 1 }) ∧
    (s.comms.link.state ≠ .silent → s.comms.link.flight = none → s.comms.link.stuckSpell = true →
      (s.comms.link.maySend s.operating = false ∨ s.comms.link.queue = [] →
        exec .stuckTimerExpiry s = .next { s with
          comms := { s.comms with link := { s.comms.link with
            stretch := .stopped, busFreeCount := 0, stuck := .running 20
            counters := { s.comms.link.counters with stuckLine := bump s.comms.link.counters.stuckLine } } }
          moment := s.moment + 1 }) ∧
      (s.comms.link.maySend s.operating = true → ∀ f rest, s.comms.link.queue = f :: rest →
        (f.payload.isStartNotice = true → s.comms.notices.length < s.settings.allowance) → f.attempt < 2 →
        exec .stuckTimerExpiry s = .next { s with
          comms := { s.comms with link := { s.comms.link with
            queue := { f with attempt := f.attempt + 1 } :: rest
            wire := []
            refreshMark := if f.payload.isReport then false else s.comms.link.refreshMark
            stretch := .stopped, busFreeCount := 0, stuck := .running 20
            counters := { s.comms.link.counters with stuckLine := bump s.comms.link.counters.stuckLine } } }
          moment := s.moment + 1 }) ∧
      (s.comms.link.maySend s.operating = true → ∀ f rest, s.comms.link.queue = f :: rest →
        f.payload.isStartNotice = true → s.settings.allowance ≤ s.comms.notices.length →
        exec .stuckTimerExpiry s = .next { s with
          comms := { s.comms with
            fan := { s.comms.fan with counters := { s.comms.fan.counters with
              noticeDeferred := bump s.comms.fan.counters.noticeDeferred } }
            link := { s.comms.link with
              queue := rest, stretch := .stopped, busFreeCount := 0, stuck := .running 20
              counters := { s.comms.link.counters with stuckLine := bump s.comms.link.counters.stuckLine } } }
          moment := s.moment + 1 })) ∧
    (s.comms.link.state ≠ .silent → s.comms.service.queue.length = 2 →
      exec .stretchBegin s = .next { s with
        comms := { s.comms with link := { s.comms.link with
          stretch := .running 2, busFreeCount := 0, stuck := .running 20
          counters := { s.comms.link.counters with stretches := bump s.comms.link.counters.stretches } } }
        moment := s.moment + 1 }) ∧
    (s.comms.link.stretch.isRunning = true →
      exec .stretchTimerExpiry s = .next { s with
        comms := { s.comms with link := { s.comms.link with
          stretch := .stopped, stuck := .stopped
          counters := { s.comms.link.counters with
            serviceOverruns := bump s.comms.link.counters.serviceOverruns } } }
        moment := s.moment + 1 })

/-- The end of JOINING makes the link ACTIVE, starts the report timer and queues the first report; each expiry of the
report timer, in ACTIVE and in ISOLATED, queues a report, folds into one that waits, counted, or marks one in flight
for a refresh. A report offered to a full queue is refused, counted, where no frame that waits has a higher class, and
displaces a reply, counted, which finishes the responder's request. A report event, here the stage's fall at the dwell
timer's expiry, marks a report in flight, folds into one that waits, and while the spacing timer runs is kept pending;
in OFF and SILENT it is not kept. The spacing timer's expiry queues the report of an event that waited, and clears it
where a report stands in the queue. A report queued starts the spacing of 500 ms, and is counted (R38, R78, R84, R85,
R87, R88). That a periodic request folded into a report counts REPORTS_FOLDED is the model's choice (log 25). -/
def Obligations.ReportsAreQueuedByJoiningPeriodAndEvent : Prop :=
  ∀ s : State, s.quiet = true →
    (s.comms.link.join.isRunning = true → s.comms.link.state = .joining → s.comms.link.hasReport = false →
      s.comms.link.queue.length ≤ 5 →
      ∃ t, exec .joinTimerExpiry s = .next t ∧ t = { s with comms := t.comms, moment := s.moment + 1 } ∧
        t.comms.link.state = .active ∧ t.comms.link.join = .stopped ∧
        t.comms.link.report = .running (1000 * s.settings.reportPeriod) ∧
        t.comms.link.peer.reportsQueued = bump s.comms.link.peer.reportsQueued ∧
        t.comms.link.spacing = .running 500 ∧ t.comms.link.eventPending = false ∧
        ⟨.report, 0, true, s.moment, s.comms.draws, false⟩ ∈ t.comms.link.queue) ∧
    (s.comms.link.report.isRunning = true → s.comms.link.state = .active ∨ s.comms.link.state = .isolated →
      s.comms.link.hasReport = false → s.comms.link.queue.length < 8 →
      ∃ t, exec .periodicRequest s = .next t ∧
        t = { s with
          comms := { s.comms with
            link := { s.comms.link with
              queue := t.comms.link.queue, report := .running (1000 * s.settings.reportPeriod),
              spacing := .running 500, eventPending := false
              peer := { s.comms.link.peer with reportsQueued := bump s.comms.link.peer.reportsQueued } }
            draws := s.comms.draws + 1 }
          moment := s.moment + 1 } ∧
        t.comms.link.queue.length = s.comms.link.queue.length + 1 ∧
        ⟨.report, 0, true, s.moment, s.comms.draws, false⟩ ∈ t.comms.link.queue ∧
        ∀ g ∈ s.comms.link.queue, g ∈ t.comms.link.queue) ∧
    (s.comms.link.report.isRunning = true → s.comms.link.reportInFlight = true →
      exec .periodicRequest s = .next { s with
        comms := { s.comms with link := { s.comms.link with
          report := .running (1000 * s.settings.reportPeriod), refreshMark := true, eventPending := false } }
        moment := s.moment + 1 }) ∧
    (s.comms.link.report.isRunning = true → s.comms.link.hasReport = true → s.comms.link.reportInFlight = false →
      exec .periodicRequest s = .next { s with
        comms := { s.comms with link := { s.comms.link with
          report := .running (1000 * s.settings.reportPeriod), eventPending := false
          peer := { s.comms.link.peer with reportsFolded := bump s.comms.link.peer.reportsFolded } } }
        moment := s.moment + 1 }) ∧
    (s.comms.link.report.isRunning = true → s.comms.link.state = .active ∨ s.comms.link.state = .isolated →
      s.comms.link.hasReport = false → 8 ≤ s.comms.link.queue.length →
      (∀ g ∈ s.comms.link.queue, g.inFlight = false → g.payload.cls s.grave ≤ if s.grave then 2 else 4) →
      exec .periodicRequest s = .next { s with
        comms := { s.comms with link := { s.comms.link with
          report := .running (1000 * s.settings.reportPeriod), eventPending := false
          peer := { s.comms.link.peer with queueRefused := bump s.comms.link.peer.queueRefused } } }
        moment := s.moment + 1 }) ∧
    (s.comms.link.report.isRunning = true → s.comms.link.state = .active ∨ s.comms.link.state = .isolated →
      s.comms.link.hasReport = false → s.comms.link.queue.length = 8 →
      (∃ g ∈ s.comms.link.queue, g.inFlight = false ∧ g.payload.cls s.grave = 6) →
      ∃ t, exec .periodicRequest s = .next t ∧ t = { s with comms := t.comms, moment := s.moment + 1 } ∧
        t.comms.link.queue.length = 8 ∧ ⟨.report, 0, true, s.moment, s.comms.draws, false⟩ ∈ t.comms.link.queue ∧
        t.comms.link.peer = { s.comms.link.peer with
          reportsQueued := bump s.comms.link.peer.reportsQueued
          queueDisplaced := bump s.comms.link.peer.queueDisplaced } ∧
        t.comms.link.spacing = .running 500 ∧ t.comms.service.current = none ∧
        ∀ g ∈ s.comms.link.queue, g.inFlight = true ∨ g.payload.cls s.grave ≠ 6 → g ∈ t.comms.link.queue) ∧
    (s.vented = true → s.operating = true → s.comms.fan.dwell.isRunning = true →
      demand s.env s.comms.fan < s.comms.fan.stage → s.grave = false → s.comms.link.queue.length < 8 →
      ∃ t, exec .dwellTimerExpiry s = .next t ∧
        (s.comms.link.state ≠ .off → s.comms.link.state ≠ .silent →
          (s.comms.link.reportInFlight = true → t.comms.link.refreshMark = true ∧
            t.comms.link.peer = s.comms.link.peer) ∧
          (s.comms.link.hasReport = true → s.comms.link.reportInFlight = false → t.comms.link.peer =
            { s.comms.link.peer with reportsFolded := bump s.comms.link.peer.reportsFolded }) ∧
          (s.comms.link.hasReport = false → s.comms.link.spacing.isRunning = true →
            t.comms.link.eventPending = true ∧ t.comms.link.hasReport = false ∧
            t.comms.link.peer = s.comms.link.peer)) ∧
        (s.comms.link.state = .off ∨ s.comms.link.state = .silent →
          t.comms.link.eventPending = s.comms.link.eventPending ∧
          t.comms.link.refreshMark = s.comms.link.refreshMark ∧ t.comms.link.peer = s.comms.link.peer ∧
          t.comms.link.hasReport = s.comms.link.hasReport)) ∧
    (s.comms.link.spacing.isRunning = true → s.comms.link.eventPending = true → s.comms.link.hasReport = true →
      exec .spacingTimerExpiry s = .next { s with
        comms := { s.comms with link := { s.comms.link with spacing := .stopped, eventPending := false } }
        moment := s.moment + 1 }) ∧
    (s.comms.link.spacing.isRunning = true → s.comms.link.eventPending = true → s.comms.link.state = .active →
      s.comms.link.hasReport = false → s.comms.link.queue.length < 8 →
      ∃ t, exec .spacingTimerExpiry s = .next t ∧
        t = { s with
          comms := { s.comms with
            link := { s.comms.link with
              queue := t.comms.link.queue, spacing := .running 500, eventPending := false
              peer := { s.comms.link.peer with reportsQueued := bump s.comms.link.peer.reportsQueued } }
            draws := s.comms.draws + 1 }
          moment := s.moment + 1 } ∧
        ⟨.report, 0, true, s.moment, s.comms.draws, false⟩ ∈ t.comms.link.queue) ∧
    (s.comms.link.spacing.isRunning = true → s.comms.link.eventPending = false →
      exec .spacingTimerExpiry s = .next { s with
        comms := { s.comms with link := { s.comms.link with spacing := .stopped } }, moment := s.moment + 1 })

/-! ## Other parties' frames, and the tables they fill (Chapters 4 and 5) -/

/-- A broken frame and a voided frame count their error and pass nothing; a frame of a kind that no block takes is
counted as taken, and one from this station's own unit, of whatever kind, counts a clash besides and passes nothing
(R60, R69, R70, R71, R89). That the bus-free count starts again and the stuck timer stands at zero after such a frame,
a broken one too, is the model's choice (log 12). -/
def Obligations.FramesThatPassNothingOnlyCount : Prop :=
  ∀ (sender : BitVec 6) (kind : BitVec 5) (s : State), s.atRest = true →
    exec .brokenFrame s = .next { s with
      comms := { s.comms with link := { s.comms.link with
        busFreeCount := 0, stuck := .stopped, stuckSpell := false
        counters := { s.comms.link.counters with brokenFrames := bump s.comms.link.counters.brokenFrames } } }
      moment := s.moment + 1 } ∧
    (∀ b, exec (.receivedFrameDiscarded b) s = .next { s with
      comms := { s.comms with link := { s.comms.link with
        busFreeCount := 0, stuck := .stopped, stuckSpell := false
        counters := { s.comms.link.counters with
          checkErrors := if b then bump s.comms.link.counters.checkErrors else s.comms.link.counters.checkErrors } } }
      moment := s.moment + 1 }) ∧
    (s.operating = true →
      exec (.unpassedFrameTaken sender kind) s = .next { s with
        comms := { s.comms with link := { s.comms.link with
          busFreeCount := 0, stuck := .stopped, stuckSpell := false
          counters := { s.comms.link.counters with
            framesTaken := bump s.comms.link.counters.framesTaken
            unitClash := if sender.toNat = s.settings.unit then bump s.comms.link.counters.unitClash
              else s.comms.link.counters.unitClash } } }
        moment := s.moment + 1 }) ∧
    (s.operating = true → sender.toNat = s.settings.unit →
      (∀ payload, exec (.zoneReportTaken sender payload) s = exec (.unpassedFrameTaken sender kind) s) ∧
      (∀ fan w, exec (.startNoticeTaken sender fan w) s = exec (.unpassedFrameTaken sender kind) s) ∧
      (∀ u d p, exec (.transitNoticeTaken sender u d p) s = exec (.unpassedFrameTaken sender kind) s) ∧
      (∀ u k a data, exec (.serviceRequestTaken sender u k a data) s = exec (.unpassedFrameTaken sender kind) s))

/-- A ZONE REPORT from a configured neighbour, naming a zone state, fills its entry: FRESH, both timers started. One
that changes the entry re-forms its assist term min(1023, FS) w / 8 with ES, and the candidate of its port by the
tests and the discount of R131 and R132, and with it the best offer, the emphasised port, the advertised figures and
the signs; one that changes nothing presents nothing; any other is set aside, counted (R29, R32, R92 to R94, R131 to
R138). That the time taken of an equal report is kept too is the model's choice (log 34). -/
def Obligations.ZoneReportFillsTheNeighbourEntry : Prop :=
  ∀ (sender : BitVec 6) (payload : Tbl 13 Byte) (s : State), s.quiet = true → s.vented = true → s.operating = true →
    sender.toNat ≠ s.settings.unit →
    (∀ n, s.settings.placeOfUnit sender.toNat = some n → (reportOf payload).zoneState ≤ 3 →
      ∃ t, exec (.zoneReportTaken sender payload) s = .next t ∧
        t = { s with
          fume := { s.fume with terms := t.fume.terms, es0 := t.fume.es0, es := t.fume.es }
          comms := t.comms
          peers := s.peers.set n ⟨some ⟨reportOf payload, s.now⟩, .fresh, .running (1000 * s.settings.staleTime),
            .running (1000 * s.settings.lostTime)⟩
          guide := t.guide
          moment := s.moment + 1 } ∧
        t.comms.link.peer.reportsTaken = bump s.comms.link.peer.reportsTaken ∧
        t.comms.link.counters.framesTaken = bump s.comms.link.counters.framesTaken ∧
        ((s.peers.get n).fresh = .fresh → (s.peers.get n).contents.map (·.report) = some (reportOf payload) →
          t.fume = s.fume ∧ t.guide = s.guide) ∧
        ((s.peers.get n).fresh ≠ .fresh ∨ (s.peers.get n).contents.map (·.report) ≠ some (reportOf payload) →
          t.fume.terms = s.fume.terms.set n
            (some (min 1023 (reportOf payload).fs * (s.settings.neighbours.get n).weight / 8)) ∧
          t.fume.es0 = t.fume.terms.cells.foldl (fun m x => max m (x.getD 0)) s.fume.fs ∧
          t.fume.es = min 1023 (t.fume.es0 + (s.fume.m * s.settings.km + s.fume.q * s.settings.kq) / 4) ∧
          ∀ p, (s.settings.neighbours.get n).port = some p → s.settings.placeOfPort p = some n →
            t.guide.candidates.get p =
              (if (reportOf payload).zoneState = 0 ∧ (reportOf payload).origin ≠ s.settings.unit ∧
                  1 ≤ (reportOf payload).origin ∧ (reportOf payload).origin ≤ 62 ∧
                  (reportOf payload).nextHop ≠ s.settings.unit ∧ (reportOf payload).hops < 8
                then some ⟨(reportOf payload).value * (256 - (s.settings.neighbours.get n).cost) / 256,
                  (reportOf payload).free, (reportOf payload).hops + 1, (reportOf payload).origin,
                  some (s.settings.neighbours.get n).unit⟩
                else none) ∧
            t.guidanceFormed)) ∧
    (s.settings.placeOfUnit sender.toNat = none ∨ 4 ≤ (reportOf payload).zoneState →
      exec (.zoneReportTaken sender payload) s = .next { s with
        comms := { s.comms with link := { s.comms.link with
          busFreeCount := 0, stuck := .stopped, stuckSpell := false
          counters := { s.comms.link.counters with framesTaken := bump s.comms.link.counters.framesTaken }
          peer := { s.comms.link.peer with reportsIgnored := bump s.comms.link.peer.reportsIgnored } } }
        moment := s.moment + 1 })

/-- A FRESH entry whose stale timer expires turns STALE and keeps its contents and its assist term, and the value of its
candidate is halved; a STALE entry whose lost timer expires turns LOST: its contents are cleared, NEIGHBOURS_LOST is
counted, its assist term and its candidate are absent (R29, R93, R94, R131, R132). -/
def Obligations.SilentNeighbourTurnsStaleThenLost : Prop :=
  ∀ (n : Fin 8) (s : State), s.quiet = true → s.vented = true →
    ((s.peers.get n).fresh = .fresh → (s.peers.get n).stale.isRunning = true →
      ∃ t, exec (.staleTimerExpiry n) s = .next t ∧
        t = { s with
          fume := { s.fume with terms := t.fume.terms, es0 := t.fume.es0, es := t.fume.es }
          comms := t.comms
          peers := s.peers.set n { s.peers.get n with fresh := .stale, stale := .stopped }
          guide := t.guide
          moment := s.moment + 1 } ∧
        (∀ x, (s.peers.get n).contents = some x →
          t.fume.terms.get n = some (min 1023 x.report.fs * (s.settings.neighbours.get n).weight / 8) ∧
          ∀ p, (s.settings.neighbours.get n).port = some p → s.settings.placeOfPort p = some n →
            t.guide.candidates.get p =
              (if x.report.zoneState = 0 ∧ x.report.origin ≠ s.settings.unit ∧
                  1 ≤ x.report.origin ∧ x.report.origin ≤ 62 ∧
                  x.report.nextHop ≠ s.settings.unit ∧ x.report.hops < 8
                then some ⟨x.report.value * (256 - (s.settings.neighbours.get n).cost) / 256 / 2,
                  x.report.free, x.report.hops + 1, x.report.origin, some (s.settings.neighbours.get n).unit⟩
                else none))) ∧
    ((s.peers.get n).fresh = .stale → (s.peers.get n).lost.isRunning = true →
      ∃ t, exec (.lostTimerExpiry n) s = .next t ∧
        t = { s with
          fume := { s.fume with terms := s.fume.terms.set n none, es0 := t.fume.es0, es := t.fume.es }
          comms := t.comms
          peers := s.peers.set n ⟨none, .lost, .stopped, .stopped⟩
          guide := t.guide
          moment := s.moment + 1 } ∧
        t.comms.link.peer.neighboursLost = bump s.comms.link.peer.neighboursLost ∧
        ∀ p, (s.settings.neighbours.get n).port = some p → s.settings.placeOfPort p = some n →
          t.guide.candidates.get p = none)

/-- A START NOTICE taken from another unit enters the start-notice list with a window held to 2 s to 30 s, in the place
of an entry of the same unit and fan, or of the first of a full list; an entry's expiry takes it out, and the fan
controller queues a notice for its first WAIT_PERMIT fan where the live count lies below K, or counts it deferred (R42,
R95 to R97). That the first of the list is its earliest entry is the model's choice (log 27). -/
def Obligations.StartNoticesLiveForTheirWindow : Prop :=
  ∀ (unit : BitVec 6) (fan w : Byte) (s : State), s.quiet = true →
    (s.operating = true → unit.toNat ≠ s.settings.unit →
      ∃ t e, exec (.startNoticeTaken unit fan w) s = .next t ∧
        e = (⟨unit.toNat, fan.toNat, s.now, max 2 (min 30 w.toNat), 1000 * max 2 (min 30 w.toNat)⟩ : Notice) ∧
        t = { s with
          comms := { s.comms with
            link := { s.comms.link with
              busFreeCount := 0, stuck := .stopped, stuckSpell := false
              counters := { s.comms.link.counters with framesTaken := bump s.comms.link.counters.framesTaken }
              peer := t.comms.link.peer }
            notices := t.comms.notices }
          moment := s.moment + 1 } ∧
        t.comms.link.peer.noticesHeard = bump s.comms.link.peer.noticesHeard ∧
        ((∃ x ∈ s.comms.notices, x.unit = unit.toNat ∧ x.fan = fan.toNat) →
          t.comms.notices = (s.comms.notices.filter fun x =>
            !(decide (x.unit = unit.toNat) && decide (x.fan = fan.toNat))) ++ [e]) ∧
        ((∀ x ∈ s.comms.notices, ¬(x.unit = unit.toNat ∧ x.fan = fan.toNat)) →
          (s.comms.notices.length < 16 → t.comms.notices = s.comms.notices ++ [e]) ∧
          (16 ≤ s.comms.notices.length → t.comms.notices = s.comms.notices.drop 1 ++ [e] ∧
            t.comms.link.peer.noticesOverflow = bump s.comms.link.peer.noticesOverflow))) ∧
    ((∃ x ∈ s.comms.notices, x.unit = unit.toNat ∧ x.fan = fan.toNat) →
      ∃ t, exec (.startNoticeEntryExpiry unit fan) s = .next t ∧
        t = { s with comms := t.comms, moment := s.moment + 1 } ∧
        t.comms.notices = (s.comms.notices.filter fun x =>
          !(decide (x.unit = unit.toNat) && decide (x.fan = fan.toNat))) ∧
        (s.operating = true → s.comms.link.state = .active → s.comms.hasNotice = false → s.comms.fan.release = none →
          ∀ i, s.comms.fan.firstWaiting = some i →
            (t.comms.notices.length < s.settings.allowance → s.comms.link.queue.length < 8 →
              ⟨.startNotice i, 0, true, s.moment, s.comms.draws, false⟩ ∈ t.comms.link.queue ∧
              t.comms.fan = s.comms.fan) ∧
            (s.settings.allowance ≤ t.comms.notices.length → t.comms.link.queue = s.comms.link.queue ∧
              t.comms.fan.counters.noticeDeferred = bump s.comms.fan.counters.noticeDeferred)))

/-- A TRANSIT NOTICE for this station's unit is counted: one INTO adds an arrival at the end of the list, with the
sender as its source and its lifetime before it, the oldest leaving a full list; one OUT OF passes the oldest arrival
on; one with no direction is set aside; a notice for another unit changes nothing here. The lead-in demands, in step
with the holds before, are in step with the holds after, at the tracker and at the lamps (R89, R90, R117 to R119,
R124, R127, R146). -/
def Obligations.TransitNoticeAddsOrPassesAnArrival : Prop :=
  ∀ (sender : BitVec 6) (target direction port : Byte) (s : State), s.quiet = true → s.operating = true →
    sender.toNat ≠ s.settings.unit → s.comms.link.queue.length < 8 →
    ∃ t, exec (.transitNoticeTaken sender target direction port) s = .next t ∧
      t = { s with
        comms := { s.comms with link := t.comms.link, draws := t.comms.draws }
        scanner := { s.scanner with bays := t.scanner.bays, counters := t.scanner.counters }
        tracker := t.tracker
        guide := t.guide
        lamps := t.lamps
        moment := s.moment + 1 } ∧
      t.comms.link.counters = { s.comms.link.counters with framesTaken := bump s.comms.link.counters.framesTaken } ∧
      (target.toNat = s.settings.unit → direction = 1 →
        t.comms.link.peer.transitsTaken = bump s.comms.link.peer.transitsTaken ∧
        t.tracker.counters.added = bump s.tracker.counters.added ∧
        t.tracker.list.length =
          (if 16 ≤ s.tracker.list.length then s.tracker.list.length else s.tracker.list.length + 1) ∧
        t.tracker.list.getLast?.map (fun a => (a.recordedAt, a.source, a.expiresAt)) =
          some (s.now, .transit sender.toNat, s.now + 1000 * s.settings.lifetime)) ∧
      (target.toNat = s.settings.unit → direction = 2 →
        t.comms.link.peer.transitsTaken = bump s.comms.link.peer.transitsTaken ∧
        t.tracker.list.map (fun a => (a.recordedAt, a.source)) =
          (s.tracker.list.drop 1).map (fun a => (a.recordedAt, a.source)) ∧
        t.tracker.counters.passed = (if s.tracker.list = [] then s.tracker.counters.passed
          else bump s.tracker.counters.passed)) ∧
      (target.toNat = s.settings.unit → direction ≠ 1 → direction ≠ 2 →
        t.tracker = s.tracker ∧ t.comms.link.peer.reportsIgnored = bump s.comms.link.peer.reportsIgnored) ∧
      (target.toNat ≠ s.settings.unit → t.tracker = s.tracker ∧ t.scanner = s.scanner ∧
        t.comms.link.peer = s.comms.link.peer) ∧
      (s.leadInSound → t.leadInSound)

/-- A SERVICE REQUEST for the unit this station answers to, its own while OPERATING and 0 in COMMISSION, taken while
the responder is busy, waits behind those that wait; where two wait it is discarded, counted; one for another unit is
only counted as taken, and in COMMISSION not even that (R71, R73, R77, R89, R175). That a request taken with both
places full is discarded at once, that FRAMES_TAKEN leaves out frames for other units in COMMISSION, and where the
bus-free count and the stuck timer stand after the frame, are the model's choices (log 4, log 11, log 12). -/
def Obligations.ServiceRequestWaitsBehindTheCurrentOne : Prop :=
  ∀ (sender : BitVec 6) (target kind argument : Byte) (data : List Byte) (s : State), s.atRest = true →
    s.comms.service.current.isSome = true → (s.operating = true → sender.toNat ≠ s.settings.unit) →
    (target.toNat = (if s.operating then s.settings.unit else 0) → s.comms.service.queue.length < 2 →
      exec (.serviceRequestTaken sender target kind argument data) s = .next { s with
        comms := { s.comms with
          link := { s.comms.link with
            busFreeCount := 0, stuck := .stopped, stuckSpell := false
            counters := { s.comms.link.counters with framesTaken := bump s.comms.link.counters.framesTaken } }
          service := { s.comms.service with queue := s.comms.service.queue ++ [⟨kind, argument, data⟩] } }
        moment := s.moment + 1 }) ∧
    (target.toNat = (if s.operating then s.settings.unit else 0) → 2 ≤ s.comms.service.queue.length →
      exec (.serviceRequestTaken sender target kind argument data) s = .next { s with
        comms := { s.comms with link := { s.comms.link with
          busFreeCount := 0, stuck := .stopped, stuckSpell := false
          counters := { s.comms.link.counters with
            framesTaken := bump s.comms.link.counters.framesTaken
            serviceOverruns := bump s.comms.link.counters.serviceOverruns } } }
        moment := s.moment + 1 }) ∧
    (s.operating = true → target.toNat ≠ s.settings.unit →
      exec (.serviceRequestTaken sender target kind argument data) s = .next { s with
        comms := { s.comms with link := { s.comms.link with
          busFreeCount := 0, stuck := .stopped, stuckSpell := false
          counters := { s.comms.link.counters with framesTaken := bump s.comms.link.counters.framesTaken } } }
        moment := s.moment + 1 }) ∧
    (s.operating = false → target.toNat ≠ 0 →
      exec (.serviceRequestTaken sender target kind argument data) s = .next { s with
        comms := { s.comms with link := { s.comms.link with
          busFreeCount := 0, stuck := .stopped, stuckSpell := false } }
        moment := s.moment + 1 })

/-! ## Bays, lanes and arrivals (Chapters 6 and 7) -/

/-- A scan begins at each expiry of the scan timer: the bays in UNKNOWN, FREE, HELD and OCCUPIED stand to be polled,
in index order, and every bay is sent its colour again; an expiry of the flash timer toggles the phase and sends it to
every flashing bay, and to no other (R101, R102, R109). -/
def Obligations.ScansPollAndFlashesToggle : Prop :=
  ∀ s : State, s.atRest = true →
    (s.scanner.scan.isRunning = true →
      ∃ t, exec .scanTimerExpiry s = .next t ∧
        t = { s with
          scanner := { s.scanner with
            bays := t.scanner.bays, polls := t.scanner.polls, scan := .running (100 * s.settings.scanTenths) }
          moment := s.moment + 1 } ∧
        t.scanner.polls.Pairwise (· < ·) ∧
        (∀ b, b ∈ t.scanner.polls ↔ s.bayState b = .unknown ∨ s.bayState b = .free ∨ s.bayState b = .held ∨
          s.bayState b = .occupied) ∧
        ∀ b, t.scanner.bays.get b = { s.scanner.bays.get b with
          shown := match (s.scanner.bays.get b).indicator with
            | .dark => .dark
            | .green => .green
            | .blue => .blue
            | .red => .red
            | .flashing => if s.scanner.flashOn then .green else .dark }) ∧
    (s.scanner.flash.isRunning = true →
      ∃ t, exec .flashTimerExpiry s = .next t ∧
        t = { s with
          scanner := { s.scanner with bays := t.scanner.bays, flashOn := !s.scanner.flashOn, flash := .running 500 }
          moment := s.moment + 1 } ∧
        (∀ b, (s.scanner.bays.get b).indicator ≠ .flashing → t.scanner.bays.get b = s.scanner.bays.get b) ∧
        ∀ b, (s.scanner.bays.get b).indicator = .flashing → t.scanner.bays.get b =
          { s.scanner.bays.get b with shown := if s.scanner.flashOn then .dark else .green })

/-- An answer of a polled bay: the reading its state expects clears the candidate; another is counted as candidate,
and at the confirm count it is confirmed: the bay becomes OCCUPIED, or FREE and perhaps HELD at once for a waiting
arrival, BAY_CONFIRMS is counted, and but from UNKNOWN it is a movement; a parking takes the arrival that held the
bay, or else the oldest; the lead-in demands follow the holds; a bay that becomes FREE or was FREE changes the own
offer, min(255, 4 F) of value for F free bays, and the best offer, the advertised figures and the signs with it (R103,
R104, R120, R122, R127, R130, R133 to R138). That an answer counts whenever the bay's state is polled is the model's
choice (log 26). -/
def Obligations.RepeatedReadingIsConfirmed : Prop :=
  ∀ (b : Fin 48) (r : Reading) (x : Bay) (s : State), s.quiet = true → s.vented = true → s.scanner.bays.get b = x →
    x.state.isPolled = true →
    ((x.state = .free ∨ x.state = .held) ∧ r = .vacant ∨ x.state = .occupied ∧ r = .occupied →
      ∃ t, exec (.bayPollAnswer b r) s = .next t ∧
        t = { s with
          scanner := { s.scanner with bays := t.scanner.bays, polls := s.scanner.polls.erase b }
          moment := s.moment + 1 } ∧
        (t.scanner.bays.get b).state = x.state ∧ (t.scanner.bays.get b).candidate = none ∧
        (t.scanner.bays.get b).agreeing = 0 ∧ (t.scanner.bays.get b).noAnswer = 0 ∧
        ∀ c, c ≠ b → t.scanner.bays.get c = s.scanner.bays.get c) ∧
    (¬((x.state = .free ∨ x.state = .held) ∧ r = .vacant ∨ x.state = .occupied ∧ r = .occupied) →
      (if x.candidate = some r then x.agreeing + 1 else 1) < s.settings.confirm →
      ∃ t, exec (.bayPollAnswer b r) s = .next t ∧
        t = { s with
          scanner := { s.scanner with bays := t.scanner.bays, polls := s.scanner.polls.erase b }
          moment := s.moment + 1 } ∧
        (t.scanner.bays.get b).state = x.state ∧ (t.scanner.bays.get b).candidate = some r ∧
        (t.scanner.bays.get b).agreeing = (if x.candidate = some r then x.agreeing + 1 else 1) ∧
        (t.scanner.bays.get b).noAnswer = 0 ∧ ∀ c, c ≠ b → t.scanner.bays.get c = s.scanner.bays.get c) ∧
    (¬((x.state = .free ∨ x.state = .held) ∧ r = .vacant ∨ x.state = .occupied ∧ r = .occupied) →
      s.settings.confirm ≤ (if x.candidate = some r then x.agreeing + 1 else 1) →
      ∃ t, exec (.bayPollAnswer b r) s = .next t ∧
        t = { s with
          fume := { s.fume with movement := t.fume.movement, es0 := t.fume.es0, es := t.fume.es }
          comms := t.comms
          scanner := { s.scanner with
            bays := t.scanner.bays, polls := s.scanner.polls.erase b, counters := t.scanner.counters }
          tracker := t.tracker
          guide := t.guide
          lamps := t.lamps
          moment := s.moment + 1 } ∧
        t.scanner.counters.bayConfirms = bump s.scanner.counters.bayConfirms ∧
        (t.scanner.bays.get b).candidate = none ∧ (t.scanner.bays.get b).agreeing = 0 ∧
        (r = .occupied → t.bayState b = .occupied) ∧
        (r = .vacant → t.bayState b = .free ∨ t.bayState b = .held) ∧
        t.fume.movement = (if x.state = .unknown then s.fume.movement
          else s.fume.movement.set 5 (min 255 (s.fume.movement.get 5 + 1))) ∧
        ((s.settings.bays.get b).lamp.isSome = true → t.lamps.counters.presenceEvents =
          if x.state = .unknown then s.lamps.counters.presenceEvents else bump s.lamps.counters.presenceEvents) ∧
        (r = .vacant ∨ x.state = .unknown → t.tracker.list.length = s.tracker.list.length) ∧
        (r = .occupied → x.state ≠ .unknown →
          t.tracker.list.length = s.tracker.list.length - 1 ∧
          ((∃ a ∈ s.tracker.list, a.bay = some b) →
            t.tracker.counters.matched = bump s.tracker.counters.matched ∧
            t.tracker.counters.assumed = s.tracker.counters.assumed) ∧
          ((∀ a ∈ s.tracker.list, a.bay ≠ some b) → s.tracker.list ≠ [] →
            t.tracker.counters.assumed = bump s.tracker.counters.assumed ∧
            t.tracker.counters.matched = s.tracker.counters.matched)) ∧
        (s.leadInSound → t.leadInSound) ∧
        (r = .vacant ∨ x.state = .free → t.guidanceFormed ∧ t.guide.own =
          ⟨min 255 (4 * t.freeCount .general), t.freeCount .general, 0, s.settings.unit, none⟩))

/-- A poll without an answer is counted and leaves the candidate alone; the fifth in a row puts the bay in FAULT,
counted, its candidate and counts cleared and its indicator dark, and where it was HELD the arrival keeps its place in
the list without that bay (R105, R123). That a poll may go unanswered whenever the bay's state is polled is the model's
choice (log 26). -/
def Obligations.UnansweredBayTurnsFaulty : Prop :=
  ∀ (b : Fin 48) (x : Bay) (s : State), s.quiet = true → s.scanner.bays.get b = x → x.state.isPolled = true →
    (x.noAnswer < 4 →
      ∃ t, exec (.bayNoAnswer b) s = .next t ∧
        t = { s with
          scanner := { s.scanner with
            bays := t.scanner.bays, polls := s.scanner.polls.erase b
            counters := { s.scanner.counters with noAnswers := bump s.scanner.counters.noAnswers } }
          moment := s.moment + 1 } ∧
        (t.scanner.bays.get b).state = x.state ∧ (t.scanner.bays.get b).candidate = x.candidate ∧
        (t.scanner.bays.get b).agreeing = x.agreeing ∧ (t.scanner.bays.get b).noAnswer = x.noAnswer + 1 ∧
        ∀ c, c ≠ b → t.scanner.bays.get c = s.scanner.bays.get c) ∧
    (4 ≤ x.noAnswer →
      ∃ t, exec (.bayNoAnswer b) s = .next t ∧
        t = { s with
          comms := t.comms
          scanner := { s.scanner with
            bays := t.scanner.bays, polls := s.scanner.polls.erase b, counters := t.scanner.counters }
          tracker := t.tracker
          guide := t.guide
          lamps := t.lamps
          moment := s.moment + 1 } ∧
        t.scanner.counters.noAnswers = bump s.scanner.counters.noAnswers ∧
        t.scanner.counters.bayFaults = bump s.scanner.counters.bayFaults ∧
        t.bayState b = .fault ∧ (t.scanner.bays.get b).candidate = none ∧ (t.scanner.bays.get b).agreeing = 0 ∧
        (t.scanner.bays.get b).noAnswer = 0 ∧ (t.scanner.bays.get b).indicator = .dark ∧
        t.tracker.list.map (fun a => (a.recordedAt, a.source)) =
          s.tracker.list.map (fun a => (a.recordedAt, a.source)) ∧
        t.tracker.counters.holdsLost =
          (if x.state = .held then bump s.tracker.counters.holdsLost else s.tracker.counters.holdsLost) ∧
        (x.state = .held → ∀ a ∈ t.tracker.list, a.bay ≠ some b))

/-- A loop change of a lane in use moves the levels, the loop's stuck timer and, by the table of R111, the lane's
state; TAIL_A losing B is a passage IN: counted, a movement, an arrival from the port, a TRANSIT NOTICE to the port's
neighbour; TAIL_B losing A is a passage OUT: counted, a movement, the oldest arrival passed on, a notice; the first
active loop begins presence at the port's lamp channel, which holds its timer, and the last inactive one ends it, the
timer counting down where no other lane is present; the lead-in demands follow the holds; a lane in FAULT moves its
levels alone (R110 to R114, R119, R124, R127, R144). That the levels move with the filtered change is the model's
choice (log 39). -/
def Obligations.LoopChangesDecodePassages : Prop :=
  ∀ (p : Fin 4) (x : Loop) (on : Bool) (l : Lane) (s : State), s.quiet = true → s.vented = true →
    s.laneInUse p = true → s.laneAt p = l → levelOf l.loops x ≠ on → s.comms.link.queue.length ≤ 5 →
    (l.state = .fault →
      exec (.loopChange p x on) s = .next { s with
        scanner := { s.scanner with lanes := s.scanner.lanes.set p { l with loops := setLevel l.loops x on } }
        moment := s.moment + 1 }) ∧
    (l.state ≠ .fault →
      ∃ t, exec (.loopChange p x on) s = .next t ∧
        t = { s with
          fume := { s.fume with movement := t.fume.movement, q := t.fume.q, es0 := t.fume.es0, es := t.fume.es }
          comms := t.comms
          scanner := { s.scanner with
            bays := t.scanner.bays, lanes := t.scanner.lanes, counters := t.scanner.counters }
          tracker := t.tracker
          guide := t.guide
          lamps := t.lamps
          moment := s.moment + 1 } ∧
        (t.laneAt p).loops = setLevel l.loops x on ∧ (∀ q, q ≠ p → t.laneAt q = s.laneAt q) ∧
        (t.laneAt p).stuck x = (if on then .running 300000 else .stopped) ∧
        (∀ row ∈ ([(.firstA, .a, false, .clear), (.firstA, .b, true, .spanA), (.spanA, .a, false, .tailA),
            (.spanA, .b, false, .firstA), (.tailA, .a, true, .spanA), (.tailA, .b, false, .clear),
            (.firstB, .b, false, .clear), (.firstB, .a, true, .spanB), (.spanB, .b, false, .tailB),
            (.spanB, .a, false, .firstB), (.tailB, .b, true, .spanB), (.tailB, .a, false, .clear)] :
            List (LaneState × Loop × Bool × LaneState)),
          l.state = row.1 → x = row.2.1 → on = row.2.2.1 → (t.laneAt p).state = row.2.2.2) ∧
        (l.state = .clear → on = true → (t.laneAt p).state =
          if anyActive l.loops then .clear else if x = .a then .firstA else .firstB) ∧
        (l.state = .clear → on = false → (t.laneAt p).state = .clear) ∧
        (anyActive l.loops = false → (t.laneAt p).presence = .running (1000 * s.settings.queueTime)) ∧
        (anyActive (setLevel l.loops x on) = false →
          (t.laneAt p).presence = .stopped ∧ (t.laneAt p).queue = false) ∧
        (l.state = .tailA → x = .b → on = false →
          t.scanner.counters.passagesIn = bump s.scanner.counters.passagesIn ∧
          t.fume.movement = s.fume.movement.set 5 (min 255 (s.fume.movement.get 5 + 1)) ∧
          t.tracker.list.getLast?.map (fun a => (a.recordedAt, a.source)) = some (s.now, .port p) ∧
          t.tracker.counters.added = bump s.tracker.counters.added ∧
          ∀ n, s.comms.link.state ≠ .silent → s.settings.placeOfPort p = some n →
            ∃ g ∈ t.comms.link.queue, g.payload = .transit (s.settings.neighbours.get n).unit .outOf p) ∧
        (l.state = .tailB → x = .a → on = false →
          t.scanner.counters.passagesOut = bump s.scanner.counters.passagesOut ∧
          t.fume.movement = s.fume.movement.set 5 (min 255 (s.fume.movement.get 5 + 1)) ∧
          t.tracker.list.map (fun a => (a.recordedAt, a.source)) =
            (s.tracker.list.drop 1).map (fun a => (a.recordedAt, a.source)) ∧
          ∀ n, s.comms.link.state ≠ .silent → s.settings.placeOfPort p = some n →
            ∃ g ∈ t.comms.link.queue, g.payload = .transit (s.settings.neighbours.get n).unit .into p) ∧
        ((l.state = .firstA ∧ x = .a ∨ l.state = .firstB ∧ x = .b) → on = false →
          t.scanner.counters.passagesAborted = bump s.scanner.counters.passagesAborted ∧
          t.tracker = s.tracker ∧ t.fume.movement = s.fume.movement) ∧
        (s.leadInSound → t.leadInSound) ∧
        (∀ k, (s.settings.ports.get p).lamp = some k → anyActive l.loops = false →
          (t.lamps.channels.get k).lanes = (s.lamps.channels.get k).lanes + 1 ∧
          (t.lamps.channels.get k).presence = .held ∧
          t.lamps.counters.presenceEvents = bump s.lamps.counters.presenceEvents) ∧
        (∀ k, (s.settings.ports.get p).lamp = some k → anyActive (setLevel l.loops x on) = false →
          (t.lamps.channels.get k).lanes = (s.lamps.channels.get k).lanes - 1 ∧
          (t.lamps.channels.get k).presence = (if (s.lamps.channels.get k).lanes ≤ 1
            then .counting (1000 * (s.settings.lamps.get k).hold) else (s.lamps.channels.get k).presence) ∧
          t.lamps.counters.presenceEvents = bump s.lamps.counters.presenceEvents) ∧
        (anyActive l.loops = true → anyActive (setLevel l.loops x on) = true →
          t.lamps.counters.presenceEvents = s.lamps.counters.presenceEvents))

/-- The presence timer of a lane sets its QUEUE flag, counted, and Q follows; the stuck timer of a loop puts its lane in
FAULT, counted: its timers stop, its QUEUE flag clears, its levels stay, and presence under way ends (R31, R112, R113,
R144). -/
def Obligations.LanesQueueAndGetStuck : Prop :=
  ∀ (p : Fin 4) (x : Loop) (l : Lane) (s : State), s.quiet = true → s.vented = true → s.laneAt p = l →
    (l.presence.isRunning = true →
      ∃ t, exec (.lanePresenceTimerExpiry p) s = .next t ∧
        t = { s with
          fume := { s.fume with q := t.fume.q, es0 := t.fume.es0, es := t.fume.es }
          comms := t.comms
          scanner := { s.scanner with
            lanes := s.scanner.lanes.set p { l with presence := .stopped, queue := true }
            counters := { s.scanner.counters with queuesSet := bump s.scanner.counters.queuesSet } }
          moment := s.moment + 1 } ∧
        t.fume.q =
          ((List.finRange 4).filter fun q => (t.laneAt q).queue && decide ((t.laneAt q).state ≠ .fault)).length) ∧
    ((l.stuck x).isRunning = true →
      ∃ t, exec (.loopStuckTimerExpiry p x) s = .next t ∧
        t = { s with
          fume := { s.fume with q := t.fume.q, es0 := t.fume.es0, es := t.fume.es }
          comms := t.comms
          scanner := { s.scanner with
            lanes := s.scanner.lanes.set p ⟨l.loops, .fault, .stopped, false, .stopped, .stopped⟩
            counters := { s.scanner.counters with laneFaults := bump s.scanner.counters.laneFaults } }
          lamps := t.lamps
          moment := s.moment + 1 } ∧
        (l.queue = true → t.fume.q =
          ((List.finRange 4).filter fun q => (t.laneAt q).queue && decide ((t.laneAt q).state ≠ .fault)).length) ∧
        (l.queue = false → t.fume = s.fume ∧ t.comms = s.comms) ∧
        ∀ k, (s.settings.ports.get p).lamp = some k → anyActive l.loops = true →
          (t.lamps.channels.get k).lanes = (s.lamps.channels.get k).lanes - 1 ∧
          t.lamps.counters.presenceEvents = bump s.lamps.counters.presenceEvents)

/-- An arrival's expiry takes the oldest entry, whose expiry time has come, out of the list, counted, and releases the
bay it held, which becomes FREE or is held at once for another; the other entries keep their order, the lead-in
demands follow the holds, and no bay but a FREE or HELD one changes state; where the oldest entry's time has not come,
as the one that was to expire has left first, or the list is empty, nothing changes (R107, R121, R125, R127). That the
oldest entry is the one to expire is the model's choice (log 17). -/
def Obligations.ArrivalsExpireOldestFirst : Prop :=
  ∀ s : State, s.quiet = true →
    (∀ a rest, s.tracker.list = a :: rest → a.expiresAt ≤ s.now →
      ∃ t, exec .arrivalExpiry s = .next t ∧
        t = { s with
          comms := t.comms
          scanner := { s.scanner with bays := t.scanner.bays, counters := t.scanner.counters }
          tracker := t.tracker
          guide := t.guide
          lamps := t.lamps
          moment := s.moment + 1 } ∧
        t.tracker.counters = { s.tracker.counters with lost := bump s.tracker.counters.lost } ∧
        t.tracker.list.map (fun a => (a.recordedAt, a.source, a.expiresAt)) =
          rest.map (fun a => (a.recordedAt, a.source, a.expiresAt)) ∧
        (∀ b, a.bay = some b → s.bayState b = .held → t.bayState b = .free ∨ t.bayState b = .held) ∧
        (s.leadInSound → t.leadInSound) ∧
        ∀ b, s.bayState b ≠ .free → s.bayState b ≠ .held → t.scanner.bays.get b = s.scanner.bays.get b) ∧
    (∀ a rest, s.tracker.list = a :: rest → s.now < a.expiresAt →
      exec .arrivalExpiry s = .next { s with moment := s.moment + 1 }) ∧
    (s.tracker.list = [] → exec .arrivalExpiry s = .next { s with moment := s.moment + 1 })

/-- Every step keeps it so that a bay is HELD exactly while one arrival holds it, and then one alone; so the number of
HELD bays is the number of arrivals that carry a held bay (R107, R121 to R126). -/
def Obligations.EveryHeldBayHasOneArrival : Prop :=
  ∀ s t : State, s.holdsSound → step s = .next t → t.holdsSound ∧ t.holdsCounted

/-- Every step keeps the transmit queue within 8 frames, the service request queue within 2 requests, the start-notice
list within 16 entries and the arrival list within 16; it keeps the transmit queue ordered by class, as the zone state
gives it, and queueing time, with at most one ZONE REPORT and one START NOTICE. A frame offered to a full queue
displaces the oldest frame of the worst class not in flight where its own class is lower, and takes its place by class
and queueing time; else it is refused, as every frame is by a SILENT link; each is counted and handed back as a drop
(R42, R81, R84, R85, R95, R117, R175). -/
def Obligations.QueuesAndListsKeepTheirPlaces : Prop :=
  (∀ s t : State, s.listsSound → step s = .next t → t.listsSound) ∧
  (∀ s t : State, s.queueSound → step s = .next t → t.queueSound) ∧
  ∀ (e : Env) (p : Payload) (c : Comms),
    (c.link.state = .silent → offerFrame e p c = c.refuse p) ∧
    ∀ w, c.link.state ≠ .silent → 8 ≤ c.link.queue.length → c.link.queue.Pairwise (mayPrecede e.grave) →
      (∃ f ∈ c.link.queue, f.inFlight = false ∧ f.payload.cls e.grave = w) →
      (∀ f ∈ c.link.queue, f.inFlight = false → f.payload.cls e.grave ≤ w) →
      (w ≤ p.cls e.grave → offerFrame e p c = ⟨{ c with link := { c.link with peer := { c.link.peer with
        queueRefused := bump c.link.peer.queueRefused } } }, false, some p⟩) ∧
      (p.cls e.grave < w → ∃ before v after, c.link.queue = before ++ v :: after ∧ v.inFlight = false ∧
        v.payload.cls e.grave = w ∧
        (∀ f ∈ before ++ after, f.inFlight = false → f.payload.cls e.grave = w → v.queuedAt ≤ f.queuedAt) ∧
        ∃ left right, before ++ after = left ++ right ∧
          (left ++ ⟨p, 0, true, e.moment, c.draws, false⟩ :: right).Pairwise (mayPrecede e.grave) ∧
          offerFrame e p c = ⟨{ c with
            link := { c.link with
              queue := left ++ ⟨p, 0, true, e.moment, c.draws, false⟩ :: right
              peer := { c.link.peer with queueDisplaced := bump c.link.peer.queueDisplaced } }
            draws := c.draws + 1 }, true, some v.payload⟩)

/-! ## Signs, lamps and the zone state (Chapters 8 to 10) -/

/-- The refresh timer sets both send marks; an idle sign link starts the record of a marked sign, 13 bytes from its
index over its legend and its four slots to a CRC-8, taking 4 ms, clears its mark and counts it in SIGN_RECORDS, of
two marked signs the one not sent last; at a record's end the next marked sign goes, and with none the link is idle
(R139, R142, R181). -/
def Obligations.SignRecordsGoOutInTurn : Prop :=
  ∀ (i : Fin 2) (s : State), s.atRest = true →
    (s.guide.refresh.isRunning = true → s.guide.line = none → s.guide.lastSign ≠ i →
      ∃ t, exec .signRefreshTimerExpiry s = .next t ∧
        t = { s with
          guide := { s.guide with
            signs := t.guide.signs, refresh := .running 5000, line := t.guide.line, lastSign := i
            counters := { s.guide.counters with
              signRecords := bump s.guide.counters.signRecords } }
          moment := s.moment + 1 } ∧
        (∀ j, t.guide.signs.get j = { s.guide.signs.get j with mark := decide (j ≠ i) }) ∧
        ∃ body, t.guide.line = some ⟨i, body ++ [crc8 body], 4⟩ ∧ isSignBody i (s.guide.signs.get i) body) ∧
    (s.guide.refresh.isRunning = true → s.guide.line ≠ none →
      ∃ t, exec .signRefreshTimerExpiry s = .next t ∧
        t = { s with guide := { s.guide with signs := t.guide.signs, refresh := .running 5000 }
                     moment := s.moment + 1 } ∧
        ∀ j, t.guide.signs.get j = { s.guide.signs.get j with mark := true }) ∧
    ((∀ j, (s.guide.signs.get j).mark = decide (j = i)) →
      ∃ t, exec .signRecordEnd s = .next t ∧
        t = { s with
          guide := { s.guide with
            signs := s.guide.signs.set i { s.guide.signs.get i with mark := false }, line := t.guide.line, lastSign := i
            counters := { s.guide.counters with
              signRecords := bump s.guide.counters.signRecords } }
          moment := s.moment + 1 } ∧
        ∃ body, t.guide.line = some ⟨i, body ++ [crc8 body], 4⟩ ∧ isSignBody i (s.guide.signs.get i) body) ∧
    ((∀ j, (s.guide.signs.get j).mark = false) →
      exec .signRecordEnd s = .next { s with guide := { s.guide with line := none }, moment := s.moment + 1 })

/-- A counting presence timer expires, counted, and its channel's target is formed without presence; at a ramp tick
every level rises by 21 or falls by 1023 / (100 Fd), at least 1, and stops at its target; at the start of a PWM period
every channel draws its window of V counts from c_k - V / 2, and its output is on for exactly V of the 1023 counts; no
period starts before the entry to a mode has set it running (R145, R147, R149 to R152). -/
def Obligations.LampsFadeAndDrawTheirWindows : Prop :=
  ∀ (k : Fin 8) (s : State), s.atRest = true →
    (∀ left, (s.lamps.channels.get k).presence = .counting left →
      ∃ t, exec (.lampPresenceTimerExpiry k) s = .next t ∧
        t = { s with
          lamps := { s.lamps with
            channels := s.lamps.channels.set k (t.lamps.channels.get k)
            counters := { s.lamps.counters with holdExpiries := bump s.lamps.counters.holdExpiries } }
          moment := s.moment + 1 } ∧
        t.lamps.channels.get k = { s.lamps.channels.get k with
          presence := .stopped
          target := if s.forced then 1023 else
            max (s.settings.lamps.get k).background
              (if (s.lamps.channels.get k).leadIn && (s.settings.lamps.get k).maskLeadIn
                then (s.settings.lamps.get k).leadIn else 0) }) ∧
    (s.lamps.ramp.isRunning = true →
      ∃ t, exec .rampTick s = .next t ∧
        t = { s with
          lamps := { s.lamps with ramp := .running 10, channels := t.lamps.channels }, moment := s.moment + 1 } ∧
        ∀ j, t.lamps.channels.get j = { s.lamps.channels.get j with
          level := if (s.lamps.channels.get j).level < (s.lamps.channels.get j).target
            then min (s.lamps.channels.get j).target ((s.lamps.channels.get j).level + 21)
            else max (s.lamps.channels.get j).target
              ((s.lamps.channels.get j).level - max 1 (1023 / ((s.settings.lamps.get j).fade * 100))) }) ∧
    (s.lamps.pwm.isRunning = true →
      ∃ t, exec .pwmPeriodStart s = .next t ∧
        t = { s with
          lamps := { s.lamps with pwm := .running 1, channels := t.lamps.channels }, moment := s.moment + 1 } ∧
        ∀ j, t.lamps.channels.get j = { s.lamps.channels.get j with
            window := ⟨(1023 * j.val / 8 + 1023 - (s.lamps.channels.get j).level / 2) % 1023,
              (s.lamps.channels.get j).level⟩ } ∧
          ((s.lamps.channels.get j).level ≤ 1023 →
            ((List.range 1023).filter fun n => (t.lamps.channels.get j).window.on n).length =
              (s.lamps.channels.get j).level)) ∧
    (s.lamps.pwm.isRunning = false → exec .pwmPeriodStart s = .next { s with moment := s.moment + 1 })

/-- Every step keeps it so that outside NORMAL the advertised counts and offer are zero, and every lamp target is as
R147 forms it: 1023 in COMMISSION, ALARM and PURGE, and else the greatest of the background, the presence level while
presence lasts and the mask takes it, and the lead-in level while it is demanded and the mask takes it (R134, R147,
R148). -/
def Obligations.GuidanceAndLampsFollowTheZone : Prop :=
  ∀ s t : State, s.advertSound → s.lampsSound → step s = .next t → t.advertSound ∧ t.lampsSound

/-- While OPERATING, the PURGE input puts a zone in NORMAL or DIVERT into PURGE: stage 4, every lamp target 1023, no
arrival and no HELD bay, every indicator dark, no head at rest, nothing advertised, the signs CLOSED; a zone in ALARM
goes to PURGE with its hold stopped, and no head, arrival or lamp target changes and no FORCED_FULL is counted. Its
release forms ALARM, DIVERT or NORMAL afresh from FS and the causes; the alarm hold's expiry leaves ALARM where FS
lies below A_off, and else starts again; in COMMISSION the input does nothing (R13, R37, R108, R126, R134, R138, R147,
R158 to R162). -/
def Obligations.PurgeAndAlarmMoveTheWholeZone : Prop :=
  ∀ s : State,
    (s.operating = true → s.comms.service.queue = [] → s.grave = false → s.comms.fan.stage ≤ 4 →
      ∃ t, exec .purgeAssertionTaken s = .next t ∧ t.zone.state = .purge ∧ t.zone.purgeIn = true ∧
        t.zone.hold = .stopped ∧ t.zone.counters.purgeEntries = bump s.zone.counters.purgeEntries ∧
        t.zone.counters.stateChanges = bump s.zone.counters.stateChanges ∧ t.comms.fan.stage = 4 ∧
        (∀ k, (t.lamps.channels.get k).target = 1023) ∧ t.tracker.list = [] ∧
        (∀ b, t.bayState b ≠ .held ∧ (t.scanner.bays.get b).indicator = .dark) ∧
        (∀ h, (t.gas.heads.get h).state ≠ .zeroing) ∧
        t.guide.advGeneral = 0 ∧ t.guide.advAccessible = 0 ∧ t.guide.advOffer.value = 0 ∧
        (∀ i, (t.guide.signs.get i).legend = .closed) ∧
        t.mode = s.mode ∧ t.settings = s.settings ∧ t.now = s.now ∧ t.peers = s.peers ∧
        t.scanner.lanes = s.scanner.lanes ∧ t.store = s.store ∧ t.pending = s.pending) ∧
    (s.operating = true → s.quiet = true → s.vented = true → s.zone.state = .alarm →
      ∃ t, exec .purgeAssertionTaken s = .next t ∧
        t.zone = { s.zone with
          state := .purge, purgeIn := true, hold := .stopped
          counters := { s.zone.counters with
            stateChanges := bump s.zone.counters.stateChanges, purgeEntries := bump s.zone.counters.purgeEntries } } ∧
        t.gas = s.gas ∧ t.tracker = s.tracker ∧ t.lamps.counters = s.lamps.counters ∧
        (s.lampsSound → t.lamps = s.lamps) ∧
        t.mode = s.mode ∧ t.settings = s.settings ∧ t.fume = s.fume ∧ t.peers = s.peers ∧
        t.scanner.lanes = s.scanner.lanes ∧ t.store = s.store ∧ t.pending = s.pending) ∧
    (s.operating = true → s.quiet = true → s.vented = true → s.zone.state = .purge →
      ∃ t, exec .purgeReleaseTaken s = .next t ∧ t.zone.purgeIn = false ∧
        t.zone.state = (if s.settings.alarmOff ≤ s.zone.fsLast then .alarm
          else if s.zone.scoreCause || s.zone.gasCause.co || s.zone.gasCause.no2 || s.zone.ventCause
            then .divert else .normal) ∧
        t.zone.hold = (if s.settings.alarmOff ≤ s.zone.fsLast
          then .running (1000 * s.settings.alarmHold) else .stopped) ∧
        t.mode = s.mode ∧ t.settings = s.settings ∧ t.fume = s.fume ∧ t.peers = s.peers ∧
        t.scanner.lanes = s.scanner.lanes ∧ t.store = s.store ∧ t.pending = s.pending) ∧
    (s.operating = true → s.quiet = true → s.vented = true → s.zone.state = .alarm → s.zone.hold.isRunning = true →
      (s.zone.fsLast < s.settings.alarmOff →
        ∃ t, exec .alarmHoldTimerExpiry s = .next t ∧ t.zone.hold = .stopped ∧
          t.zone.state = (if s.zone.scoreCause || s.zone.gasCause.co || s.zone.gasCause.no2 || s.zone.ventCause
            then .divert else .normal) ∧
          t.mode = s.mode ∧ t.settings = s.settings ∧ t.fume = s.fume ∧ t.peers = s.peers ∧
          t.scanner.lanes = s.scanner.lanes ∧ t.store = s.store ∧ t.pending = s.pending) ∧
      (s.settings.alarmOff ≤ s.zone.fsLast →
        exec .alarmHoldTimerExpiry s = .next { s with
          zone := { s.zone with hold := .running (1000 * s.settings.alarmHold) }, moment := s.moment + 1 })) ∧
    (s.operating = false → s.atRest = true →
      exec .purgeAssertionTaken s = .next { s with moment := s.moment + 1 } ∧
      exec .purgeReleaseTaken s = .next { s with moment := s.moment + 1 })

/-! ## Requests and the store (Chapters 11 and 12) -/

/-- STATUS QUERY is answered DONE with the part of the record it names, COUNTER QUERY with the six counters of the
page it names, 0 beyond the last, and 0 in COMMISSION for every group but LINK and STORE; a part, group or page that
names nothing, and a request kind without a meaning, are answered BAD_INDEX with data bytes of 0; nothing but the
responder and the reply changes (R175 to R177). That a sign record counted in COMMISSION reads 0 there is the model's
choice (log 31). -/
def Obligations.QueriesAndUnknownKindsChangeNothing : Prop :=
  ∀ (a b : Byte) (s : State), s.ready = true →
    exec (.statusQuery a) s = .next (s.replied ⟨1, a, []⟩
      (if a = 0 then ⟨1, .done, s.statusPart0⟩ else if a = 1 then ⟨1, .done, s.statusPart1⟩
        else if a = 2 then ⟨1, .done, s.statusPart2⟩ else ⟨1, .badIndex, List.replicate 12 0⟩)) ∧
    (s.operating = false → ∀ g : Fin 11, g.val ≠ 3 → g.val ≠ 10 →
      ∀ counters ∈ s.counterGroups[g.val]?, ∀ n ∈ counters, n = 0) ∧
    (∀ g : Fin 11, a.toNat = g.val → ∀ counters, s.counterGroups[g.val]? = some counters →
      exec (.counterQuery a b) s = .next (s.replied ⟨2, a, [b]⟩
        (if b = 0 ∨ 6 * b.toNat < counters.length
          then ⟨2, .done, (List.range 6).flatMap fun j =>
            [byte (counters.getD (6 * b.toNat + j) 0 / 256), byte (counters.getD (6 * b.toNat + j) 0)]⟩
          else ⟨2, .badIndex, List.replicate 12 0⟩))) ∧
    (11 ≤ a.toNat → exec (.counterQuery a b) s = .next (s.replied ⟨2, a, [b]⟩ ⟨2, .badIndex, List.replicate 12 0⟩)) ∧
    (b.toNat = 0 ∨ 14 ≤ b.toNat →
      exec (.unknownRequestKind b a) s = .next (s.replied ⟨b, a, []⟩ ⟨b, .badIndex, []⟩))

/-- While OPERATING, with another fan available: LOCK FAN switches the fan off into LOCKED and counts it, UNLOCK FAN
and CLEAR FAN FAULT bring it back, waiting for a permit where it is wanted; a lock or unlock begins a lock write,
unless WRITE_ERROR answers STORE_ERROR; BOOST STAGE sets the override and its time. With no other fan available and a
stage of 1 or more in force, LOCK FAN sets NO_VENT, which as a cause takes a zone in NORMAL to DIVERT. In COMMISSION
each is answered WRONG_MODE (R37, R38, R40, R51, R54 to R56, R157, R158, R168). That the failing-check count of a
locked fan stays is the model's choice (log 19). -/
def Obligations.FanRequestsActAtOnce : Prop :=
  ∀ (x m : Byte) (i : Fin 4) (s : State), s.ready = true → s.comms.link.queue.length ≤ 5 →
    (s.operating = false →
      exec (.lockFan x) s = .next (s.replied ⟨3, x, []⟩ ⟨3, .wrongMode, []⟩) ∧
      exec (.unlockFan x) s = .next (s.replied ⟨4, x, []⟩ ⟨4, .wrongMode, []⟩) ∧
      exec (.clearFanFault x) s = .next (s.replied ⟨5, x, []⟩ ⟨5, .wrongMode, []⟩) ∧
      exec (.boostStage x m) s = .next (s.replied ⟨9, x, [m]⟩ ⟨9, .wrongMode, []⟩)) ∧
    (s.operating = true → 4 ≤ x.toNat ∨ (∀ j : Fin 4, x.toNat = j.val → (s.settings.fans.get j).present = false) →
      exec (.lockFan x) s = .next (s.replied ⟨3, x, []⟩ ⟨3, .badIndex, []⟩) ∧
      exec (.unlockFan x) s = .next (s.replied ⟨4, x, []⟩ ⟨4, .badIndex, []⟩) ∧
      exec (.clearFanFault x) s = .next (s.replied ⟨5, x, []⟩ ⟨5, .badIndex, []⟩)) ∧
    (s.operating = true → x.toNat = i.val → (s.settings.fans.get i).present = true → s.comms.fan.noVent = false →
      (∃ j, j ≠ i ∧ available s.settings s.comms.fan j = true) →
      ((s.comms.fanAt i).state = .locked →
        exec (.lockFan x) s = .next (s.replied ⟨3, x, []⟩ ⟨3, .done, []⟩)) ∧
      ((s.comms.fanAt i).state ≠ .locked →
        exec (.unlockFan x) s = .next (s.replied ⟨4, x, []⟩ ⟨4, .done, []⟩)) ∧
      ((s.comms.fanAt i).state ≠ .fault →
        exec (.clearFanFault x) s = .next (s.replied ⟨5, x, []⟩ ⟨5, .notFaulted, []⟩)) ∧
      ((s.comms.fanAt i).state ≠ .locked → s.store.busy = true →
        exec (.lockFan x) s = .next (s.replied ⟨3, x, []⟩ ⟨3, .busy, []⟩)) ∧
      ((s.comms.fanAt i).state ≠ .locked → s.store.busy = false →
        ∃ t, exec (.lockFan x) s = .next t ∧
          t = { s with comms := t.comms, store := t.store, moment := s.moment + 1 } ∧
          t.comms.fanAt i = { s.comms.fanAt i with
            state := .locked, duty := 0, speed := none, cause := none, handover := false,
            hold := .stopped, spinUp := .stopped, check := .stopped } ∧
          t.comms.fan.counters.lockedFans = bump s.comms.fan.counters.lockedFans ∧
          t.comms.fan.release ≠ some i ∧ t.comms.fan.stage = s.comms.fan.stage ∧
          t.comms.service.current = some ⟨⟨3, x, []⟩, ⟨3, if s.store.writeError then .storeError else .done, []⟩⟩ ∧
          t.store = if s.store.writeError then s.store else { s.store with
            status := .lockWrite (lockRecordOf fun j => decide ((t.comms.fanAt j).state = .locked))
            counters := { s.store.counters with lockWrites := bump s.store.counters.lockWrites } }) ∧
      ((s.comms.fanAt i).state = .locked → s.store.busy = false →
        ∃ t, exec (.unlockFan x) s = .next t ∧
          t = { s with comms := t.comms, store := t.store, moment := s.moment + 1 } ∧
          (t.comms.fanAt i).duty = (if (t.comms.fanAt i).driveOn then stageDuty s.settings s.comms.fan.stage
            else (s.comms.fanAt i).duty) ∧
          (s.comms.link.state = .active → s.comms.fan.release = none → (t.comms.fanAt i).state =
            if i ∈ wantedSet s.settings t.comms.fan then .waitPermit else .stopped) ∧
          t.comms.fan.counters.lockedFans = s.comms.fan.counters.lockedFans ∧
          t.comms.service.current = some ⟨⟨4, x, []⟩, ⟨4, if s.store.writeError then .storeError else .done, []⟩⟩ ∧
          t.store = if s.store.writeError then s.store else { s.store with
            status := .lockWrite (lockRecordOf fun j => decide ((t.comms.fanAt j).state = .locked))
            counters := { s.store.counters with lockWrites := bump s.store.counters.lockWrites } }) ∧
      ((s.comms.fanAt i).state = .fault →
        ∃ t, exec (.clearFanFault x) s = .next t ∧ t = { s with comms := t.comms, moment := s.moment + 1 } ∧
          (t.comms.fanAt i).cause = none ∧
          (s.comms.link.state = .active → s.comms.fan.release = none → (t.comms.fanAt i).state =
            if i ∈ wantedSet s.settings t.comms.fan then .waitPermit else .stopped) ∧
          t.comms.service.current = some ⟨⟨5, x, []⟩, ⟨5, .done, []⟩⟩)) ∧
    (s.operating = true → x.toNat = i.val → (s.settings.fans.get i).present = true → s.comms.fan.noVent = false →
      (∀ j, j ≠ i → available s.settings s.comms.fan j = false) → (s.comms.fanAt i).state ≠ .locked →
      s.store.busy = false → 1 ≤ s.comms.fan.stage → demand s.env s.comms.fan = s.comms.fan.stage →
      ∃ t, exec (.lockFan x) s = .next t ∧ t.mode = s.mode ∧ t.settings = s.settings ∧ t.fume = s.fume ∧
        (t.comms.fanAt i).state = .locked ∧ (t.comms.fanAt i).duty = 0 ∧
        t.comms.fan.noVent = true ∧ t.zone.ventCause = true ∧
        (s.grave = false → s.zone.purgeIn = false → s.zone.fsLast < s.settings.alarmOn → t.zone.state = .divert) ∧
        t.comms.service.current = some ⟨⟨3, x, []⟩, ⟨3, if s.store.writeError then .storeError else .done, []⟩⟩) ∧
    (s.operating = true → s.vented = true →
      (1 ≤ x.toNat → x.toNat ≤ 3 → 1 ≤ m.toNat → m.toNat ≤ 240 →
        ∃ t, exec (.boostStage x m) s = .next t ∧ t = { s with comms := t.comms, moment := s.moment + 1 } ∧
          t.comms.fan.boost = some ⟨x.toNat, 60000 * m.toNat⟩ ∧
          t.comms.fan.stage = stageAfter s.env { s.comms.fan with boost := some ⟨x.toNat, 60000 * m.toNat⟩ } ∧
          t.comms.fan.lead = s.comms.fan.lead ∧
          t.comms.service.current = some ⟨⟨9, x, [m]⟩, ⟨9, .done, []⟩⟩) ∧
      (x.toNat = 0 ∨ 3 < x.toNat ∨ m.toNat = 0 ∨ 240 < m.toNat →
        exec (.boostStage x m) s = .next (s.replied ⟨9, x, [m]⟩ ⟨9, .badIndex, []⟩)))

/-- CLEAR HEAD FAULT sends a head in DRIFT or OPEN back to WARMING with a fresh timer and the configured zero; CLEAR
DETECTOR makes a bay in FAULT UNKNOWN with its counts at 0, and a lane in FAULT decode afresh from CLEAR with the
stuck timer of each active loop running; one not in fault is answered NOT_FAULTED; an index out of range, an absent
head, a bay unused or closed, a lane not in use and a selector that names neither kind are answered BAD_INDEX; in
COMMISSION each is answered WRONG_MODE (R16, R110, R115, R179). -/
def Obligations.HeadsAndDetectorsAreCleared : Prop :=
  ∀ (x : Byte) (h p : Fin 4) (b : Fin 48) (s : State), s.ready = true →
    (s.operating = false →
      exec (.clearHeadFault x) s = .next (s.replied ⟨6, x, []⟩ ⟨6, .wrongMode, []⟩) ∧
      ∀ d, exec (.clearDetector x d) s = .next (s.replied ⟨7, x, [d]⟩ ⟨7, .wrongMode, []⟩)) ∧
    (s.operating = true →
      ((∀ k : Fin 4, x.toNat = k.val → (s.settings.heads.get k).present = false) →
        exec (.clearHeadFault x) s = .next (s.replied ⟨6, x, []⟩ ⟨6, .badIndex, []⟩)) ∧
      ((∀ c : Fin 48, x.toNat = c.val →
          (s.settings.bays.get c).inUse = false ∨ (s.settings.bays.get c).closed = true) →
        exec (.clearDetector x 0) s = .next (s.replied ⟨7, x, [0]⟩ ⟨7, .badIndex, []⟩)) ∧
      ((∀ q : Fin 4, x.toNat = q.val → (s.settings.ports.get q).owned = false) →
        exec (.clearDetector x 1) s = .next (s.replied ⟨7, x, [1]⟩ ⟨7, .badIndex, []⟩)) ∧
      ∀ d, d ≠ 0 → d ≠ 1 → exec (.clearDetector x d) s = .next (s.replied ⟨7, x, [d]⟩ ⟨7, .badIndex, []⟩)) ∧
    (s.operating = true → x.toNat = h.val → (s.settings.heads.get h).present = true →
      ((s.gas.heads.get h).faulted = true →
        ∃ t, exec (.clearHeadFault x) s = .next t ∧
          t = { s.replied ⟨6, x, []⟩ ⟨6, .done, []⟩ with gas := t.gas } ∧
          t.gas.heads.get h =
            ⟨.warming, none, (s.settings.heads.get h).zc, 0, .running 60000, .stopped, .stopped⟩ ∧
          ∀ k, k ≠ h → t.gas.heads.get k = s.gas.heads.get k) ∧
      ((s.gas.heads.get h).faulted = false →
        exec (.clearHeadFault x) s = .next (s.replied ⟨6, x, []⟩ ⟨6, .notFaulted, []⟩))) ∧
    (s.operating = true → x.toNat = b.val → (s.settings.bays.get b).inUse = true →
      (s.settings.bays.get b).closed = false →
      (s.bayState b = .fault →
        ∃ t, exec (.clearDetector x 0) s = .next t ∧
          t = { s.replied ⟨7, x, [0]⟩ ⟨7, .done, []⟩ with
            scanner := { s.scanner with bays := s.scanner.bays.set b (t.scanner.bays.get b) } } ∧
          (t.scanner.bays.get b).state = .unknown ∧ (t.scanner.bays.get b).candidate = none ∧
          (t.scanner.bays.get b).agreeing = 0 ∧ (t.scanner.bays.get b).noAnswer = 0 ∧
          (t.scanner.bays.get b).indicator = .dark) ∧
      (s.bayState b ≠ .fault →
        exec (.clearDetector x 0) s = .next (s.replied ⟨7, x, [0]⟩ ⟨7, .notFaulted, []⟩))) ∧
    (s.operating = true → x.toNat = p.val → (s.settings.ports.get p).owned = true →
      ((s.laneAt p).state = .fault →
        ∃ t, exec (.clearDetector x 1) s = .next t ∧
          t = { s.replied ⟨7, x, [1]⟩ ⟨7, .done, []⟩ with
            scanner := { s.scanner with lanes := s.scanner.lanes.set p (t.laneAt p) }, lamps := t.lamps } ∧
          t.laneAt p = ⟨(s.laneAt p).loops, .clear,
            if anyActive (s.laneAt p).loops then .running (1000 * s.settings.queueTime) else .stopped, false,
            if (s.laneAt p).loops.a then .running 300000 else .stopped,
            if (s.laneAt p).loops.b then .running 300000 else .stopped⟩ ∧
          (anyActive (s.laneAt p).loops = false → t.lamps = s.lamps)) ∧
      ((s.laneAt p).state ≠ .fault →
        exec (.clearDetector x 1) s = .next (s.replied ⟨7, x, [1]⟩ ⟨7, .notFaulted, []⟩)))

/-- CLEAR STORE ERROR clears WRITE_ERROR, or is answered BUSY or NOT_FAULTED; in COMMISSION, with the store READY,
CONFIG WRITE puts 8 bytes into the staging buffer, CONFIG READ answers 8 of them, and CONFIG COMMIT starts the write
of a valid image, or answers STORE_ERROR under WRITE_ERROR, or BAD_CONFIG with the offset of the first field that
fails, counted; each is answered BUSY while the store is, an offset past the image BAD_INDEX, and a write or commit
while OPERATING WRONG_MODE; RESTART is answered DONE and leaves the responder restart-pending (R169 to R172, R174,
R175, R178). Which offset is reported where the manual leaves that open is the model's choice (log 16). -/
def Obligations.StoreRequestsAndRestartAreAnswered : Prop :=
  ∀ (x : Byte) (data : Tbl 8 Byte) (s : State), s.ready = true →
    exec .clearStoreError s =
      (if s.store.busy then .next (s.replied ⟨8, 0, []⟩ ⟨8, .busy, []⟩)
        else if s.store.writeError then .next { s.replied ⟨8, 0, []⟩ ⟨8, .done, []⟩ with
          store := { s.store with writeError := false } }
        else .next (s.replied ⟨8, 0, []⟩ ⟨8, .notFaulted, []⟩)) ∧
    (∃ t, exec .restart s = .next t ∧
      t = { s.replied ⟨10, 0, []⟩ ⟨10, .done, []⟩ with
        comms := { (s.replied ⟨10, 0, []⟩ ⟨10, .done, []⟩).comms with service :=
          ⟨[], some ⟨⟨10, 0, []⟩, ⟨10, .done, []⟩⟩, true⟩ } }) ∧
    (s.operating = true →
      exec (.configWrite x data) s = .next (s.replied ⟨11, x, data.cells⟩ ⟨11, .wrongMode, []⟩) ∧
      exec .configCommit s = .next (s.replied ⟨13, 0, []⟩ ⟨13, .wrongMode, [0, 0]⟩)) ∧
    (x.toNat % 2 = 1 ∨ 126 < x.toNat →
      exec (.configRead x) s = .next (s.replied ⟨12, x, []⟩ ⟨12, .badIndex, List.replicate 8 0⟩)) ∧
    (x.toNat % 2 = 0 → x.toNat ≤ 126 → s.operating = true ∨ s.store.busy = false →
      exec (.configRead x) s = .next (s.replied ⟨12, x, []⟩
        ⟨12, .done, ((if s.operating then s.store.loaded else s.store.staging).cells.drop (4 * x.toNat)).take 8⟩)) ∧
    (s.operating = false → x.toNat % 2 = 1 ∨ 126 < x.toNat →
      exec (.configWrite x data) s = .next (s.replied ⟨11, x, data.cells⟩ ⟨11, .badIndex, []⟩)) ∧
    (s.operating = false → s.store.busy = true →
      exec .configCommit s = .next (s.replied ⟨13, 0, []⟩ ⟨13, .busy, [0, 0]⟩) ∧
      (x.toNat % 2 = 0 → x.toNat ≤ 126 →
        exec (.configWrite x data) s = .next (s.replied ⟨11, x, data.cells⟩ ⟨11, .busy, []⟩) ∧
        exec (.configRead x) s = .next (s.replied ⟨12, x, []⟩ ⟨12, .busy, List.replicate 8 0⟩))) ∧
    (s.operating = false → s.store.busy = false → s.store.writeError = true →
      exec .configCommit s = .next (s.replied ⟨13, 0, []⟩ ⟨13, .storeError, [0, 0]⟩)) ∧
    (s.operating = false → s.store.busy = false → x.toNat % 2 = 0 → x.toNat ≤ 126 →
      ∃ t, exec (.configWrite x data) s = .next t ∧
        t = { s.replied ⟨11, x, data.cells⟩ ⟨11, .done, []⟩ with
          store := { s.store with staging := t.store.staging } } ∧
        (∀ j : Fin 512, ∀ k : Fin 8, j.val = 4 * x.toNat + k.val → t.store.staging.get j = data.get k) ∧
        ∀ j : Fin 512, j.val < 4 * x.toNat ∨ 4 * x.toNat + 8 ≤ j.val →
          t.store.staging.get j = s.store.staging.get j) ∧
    (s.operating = false → s.store.busy = false → s.store.writeError = false →
      (firstFailure s.store.staging = none → exec .configCommit s =
        .next { s.replied ⟨13, 0, []⟩ ⟨13, .done, [0, 0]⟩ with store := { s.store with status := .commitWrite } }) ∧
      (∀ o, firstFailure s.store.staging = some o → exec .configCommit s =
        .next { s.replied ⟨13, 0, []⟩ ⟨13, .badConfig, [byte (o / 256), byte o]⟩ with
          store := { s.store with counters := { s.store.counters with
            configRefused := bump s.store.counters.configRefused } } }))

/-- A lock write that reads back as it was written leaves that record and a READY store; a commit write that reads back
as the staging buffer leaves it stored, with a restart to come once its reply has ended; either that reads back
differently sets WRITE_ERROR, counted, and a failed commit leaves the stored image not valid (R168, R172, R174). -/
def Obligations.StoreWritesAreReadBack : Prop :=
  ∀ (written readBack : LockRecord) (image : Image) (s : State), s.atRest = true →
    (s.store.status = .lockWrite written →
      exec (.lockWriteEnd readBack) s = .next { s with
        store := if readBack = written then { s.store with lockRecord := written, status := .ready }
          else { s.store with
            lockRecord := readBack, status := .ready, writeError := true
            counters := { s.store.counters with writeFailures := bump s.store.counters.writeFailures } }
        moment := s.moment + 1 }) ∧
    (s.store.status = .commitWrite →
      ∃ t, exec (.commitWriteEnd image) s = .next t ∧ t = { s with store := t.store, moment := s.moment + 1 } ∧
        t.store.staging = s.store.staging ∧ t.store.lockRecord = s.store.lockRecord ∧
        (image = s.store.staging → t.store.stored = s.store.staging ∧
          t.store.writeError = s.store.writeError ∧ t.store.counters = s.store.counters ∧
          (s.comms.service.current = none → t.restartDue = true)) ∧
        (image ≠ s.store.staging → t.store.busy = false ∧ t.store.writeError = true ∧ t.store.storedValid = false ∧
          t.store.counters.writeFailures = bump s.store.counters.writeFailures))

/-- The station right after reset meets every rule of the whole machine that a step is said to keep, and stands in
COMMISSION, the link OFF, the fans off, the store READY. That no valid image stands there is the model's choice (log
5). -/
def Obligations.ResetMeetsTheRules : Prop :=
  State.reset.headsSound ∧ State.reset.scoresSound ∧ State.reset.effectiveSound ∧ State.reset.dutiesSound ∧
    State.reset.stageSound ∧ State.reset.listsSound ∧ State.reset.holdsSound ∧ State.reset.advertSound ∧
    State.reset.queueSound ∧ State.reset.lampsSound ∧ State.reset.leadInSound ∧ State.reset.guidanceFormed ∧
    State.reset.atRest = true ∧ State.reset.mode = .commission ∧
    State.reset.comms.link.state = .off ∧ (∀ i, (State.reset.comms.fanAt i).driveOn = false) ∧
    State.reset.store.busy = false ∧ State.reset.pending = []
end

