-- ==== Sys2Proof/Laws/State.lean ====
section
/-! SUPPORT. One lemma for each record update: every field it leaves, and the ones it sets. A conjunction tagged simp
gives simp each of its parts. -/

namespace Sys2Proof.Machine

@[simp] theorem State.onComms_fields (s : State) (f : Env → Comms → Comms) :
    (s.onComms f).mode = s.mode ∧ (s.onComms f).settings = s.settings ∧ (s.onComms f).now = s.now ∧
    (s.onComms f).moment = s.moment ∧ (s.onComms f).gas = s.gas ∧ (s.onComms f).fume = s.fume ∧
    (s.onComms f).comms = f s.env s.comms ∧ (s.onComms f).peers = s.peers ∧ (s.onComms f).scanner = s.scanner ∧
    (s.onComms f).tracker = s.tracker ∧ (s.onComms f).guide = s.guide ∧ (s.onComms f).lamps = s.lamps ∧
    (s.onComms f).zone = s.zone ∧ (s.onComms f).store = s.store ∧ (s.onComms f).pending = s.pending :=
  ⟨rfl, rfl, rfl, rfl, rfl, rfl, rfl, rfl, rfl, rfl, rfl, rfl, rfl, rfl, rfl⟩

@[simp] theorem State.countLink_fields (s : State) (f : LinkCounters → LinkCounters) :
    (s.countLink f).mode = s.mode ∧ (s.countLink f).settings = s.settings ∧ (s.countLink f).now = s.now ∧
    (s.countLink f).moment = s.moment ∧ (s.countLink f).gas = s.gas ∧ (s.countLink f).fume = s.fume ∧
    (s.countLink f).comms = s.comms.countLink f ∧ (s.countLink f).peers = s.peers ∧
    (s.countLink f).scanner = s.scanner ∧ (s.countLink f).tracker = s.tracker ∧ (s.countLink f).guide = s.guide ∧
    (s.countLink f).lamps = s.lamps ∧ (s.countLink f).zone = s.zone ∧ (s.countLink f).store = s.store ∧
    (s.countLink f).pending = s.pending :=
  ⟨rfl, rfl, rfl, rfl, rfl, rfl, rfl, rfl, rfl, rfl, rfl, rfl, rfl, rfl, rfl⟩

@[simp] theorem State.countPeer_fields (s : State) (f : PeerCounters → PeerCounters) :
    (s.countPeer f).mode = s.mode ∧ (s.countPeer f).settings = s.settings ∧ (s.countPeer f).now = s.now ∧
    (s.countPeer f).moment = s.moment ∧ (s.countPeer f).gas = s.gas ∧ (s.countPeer f).fume = s.fume ∧
    (s.countPeer f).comms = s.comms.countPeer f ∧ (s.countPeer f).peers = s.peers ∧
    (s.countPeer f).scanner = s.scanner ∧ (s.countPeer f).tracker = s.tracker ∧ (s.countPeer f).guide = s.guide ∧
    (s.countPeer f).lamps = s.lamps ∧ (s.countPeer f).zone = s.zone ∧ (s.countPeer f).store = s.store ∧
    (s.countPeer f).pending = s.pending :=
  ⟨rfl, rfl, rfl, rfl, rfl, rfl, rfl, rfl, rfl, rfl, rfl, rfl, rfl, rfl, rfl⟩

@[simp] theorem State.otherFrame_fields (s : State) :
    (s.otherFrame).mode = s.mode ∧ (s.otherFrame).settings = s.settings ∧ (s.otherFrame).now = s.now ∧
    (s.otherFrame).moment = s.moment ∧ (s.otherFrame).gas = s.gas ∧ (s.otherFrame).fume = s.fume ∧
    (s.otherFrame).peers = s.peers ∧ (s.otherFrame).scanner = s.scanner ∧ (s.otherFrame).tracker = s.tracker ∧
    (s.otherFrame).guide = s.guide ∧ (s.otherFrame).lamps = s.lamps ∧ (s.otherFrame).zone = s.zone ∧
    (s.otherFrame).store = s.store ∧ (s.otherFrame).pending = s.pending :=
  ⟨rfl, rfl, rfl, rfl, rfl, rfl, rfl, rfl, rfl, rfl, rfl, rfl, rfl, rfl⟩

@[simp] theorem State.popRequest_fields (s : State) (rest : List Request) :
    (s.popRequest rest).mode = s.mode ∧ (s.popRequest rest).settings = s.settings ∧ (s.popRequest rest).now = s.now ∧
    (s.popRequest rest).moment = s.moment ∧ (s.popRequest rest).gas = s.gas ∧ (s.popRequest rest).fume = s.fume ∧
    (s.popRequest rest).peers = s.peers ∧ (s.popRequest rest).scanner = s.scanner ∧
    (s.popRequest rest).tracker = s.tracker ∧ (s.popRequest rest).guide = s.guide ∧
    (s.popRequest rest).lamps = s.lamps ∧ (s.popRequest rest).zone = s.zone ∧ (s.popRequest rest).store = s.store ∧
    (s.popRequest rest).pending = s.pending :=
  ⟨rfl, rfl, rfl, rfl, rfl, rfl, rfl, rfl, rfl, rfl, rfl, rfl, rfl, rfl⟩

@[simp] theorem State.keepCurrent_fields (s : State) (r : Request) (reply : Reply) :
    (s.keepCurrent r reply).mode = s.mode ∧ (s.keepCurrent r reply).settings = s.settings ∧
    (s.keepCurrent r reply).now = s.now ∧ (s.keepCurrent r reply).moment = s.moment ∧
    (s.keepCurrent r reply).gas = s.gas ∧ (s.keepCurrent r reply).fume = s.fume ∧
    (s.keepCurrent r reply).peers = s.peers ∧ (s.keepCurrent r reply).scanner = s.scanner ∧
    (s.keepCurrent r reply).tracker = s.tracker ∧ (s.keepCurrent r reply).guide = s.guide ∧
    (s.keepCurrent r reply).lamps = s.lamps ∧ (s.keepCurrent r reply).zone = s.zone ∧
    (s.keepCurrent r reply).store = s.store ∧ (s.keepCurrent r reply).pending = s.pending :=
  ⟨rfl, rfl, rfl, rfl, rfl, rfl, rfl, rfl, rfl, rfl, rfl, rfl, rfl, rfl⟩

@[simp] theorem State.requested_fields (s : State) (kind argument : Byte) (data : List Byte) :
    (s.requested kind argument data).mode = s.mode ∧ (s.requested kind argument data).settings = s.settings ∧
    (s.requested kind argument data).now = s.now ∧ (s.requested kind argument data).moment = s.moment ∧
    (s.requested kind argument data).gas = s.gas ∧ (s.requested kind argument data).fume = s.fume ∧
    (s.requested kind argument data).comms = s.comms.enterRequest ⟨kind, argument, data⟩ ∧
    (s.requested kind argument data).peers = s.peers ∧ (s.requested kind argument data).scanner = s.scanner ∧
    (s.requested kind argument data).tracker = s.tracker ∧ (s.requested kind argument data).guide = s.guide ∧
    (s.requested kind argument data).lamps = s.lamps ∧ (s.requested kind argument data).zone = s.zone ∧
    (s.requested kind argument data).store = s.store ∧ (s.requested kind argument data).pending = s.pending :=
  ⟨rfl, rfl, rfl, rfl, rfl, rfl, rfl, rfl, rfl, rfl, rfl, rfl, rfl, rfl, rfl⟩

@[simp] theorem State.reworkDemand_fields (s : State) :
    (s.reworkDemand).mode = s.mode ∧ (s.reworkDemand).settings = s.settings ∧ (s.reworkDemand).now = s.now ∧
    (s.reworkDemand).moment = s.moment ∧ (s.reworkDemand).gas = s.gas ∧ (s.reworkDemand).fume = s.fume ∧
    (s.reworkDemand).comms = Machine.reworkDemand s.env s.comms ∧ (s.reworkDemand).peers = s.peers ∧
    (s.reworkDemand).scanner = s.scanner ∧ (s.reworkDemand).tracker = s.tracker ∧ (s.reworkDemand).guide = s.guide ∧
    (s.reworkDemand).lamps = s.lamps ∧ (s.reworkDemand).zone = s.zone ∧ (s.reworkDemand).store = s.store ∧
    (s.reworkDemand).pending = s.pending :=
  ⟨rfl, rfl, rfl, rfl, rfl, rfl, rfl, rfl, rfl, rfl, rfl, rfl, rfl, rfl, rfl⟩

@[simp] theorem State.reportEvent_fields (s : State) :
    (s.reportEvent).mode = s.mode ∧ (s.reportEvent).settings = s.settings ∧ (s.reportEvent).now = s.now ∧
    (s.reportEvent).moment = s.moment ∧ (s.reportEvent).gas = s.gas ∧ (s.reportEvent).fume = s.fume ∧
    (s.reportEvent).comms = Machine.reportEvent s.env s.comms ∧ (s.reportEvent).peers = s.peers ∧
    (s.reportEvent).scanner = s.scanner ∧ (s.reportEvent).tracker = s.tracker ∧ (s.reportEvent).guide = s.guide ∧
    (s.reportEvent).lamps = s.lamps ∧ (s.reportEvent).zone = s.zone ∧ (s.reportEvent).store = s.store ∧
    (s.reportEvent).pending = s.pending :=
  ⟨rfl, rfl, rfl, rfl, rfl, rfl, rfl, rfl, rfl, rfl, rfl, rfl, rfl, rfl, rfl⟩

@[simp] theorem State.countBay_fields (s : State) (f : BayCounters → BayCounters) :
    (s.countBay f).mode = s.mode ∧ (s.countBay f).settings = s.settings ∧ (s.countBay f).now = s.now ∧
    (s.countBay f).moment = s.moment ∧ (s.countBay f).gas = s.gas ∧ (s.countBay f).fume = s.fume ∧
    (s.countBay f).comms = s.comms ∧ (s.countBay f).peers = s.peers ∧ (s.countBay f).tracker = s.tracker ∧
    (s.countBay f).guide = s.guide ∧ (s.countBay f).lamps = s.lamps ∧ (s.countBay f).zone = s.zone ∧
    (s.countBay f).store = s.store ∧ (s.countBay f).pending = s.pending :=
  ⟨rfl, rfl, rfl, rfl, rfl, rfl, rfl, rfl, rfl, rfl, rfl, rfl, rfl, rfl⟩

@[simp] theorem State.countBay_scanner (s : State) (f : BayCounters → BayCounters) :
    ((s.countBay f).scanner).bays = s.scanner.bays ∧ ((s.countBay f).scanner).lanes = s.scanner.lanes ∧
    ((s.countBay f).scanner).scan = s.scanner.scan ∧ ((s.countBay f).scanner).polls = s.scanner.polls ∧
    ((s.countBay f).scanner).flash = s.scanner.flash ∧ ((s.countBay f).scanner).flashOn = s.scanner.flashOn ∧
    ((s.countBay f).scanner).counters = f s.scanner.counters :=
  ⟨rfl, rfl, rfl, rfl, rfl, rfl, rfl⟩

@[simp] theorem State.setBay_fields (s : State) (i : Fin 48) (f : Bay → Bay) :
    (s.setBay i f).mode = s.mode ∧ (s.setBay i f).settings = s.settings ∧ (s.setBay i f).now = s.now ∧
    (s.setBay i f).moment = s.moment ∧ (s.setBay i f).gas = s.gas ∧ (s.setBay i f).fume = s.fume ∧
    (s.setBay i f).comms = s.comms ∧ (s.setBay i f).peers = s.peers ∧ (s.setBay i f).tracker = s.tracker ∧
    (s.setBay i f).guide = s.guide ∧ (s.setBay i f).lamps = s.lamps ∧ (s.setBay i f).zone = s.zone ∧
    (s.setBay i f).store = s.store ∧ (s.setBay i f).pending = s.pending :=
  ⟨rfl, rfl, rfl, rfl, rfl, rfl, rfl, rfl, rfl, rfl, rfl, rfl, rfl, rfl⟩

@[simp] theorem State.setBay_scanner (s : State) (i : Fin 48) (f : Bay → Bay) :
    ((s.setBay i f).scanner).lanes = s.scanner.lanes ∧ ((s.setBay i f).scanner).scan = s.scanner.scan ∧
    ((s.setBay i f).scanner).polls = s.scanner.polls ∧ ((s.setBay i f).scanner).flash = s.scanner.flash ∧
    ((s.setBay i f).scanner).flashOn = s.scanner.flashOn ∧ ((s.setBay i f).scanner).counters = s.scanner.counters :=
  ⟨rfl, rfl, rfl, rfl, rfl, rfl⟩

@[simp] theorem State.reformIndicators_fields (s : State) :
    (s.reformIndicators).mode = s.mode ∧ (s.reformIndicators).settings = s.settings ∧
    (s.reformIndicators).now = s.now ∧ (s.reformIndicators).moment = s.moment ∧ (s.reformIndicators).gas = s.gas ∧
    (s.reformIndicators).fume = s.fume ∧ (s.reformIndicators).comms = s.comms ∧
    (s.reformIndicators).peers = s.peers ∧ (s.reformIndicators).tracker = s.tracker ∧
    (s.reformIndicators).guide = s.guide ∧ (s.reformIndicators).lamps = s.lamps ∧
    (s.reformIndicators).zone = s.zone ∧ (s.reformIndicators).store = s.store ∧
    (s.reformIndicators).pending = s.pending :=
  ⟨rfl, rfl, rfl, rfl, rfl, rfl, rfl, rfl, rfl, rfl, rfl, rfl, rfl, rfl⟩

@[simp] theorem State.reformIndicators_scanner (s : State) :
    ((s.reformIndicators).scanner).lanes = s.scanner.lanes ∧ ((s.reformIndicators).scanner).scan = s.scanner.scan ∧
    ((s.reformIndicators).scanner).polls = s.scanner.polls ∧ ((s.reformIndicators).scanner).flash = s.scanner.flash ∧
    ((s.reformIndicators).scanner).flashOn = s.scanner.flashOn ∧
    ((s.reformIndicators).scanner).counters = s.scanner.counters :=
  ⟨rfl, rfl, rfl, rfl, rfl, rfl⟩

@[simp] theorem State.beginScan_fields (s : State) :
    (s.beginScan).mode = s.mode ∧ (s.beginScan).settings = s.settings ∧ (s.beginScan).now = s.now ∧
    (s.beginScan).moment = s.moment ∧ (s.beginScan).gas = s.gas ∧ (s.beginScan).fume = s.fume ∧
    (s.beginScan).comms = s.comms ∧ (s.beginScan).peers = s.peers ∧ (s.beginScan).tracker = s.tracker ∧
    (s.beginScan).guide = s.guide ∧ (s.beginScan).lamps = s.lamps ∧ (s.beginScan).zone = s.zone ∧
    (s.beginScan).store = s.store ∧ (s.beginScan).pending = s.pending :=
  ⟨rfl, rfl, rfl, rfl, rfl, rfl, rfl, rfl, rfl, rfl, rfl, rfl, rfl, rfl⟩

@[simp] theorem State.beginScan_scanner (s : State) :
    ((s.beginScan).scanner).lanes = s.scanner.lanes ∧ ((s.beginScan).scanner).flash = s.scanner.flash ∧
    ((s.beginScan).scanner).flashOn = s.scanner.flashOn ∧ ((s.beginScan).scanner).counters = s.scanner.counters :=
  ⟨rfl, rfl, rfl, rfl⟩

@[simp] theorem State.polled_fields (s : State) (b : Fin 48) :
    (s.polled b).mode = s.mode ∧ (s.polled b).settings = s.settings ∧ (s.polled b).now = s.now ∧
    (s.polled b).moment = s.moment ∧ (s.polled b).gas = s.gas ∧ (s.polled b).fume = s.fume ∧
    (s.polled b).comms = s.comms ∧ (s.polled b).peers = s.peers ∧ (s.polled b).tracker = s.tracker ∧
    (s.polled b).guide = s.guide ∧ (s.polled b).lamps = s.lamps ∧ (s.polled b).zone = s.zone ∧
    (s.polled b).store = s.store ∧ (s.polled b).pending = s.pending :=
  ⟨rfl, rfl, rfl, rfl, rfl, rfl, rfl, rfl, rfl, rfl, rfl, rfl, rfl, rfl⟩

@[simp] theorem State.polled_scanner (s : State) (b : Fin 48) :
    ((s.polled b).scanner).bays = s.scanner.bays ∧ ((s.polled b).scanner).lanes = s.scanner.lanes ∧
    ((s.polled b).scanner).scan = s.scanner.scan ∧ ((s.polled b).scanner).polls = s.scanner.polls.erase b ∧
    ((s.polled b).scanner).flash = s.scanner.flash ∧ ((s.polled b).scanner).flashOn = s.scanner.flashOn ∧
    ((s.polled b).scanner).counters = s.scanner.counters :=
  ⟨rfl, rfl, rfl, rfl, rfl, rfl, rfl⟩

@[simp] theorem State.toggleFlash_fields (s : State) :
    (s.toggleFlash).mode = s.mode ∧ (s.toggleFlash).settings = s.settings ∧ (s.toggleFlash).now = s.now ∧
    (s.toggleFlash).moment = s.moment ∧ (s.toggleFlash).gas = s.gas ∧ (s.toggleFlash).fume = s.fume ∧
    (s.toggleFlash).comms = s.comms ∧ (s.toggleFlash).peers = s.peers ∧ (s.toggleFlash).tracker = s.tracker ∧
    (s.toggleFlash).guide = s.guide ∧ (s.toggleFlash).lamps = s.lamps ∧ (s.toggleFlash).zone = s.zone ∧
    (s.toggleFlash).store = s.store ∧ (s.toggleFlash).pending = s.pending :=
  ⟨rfl, rfl, rfl, rfl, rfl, rfl, rfl, rfl, rfl, rfl, rfl, rfl, rfl, rfl⟩

@[simp] theorem State.toggleFlash_scanner (s : State) :
    ((s.toggleFlash).scanner).lanes = s.scanner.lanes ∧ ((s.toggleFlash).scanner).scan = s.scanner.scan ∧
    ((s.toggleFlash).scanner).polls = s.scanner.polls ∧ ((s.toggleFlash).scanner).counters = s.scanner.counters :=
  ⟨rfl, rfl, rfl, rfl⟩

@[simp] theorem State.clearBay_fields (s : State) (b : Fin 48) :
    (s.clearBay b).mode = s.mode ∧ (s.clearBay b).settings = s.settings ∧ (s.clearBay b).now = s.now ∧
    (s.clearBay b).moment = s.moment ∧ (s.clearBay b).gas = s.gas ∧ (s.clearBay b).fume = s.fume ∧
    (s.clearBay b).comms = s.comms ∧ (s.clearBay b).peers = s.peers ∧ (s.clearBay b).tracker = s.tracker ∧
    (s.clearBay b).guide = s.guide ∧ (s.clearBay b).lamps = s.lamps ∧ (s.clearBay b).zone = s.zone ∧
    (s.clearBay b).store = s.store ∧ (s.clearBay b).pending = s.pending :=
  ⟨rfl, rfl, rfl, rfl, rfl, rfl, rfl, rfl, rfl, rfl, rfl, rfl, rfl, rfl⟩

@[simp] theorem State.clearBay_scanner (s : State) (b : Fin 48) :
    ((s.clearBay b).scanner).lanes = s.scanner.lanes ∧ ((s.clearBay b).scanner).scan = s.scanner.scan ∧
    ((s.clearBay b).scanner).polls = s.scanner.polls ∧ ((s.clearBay b).scanner).flash = s.scanner.flash ∧
    ((s.clearBay b).scanner).flashOn = s.scanner.flashOn ∧ ((s.clearBay b).scanner).counters = s.scanner.counters :=
  ⟨rfl, rfl, rfl, rfl, rfl, rfl⟩

@[simp] theorem State.setLane_fields (s : State) (p : Fin 4) (l : Lane) :
    (s.setLane p l).mode = s.mode ∧ (s.setLane p l).settings = s.settings ∧ (s.setLane p l).now = s.now ∧
    (s.setLane p l).moment = s.moment ∧ (s.setLane p l).gas = s.gas ∧ (s.setLane p l).fume = s.fume ∧
    (s.setLane p l).comms = s.comms ∧ (s.setLane p l).peers = s.peers ∧ (s.setLane p l).tracker = s.tracker ∧
    (s.setLane p l).guide = s.guide ∧ (s.setLane p l).lamps = s.lamps ∧ (s.setLane p l).zone = s.zone ∧
    (s.setLane p l).store = s.store ∧ (s.setLane p l).pending = s.pending :=
  ⟨rfl, rfl, rfl, rfl, rfl, rfl, rfl, rfl, rfl, rfl, rfl, rfl, rfl, rfl⟩

@[simp] theorem State.setLane_scanner (s : State) (p : Fin 4) (l : Lane) :
    ((s.setLane p l).scanner).bays = s.scanner.bays ∧ ((s.setLane p l).scanner).lanes = s.scanner.lanes.set p l ∧
    ((s.setLane p l).scanner).scan = s.scanner.scan ∧ ((s.setLane p l).scanner).polls = s.scanner.polls ∧
    ((s.setLane p l).scanner).flash = s.scanner.flash ∧ ((s.setLane p l).scanner).flashOn = s.scanner.flashOn ∧
    ((s.setLane p l).scanner).counters = s.scanner.counters :=
  ⟨rfl, rfl, rfl, rfl, rfl, rfl, rfl⟩

@[simp] theorem State.countArrival_fields (s : State) (f : ArrivalCounters → ArrivalCounters) :
    (s.countArrival f).mode = s.mode ∧ (s.countArrival f).settings = s.settings ∧ (s.countArrival f).now = s.now ∧
    (s.countArrival f).moment = s.moment ∧ (s.countArrival f).gas = s.gas ∧ (s.countArrival f).fume = s.fume ∧
    (s.countArrival f).comms = s.comms ∧ (s.countArrival f).peers = s.peers ∧
    (s.countArrival f).scanner = s.scanner ∧ (s.countArrival f).guide = s.guide ∧
    (s.countArrival f).lamps = s.lamps ∧ (s.countArrival f).zone = s.zone ∧ (s.countArrival f).store = s.store ∧
    (s.countArrival f).pending = s.pending :=
  ⟨rfl, rfl, rfl, rfl, rfl, rfl, rfl, rfl, rfl, rfl, rfl, rfl, rfl, rfl⟩

@[simp] theorem State.countArrival_tracker (s : State) (f : ArrivalCounters → ArrivalCounters) :
    ((s.countArrival f).tracker).list = s.tracker.list ∧ ((s.countArrival f).tracker).leadIn = s.tracker.leadIn ∧
    ((s.countArrival f).tracker).counters = f s.tracker.counters :=
  ⟨rfl, rfl, rfl⟩

@[simp] theorem State.setList_fields (s : State) (l : List Arrival) :
    (s.setList l).mode = s.mode ∧ (s.setList l).settings = s.settings ∧ (s.setList l).now = s.now ∧
    (s.setList l).moment = s.moment ∧ (s.setList l).gas = s.gas ∧ (s.setList l).fume = s.fume ∧
    (s.setList l).comms = s.comms ∧ (s.setList l).peers = s.peers ∧ (s.setList l).scanner = s.scanner ∧
    (s.setList l).guide = s.guide ∧ (s.setList l).lamps = s.lamps ∧ (s.setList l).zone = s.zone ∧
    (s.setList l).store = s.store ∧ (s.setList l).pending = s.pending :=
  ⟨rfl, rfl, rfl, rfl, rfl, rfl, rfl, rfl, rfl, rfl, rfl, rfl, rfl, rfl⟩

@[simp] theorem State.setList_tracker (s : State) (l : List Arrival) :
    ((s.setList l).tracker).list = l ∧ ((s.setList l).tracker).leadIn = s.tracker.leadIn ∧
    ((s.setList l).tracker).counters = s.tracker.counters :=
  ⟨rfl, rfl, rfl⟩

@[simp] theorem State.countStore_fields (s : State) (f : StoreCounters → StoreCounters) :
    (s.countStore f).mode = s.mode ∧ (s.countStore f).settings = s.settings ∧ (s.countStore f).now = s.now ∧
    (s.countStore f).moment = s.moment ∧ (s.countStore f).gas = s.gas ∧ (s.countStore f).fume = s.fume ∧
    (s.countStore f).comms = s.comms ∧ (s.countStore f).peers = s.peers ∧ (s.countStore f).scanner = s.scanner ∧
    (s.countStore f).tracker = s.tracker ∧ (s.countStore f).guide = s.guide ∧ (s.countStore f).lamps = s.lamps ∧
    (s.countStore f).zone = s.zone ∧ (s.countStore f).pending = s.pending :=
  ⟨rfl, rfl, rfl, rfl, rfl, rfl, rfl, rfl, rfl, rfl, rfl, rfl, rfl, rfl⟩

@[simp] theorem State.beginLockWrite_fields (s : State) :
    (s.beginLockWrite).mode = s.mode ∧ (s.beginLockWrite).settings = s.settings ∧ (s.beginLockWrite).now = s.now ∧
    (s.beginLockWrite).moment = s.moment ∧ (s.beginLockWrite).gas = s.gas ∧ (s.beginLockWrite).fume = s.fume ∧
    (s.beginLockWrite).comms = s.comms ∧ (s.beginLockWrite).peers = s.peers ∧
    (s.beginLockWrite).scanner = s.scanner ∧ (s.beginLockWrite).tracker = s.tracker ∧
    (s.beginLockWrite).guide = s.guide ∧ (s.beginLockWrite).lamps = s.lamps ∧ (s.beginLockWrite).zone = s.zone ∧
    (s.beginLockWrite).pending = s.pending :=
  ⟨rfl, rfl, rfl, rfl, rfl, rfl, rfl, rfl, rfl, rfl, rfl, rfl, rfl, rfl⟩

@[simp] theorem State.onChannel_fields (s : State) (k : Fin 8) (f : Channel → Channel) :
    (s.onChannel k f).mode = s.mode ∧ (s.onChannel k f).settings = s.settings ∧ (s.onChannel k f).now = s.now ∧
    (s.onChannel k f).moment = s.moment ∧ (s.onChannel k f).gas = s.gas ∧ (s.onChannel k f).fume = s.fume ∧
    (s.onChannel k f).comms = s.comms ∧ (s.onChannel k f).peers = s.peers ∧ (s.onChannel k f).scanner = s.scanner ∧
    (s.onChannel k f).tracker = s.tracker ∧ (s.onChannel k f).guide = s.guide ∧ (s.onChannel k f).zone = s.zone ∧
    (s.onChannel k f).store = s.store ∧ (s.onChannel k f).pending = s.pending :=
  ⟨rfl, rfl, rfl, rfl, rfl, rfl, rfl, rfl, rfl, rfl, rfl, rfl, rfl, rfl⟩

@[simp] theorem State.onChannel_lamps (s : State) (k : Fin 8) (f : Channel → Channel) :
    ((s.onChannel k f).lamps).ramp = s.lamps.ramp ∧ ((s.onChannel k f).lamps).counters = s.lamps.counters :=
  ⟨rfl, rfl⟩

@[simp] theorem State.countLamp_fields (s : State) (f : LampCounters → LampCounters) :
    (s.countLamp f).mode = s.mode ∧ (s.countLamp f).settings = s.settings ∧ (s.countLamp f).now = s.now ∧
    (s.countLamp f).moment = s.moment ∧ (s.countLamp f).gas = s.gas ∧ (s.countLamp f).fume = s.fume ∧
    (s.countLamp f).comms = s.comms ∧ (s.countLamp f).peers = s.peers ∧ (s.countLamp f).scanner = s.scanner ∧
    (s.countLamp f).tracker = s.tracker ∧ (s.countLamp f).guide = s.guide ∧ (s.countLamp f).zone = s.zone ∧
    (s.countLamp f).store = s.store ∧ (s.countLamp f).pending = s.pending :=
  ⟨rfl, rfl, rfl, rfl, rfl, rfl, rfl, rfl, rfl, rfl, rfl, rfl, rfl, rfl⟩

@[simp] theorem State.countLamp_lamps (s : State) (f : LampCounters → LampCounters) :
    ((s.countLamp f).lamps).channels = s.lamps.channels ∧ ((s.countLamp f).lamps).ramp = s.lamps.ramp ∧
    ((s.countLamp f).lamps).counters = f s.lamps.counters :=
  ⟨rfl, rfl, rfl⟩

@[simp] theorem State.retargetAll_fields (s : State) :
    (s.retargetAll).mode = s.mode ∧ (s.retargetAll).settings = s.settings ∧ (s.retargetAll).now = s.now ∧
    (s.retargetAll).moment = s.moment ∧ (s.retargetAll).gas = s.gas ∧ (s.retargetAll).fume = s.fume ∧
    (s.retargetAll).comms = s.comms ∧ (s.retargetAll).peers = s.peers ∧ (s.retargetAll).scanner = s.scanner ∧
    (s.retargetAll).tracker = s.tracker ∧ (s.retargetAll).guide = s.guide ∧ (s.retargetAll).zone = s.zone ∧
    (s.retargetAll).store = s.store ∧ (s.retargetAll).pending = s.pending :=
  ⟨rfl, rfl, rfl, rfl, rfl, rfl, rfl, rfl, rfl, rfl, rfl, rfl, rfl, rfl⟩

@[simp] theorem State.retargetAll_lamps (s : State) :
    ((s.retargetAll).lamps).ramp = s.lamps.ramp ∧ ((s.retargetAll).lamps).counters = s.lamps.counters :=
  ⟨rfl, rfl⟩

@[simp] theorem State.setPeer_fields (s : State) (n : Fin 8) (x : Neighbour) :
    (s.setPeer n x).mode = s.mode ∧ (s.setPeer n x).settings = s.settings ∧ (s.setPeer n x).now = s.now ∧
    (s.setPeer n x).moment = s.moment ∧ (s.setPeer n x).gas = s.gas ∧ (s.setPeer n x).fume = s.fume ∧
    (s.setPeer n x).comms = s.comms ∧ (s.setPeer n x).peers = s.peers.set n x ∧ (s.setPeer n x).scanner = s.scanner ∧
    (s.setPeer n x).tracker = s.tracker ∧ (s.setPeer n x).guide = s.guide ∧ (s.setPeer n x).lamps = s.lamps ∧
    (s.setPeer n x).zone = s.zone ∧ (s.setPeer n x).store = s.store ∧ (s.setPeer n x).pending = s.pending :=
  ⟨rfl, rfl, rfl, rfl, rfl, rfl, rfl, rfl, rfl, rfl, rfl, rfl, rfl, rfl, rfl⟩

@[simp] theorem State.onGas_fields (s : State) (f : GasFront → GasFront) :
    (s.onGas f).mode = s.mode ∧ (s.onGas f).settings = s.settings ∧ (s.onGas f).now = s.now ∧
    (s.onGas f).moment = s.moment ∧ (s.onGas f).gas = (f s.gas).arbitrate s.settings ∧ (s.onGas f).fume = s.fume ∧
    (s.onGas f).comms = s.comms ∧ (s.onGas f).peers = s.peers ∧ (s.onGas f).scanner = s.scanner ∧
    (s.onGas f).tracker = s.tracker ∧ (s.onGas f).guide = s.guide ∧ (s.onGas f).lamps = s.lamps ∧
    (s.onGas f).zone = s.zone ∧ (s.onGas f).store = s.store ∧ (s.onGas f).pending = s.pending :=
  ⟨rfl, rfl, rfl, rfl, rfl, rfl, rfl, rfl, rfl, rfl, rfl, rfl, rfl, rfl, rfl⟩

@[simp] theorem State.reformBest_fields (s : State) :
    (s.reformBest).mode = s.mode ∧ (s.reformBest).settings = s.settings ∧ (s.reformBest).now = s.now ∧
    (s.reformBest).moment = s.moment ∧ (s.reformBest).gas = s.gas ∧ (s.reformBest).fume = s.fume ∧
    (s.reformBest).comms = s.comms ∧ (s.reformBest).peers = s.peers ∧ (s.reformBest).scanner = s.scanner ∧
    (s.reformBest).tracker = s.tracker ∧ (s.reformBest).lamps = s.lamps ∧ (s.reformBest).zone = s.zone ∧
    (s.reformBest).store = s.store ∧ (s.reformBest).pending = s.pending :=
  ⟨rfl, rfl, rfl, rfl, rfl, rfl, rfl, rfl, rfl, rfl, rfl, rfl, rfl, rfl⟩

@[simp] theorem State.reformSigns_fields (s : State) :
    (s.reformSigns).mode = s.mode ∧ (s.reformSigns).settings = s.settings ∧ (s.reformSigns).now = s.now ∧
    (s.reformSigns).moment = s.moment ∧ (s.reformSigns).gas = s.gas ∧ (s.reformSigns).fume = s.fume ∧
    (s.reformSigns).comms = s.comms ∧ (s.reformSigns).peers = s.peers ∧ (s.reformSigns).scanner = s.scanner ∧
    (s.reformSigns).tracker = s.tracker ∧ (s.reformSigns).lamps = s.lamps ∧ (s.reformSigns).zone = s.zone ∧
    (s.reformSigns).store = s.store ∧ (s.reformSigns).pending = s.pending :=
  ⟨rfl, rfl, rfl, rfl, rfl, rfl, rfl, rfl, rfl, rfl, rfl, rfl, rfl, rfl⟩

@[simp] theorem State.tick_fields (s : State) :
    (s.tick).mode = s.mode ∧ (s.tick).settings = s.settings ∧ (s.tick).now = s.now + 1 ∧
    (s.tick).moment = s.moment + 1 ∧ (s.tick).gas = s.gas.tick ∧ (s.tick).fume = s.fume.tick ∧
    (s.tick).comms = s.comms.tick ∧ (s.tick).peers = s.peers.map Neighbour.tick ∧ (s.tick).scanner = s.scanner.tick ∧
    (s.tick).tracker = s.tracker ∧ (s.tick).guide = s.guide.tick ∧ (s.tick).lamps = s.lamps.tick ∧
    (s.tick).zone = s.zone.tick ∧ (s.tick).store = s.store ∧ (s.tick).pending = s.pending :=
  ⟨rfl, rfl, rfl, rfl, rfl, rfl, rfl, rfl, rfl, rfl, rfl, rfl, rfl, rfl, rfl⟩

@[simp] theorem Comms.countLink_fields (c : Comms) (f : LinkCounters → LinkCounters) :
    (c.countLink f).fan = c.fan ∧ (c.countLink f).link = c.link.count f ∧ (c.countLink f).service = c.service ∧
    (c.countLink f).notices = c.notices ∧ (c.countLink f).draws = c.draws :=
  ⟨rfl, rfl, rfl, rfl, rfl⟩

@[simp] theorem Comms.countPeer_fields (c : Comms) (f : PeerCounters → PeerCounters) :
    (c.countPeer f).fan = c.fan ∧ (c.countPeer f).link = c.link.countPeer f ∧ (c.countPeer f).service = c.service ∧
    (c.countPeer f).notices = c.notices ∧ (c.countPeer f).draws = c.draws :=
  ⟨rfl, rfl, rfl, rfl, rfl⟩

@[simp] theorem Comms.countFan_fields (c : Comms) (f : FanCounters → FanCounters) :
    (c.countFan f).link = c.link ∧ (c.countFan f).service = c.service ∧ (c.countFan f).notices = c.notices ∧
    (c.countFan f).draws = c.draws :=
  ⟨rfl, rfl, rfl, rfl⟩

@[simp] theorem Comms.onLink_fields (c : Comms) (f : Link → Link) :
    (c.onLink f).fan = c.fan ∧ (c.onLink f).link = f c.link ∧ (c.onLink f).service = c.service ∧
    (c.onLink f).notices = c.notices ∧ (c.onLink f).draws = c.draws :=
  ⟨rfl, rfl, rfl, rfl, rfl⟩

@[simp] theorem Comms.setFan_fields (c : Comms) (i : Fin 4) (f : Fan) :
    (c.setFan i f).link = c.link ∧ (c.setFan i f).service = c.service ∧ (c.setFan i f).notices = c.notices ∧
    (c.setFan i f).draws = c.draws :=
  ⟨rfl, rfl, rfl, rfl⟩

@[simp] theorem Link.count_fields (l : Link) (f : LinkCounters → LinkCounters) :
    (l.count f).state = l.state ∧ (l.count f).queue = l.queue ∧ (l.count f).wire = l.wire ∧
    (l.count f).busFreeCount = l.busFreeCount ∧ (l.count f).stretch = l.stretch ∧ (l.count f).join = l.join ∧
    (l.count f).stuck = l.stuck ∧ (l.count f).stuckSpell = l.stuckSpell ∧ (l.count f).unheardDrops = l.unheardDrops ∧
    (l.count f).lateRecord = l.lateRecord ∧ (l.count f).report = l.report ∧ (l.count f).spacing = l.spacing ∧
    (l.count f).eventPending = l.eventPending ∧ (l.count f).refreshMark = l.refreshMark ∧
    (l.count f).counters = f l.counters ∧ (l.count f).peer = l.peer :=
  ⟨rfl, rfl, rfl, rfl, rfl, rfl, rfl, rfl, rfl, rfl, rfl, rfl, rfl, rfl, rfl, rfl⟩

@[simp] theorem Link.countPeer_fields (l : Link) (f : PeerCounters → PeerCounters) :
    (l.countPeer f).state = l.state ∧ (l.countPeer f).queue = l.queue ∧ (l.countPeer f).wire = l.wire ∧
    (l.countPeer f).busFreeCount = l.busFreeCount ∧ (l.countPeer f).stretch = l.stretch ∧
    (l.countPeer f).join = l.join ∧ (l.countPeer f).stuck = l.stuck ∧ (l.countPeer f).stuckSpell = l.stuckSpell ∧
    (l.countPeer f).unheardDrops = l.unheardDrops ∧ (l.countPeer f).lateRecord = l.lateRecord ∧
    (l.countPeer f).report = l.report ∧ (l.countPeer f).spacing = l.spacing ∧
    (l.countPeer f).eventPending = l.eventPending ∧ (l.countPeer f).refreshMark = l.refreshMark ∧
    (l.countPeer f).counters = l.counters ∧ (l.countPeer f).peer = f l.peer :=
  ⟨rfl, rfl, rfl, rfl, rfl, rfl, rfl, rfl, rfl, rfl, rfl, rfl, rfl, rfl, rfl, rfl⟩

@[simp] theorem Link.otherFrame_fields (l : Link) :
    (l.otherFrame).state = l.state ∧ (l.otherFrame).queue = l.queue ∧ (l.otherFrame).wire = l.wire ∧
    (l.otherFrame).busFreeCount = 0 ∧ (l.otherFrame).stretch = l.stretch ∧ (l.otherFrame).join = l.join ∧
    (l.otherFrame).stuck = .stopped ∧ (l.otherFrame).stuckSpell = false ∧
    (l.otherFrame).unheardDrops = l.unheardDrops ∧
    (l.otherFrame).lateRecord = l.lateRecord ∧ (l.otherFrame).report = l.report ∧
    (l.otherFrame).spacing = l.spacing ∧ (l.otherFrame).eventPending = l.eventPending ∧
    (l.otherFrame).refreshMark = l.refreshMark ∧ (l.otherFrame).counters = l.counters ∧
    (l.otherFrame).peer = l.peer :=
  ⟨rfl, rfl, rfl, rfl, rfl, rfl, rfl, rfl, rfl, rfl, rfl, rfl, rfl, rfl, rfl, rfl⟩

@[simp] theorem Link.endAttempt_fields (l : Link) :
    (l.endAttempt).state = l.state ∧ (l.endAttempt).queue = l.queue ∧ (l.endAttempt).wire = [] ∧
    (l.endAttempt).busFreeCount = 0 ∧ (l.endAttempt).stretch = l.stretch ∧ (l.endAttempt).join = l.join ∧
    (l.endAttempt).stuck = .stopped ∧ (l.endAttempt).stuckSpell = l.stuckSpell ∧
    (l.endAttempt).unheardDrops = l.unheardDrops ∧
    (l.endAttempt).lateRecord = l.lateRecord ∧ (l.endAttempt).report = l.report ∧
    (l.endAttempt).spacing = l.spacing ∧ (l.endAttempt).eventPending = l.eventPending ∧
    (l.endAttempt).refreshMark = l.refreshMark ∧ (l.endAttempt).counters = l.counters ∧
    (l.endAttempt).peer = l.peer :=
  ⟨rfl, rfl, rfl, rfl, rfl, rfl, rfl, rfl, rfl, rfl, rfl, rfl, rfl, rfl, rfl, rfl⟩

@[simp] theorem Link.busTaken_fields (l : Link) :
    (l.busTaken).state = l.state ∧ (l.busTaken).queue = l.queue ∧ (l.busTaken).wire = l.wire ∧
    (l.busTaken).busFreeCount = 0 ∧ (l.busTaken).stretch = l.stretch ∧ (l.busTaken).join = l.join ∧
    (l.busTaken).stuck = l.stuck ∧ (l.busTaken).stuckSpell = l.stuckSpell ∧
    (l.busTaken).unheardDrops = l.unheardDrops ∧ (l.busTaken).lateRecord = l.lateRecord ∧
    (l.busTaken).report = l.report ∧ (l.busTaken).spacing = l.spacing ∧
    (l.busTaken).eventPending = l.eventPending ∧ (l.busTaken).refreshMark = l.refreshMark ∧
    (l.busTaken).counters = l.counters ∧ (l.busTaken).peer = l.peer := by
  simp [Link.busTaken]

@[simp] theorem Link.lapseLate_fields (now : Nat) (l : Link) :
    (l.lapseLate now).state = l.state ∧ (l.lapseLate now).queue = l.queue ∧ (l.lapseLate now).wire = l.wire ∧
    (l.lapseLate now).busFreeCount = l.busFreeCount ∧ (l.lapseLate now).stretch = l.stretch ∧
    (l.lapseLate now).join = l.join ∧ (l.lapseLate now).stuck = l.stuck ∧
    (l.lapseLate now).stuckSpell = l.stuckSpell ∧ (l.lapseLate now).unheardDrops = l.unheardDrops ∧
    (l.lapseLate now).lateRecord = l.lateTime now ∧ (l.lapseLate now).report = l.report ∧
    (l.lapseLate now).spacing = l.spacing ∧ (l.lapseLate now).eventPending = l.eventPending ∧
    (l.lapseLate now).refreshMark = l.refreshMark ∧ (l.lapseLate now).counters = l.counters ∧
    (l.lapseLate now).peer = l.peer :=
  ⟨rfl, rfl, rfl, rfl, rfl, rfl, rfl, rfl, rfl, rfl, rfl, rfl, rfl, rfl, rfl, rfl⟩

/-- The record holds a time exactly where it has one of at most 60 s of age (R79). -/
theorem Link.lateTime_eq_some {now t : Nat} {l : Link} :
    l.lateTime now = some t ↔ l.lateRecord = some t ∧ now ≤ t + 60000 := by
  simp only [Link.lateTime, Option.filter_eq_some_iff, decide_eq_true_eq]
  rfl

/-- The record holds none exactly where every time it has is older than 60 s (R79). -/
theorem Link.lateTime_eq_none {now : Nat} {l : Link} :
    l.lateTime now = none ↔ ∀ t, l.lateRecord = some t → t + 60000 < now := by
  simp only [Link.lateTime, Option.filter_eq_none_iff, decide_eq_true_eq, Nat.not_le]
  rfl

@[simp] theorem Link.endStretch_fields (l : Link) :
    (l.endStretch).state = l.state ∧ (l.endStretch).queue = l.queue ∧ (l.endStretch).wire = l.wire ∧
    (l.endStretch).busFreeCount = l.busFreeCount ∧ (l.endStretch).stretch = .stopped ∧
    (l.endStretch).join = l.join ∧ (l.endStretch).stuck = (if l.stretch.isRunning then .stopped else l.stuck) ∧
    (l.endStretch).stuckSpell = l.stuckSpell ∧ (l.endStretch).unheardDrops = l.unheardDrops ∧
    (l.endStretch).lateRecord = l.lateRecord ∧ (l.endStretch).report = l.report ∧
    (l.endStretch).spacing = l.spacing ∧ (l.endStretch).eventPending = l.eventPending ∧
    (l.endStretch).refreshMark = l.refreshMark ∧ (l.endStretch).counters = l.counters ∧
    (l.endStretch).peer = l.peer := by
  simp [Link.endStretch]

@[simp] theorem Link.resetLine_fields (l : Link) :
    (l.resetLine).state = l.state ∧ (l.resetLine).queue = l.queue ∧ (l.resetLine).wire = l.wire ∧
    (l.resetLine).busFreeCount = 0 ∧ (l.resetLine).stretch = .stopped ∧ (l.resetLine).join = l.join ∧
    (l.resetLine).stuck = l.stuck ∧ (l.resetLine).stuckSpell = true ∧
    (l.resetLine).unheardDrops = l.unheardDrops ∧ (l.resetLine).lateRecord = l.lateRecord ∧
    (l.resetLine).report = l.report ∧ (l.resetLine).spacing = l.spacing ∧
    (l.resetLine).eventPending = l.eventPending ∧ (l.resetLine).refreshMark = l.refreshMark ∧
    (l.resetLine).counters = l.counters ∧ (l.resetLine).peer = l.peer := by
  simp [Link.resetLine]

@[simp] theorem Link.onFlight_fields (l : Link) (f : Frame → Frame) :
    (l.onFlight f).state = l.state ∧ (l.onFlight f).wire = l.wire ∧ (l.onFlight f).busFreeCount = l.busFreeCount ∧
    (l.onFlight f).stretch = l.stretch ∧ (l.onFlight f).join = l.join ∧ (l.onFlight f).stuck = l.stuck ∧
    (l.onFlight f).stuckSpell = l.stuckSpell ∧
    (l.onFlight f).unheardDrops = l.unheardDrops ∧ (l.onFlight f).lateRecord = l.lateRecord ∧
    (l.onFlight f).report = l.report ∧ (l.onFlight f).spacing = l.spacing ∧
    (l.onFlight f).eventPending = l.eventPending ∧ (l.onFlight f).refreshMark = l.refreshMark ∧
    (l.onFlight f).counters = l.counters ∧ (l.onFlight f).peer = l.peer :=
  ⟨rfl, rfl, rfl, rfl, rfl, rfl, rfl, rfl, rfl, rfl, rfl, rfl, rfl, rfl, rfl⟩

@[simp] theorem Link.removeFlight_fields (l : Link) :
    (l.removeFlight).state = l.state ∧ (l.removeFlight).wire = l.wire ∧
    (l.removeFlight).busFreeCount = l.busFreeCount ∧ (l.removeFlight).stretch = l.stretch ∧
    (l.removeFlight).join = l.join ∧ (l.removeFlight).stuck = l.stuck ∧ (l.removeFlight).stuckSpell = l.stuckSpell ∧
    (l.removeFlight).unheardDrops = l.unheardDrops ∧ (l.removeFlight).lateRecord = l.lateRecord ∧
    (l.removeFlight).report = l.report ∧ (l.removeFlight).spacing = l.spacing ∧
    (l.removeFlight).eventPending = l.eventPending ∧ (l.removeFlight).refreshMark = l.refreshMark ∧
    (l.removeFlight).counters = l.counters ∧ (l.removeFlight).peer = l.peer :=
  ⟨rfl, rfl, rfl, rfl, rfl, rfl, rfl, rfl, rfl, rfl, rfl, rfl, rfl, rfl, rfl⟩

@[simp] theorem Comms.countFan_fan (c : Comms) (f : FanCounters → FanCounters) :
    ((c.countFan f).fan).fans = c.fan.fans ∧ ((c.countFan f).fan).lead = c.fan.lead ∧
    ((c.countFan f).fan).stage = c.fan.stage ∧ ((c.countFan f).fan).dwell = c.fan.dwell ∧
    ((c.countFan f).fan).rotationLeft = c.fan.rotationLeft ∧ ((c.countFan f).fan).spacing = c.fan.spacing ∧
    ((c.countFan f).fan).release = c.fan.release ∧ ((c.countFan f).fan).boost = c.fan.boost ∧
    ((c.countFan f).fan).incoming = c.fan.incoming ∧ ((c.countFan f).fan).fanShort = c.fan.fanShort ∧
    ((c.countFan f).fan).noVent = c.fan.noVent ∧ ((c.countFan f).fan).counters = f c.fan.counters :=
  ⟨rfl, rfl, rfl, rfl, rfl, rfl, rfl, rfl, rfl, rfl, rfl, rfl⟩

@[simp] theorem Comms.setFan_fan (c : Comms) (i : Fin 4) (f : Fan) :
    ((c.setFan i f).fan).fans = c.fan.fans.set i f ∧ ((c.setFan i f).fan).lead = c.fan.lead ∧
    ((c.setFan i f).fan).stage = c.fan.stage ∧ ((c.setFan i f).fan).dwell = c.fan.dwell ∧
    ((c.setFan i f).fan).rotationLeft = c.fan.rotationLeft ∧ ((c.setFan i f).fan).spacing = c.fan.spacing ∧
    ((c.setFan i f).fan).release = c.fan.release ∧ ((c.setFan i f).fan).boost = c.fan.boost ∧
    ((c.setFan i f).fan).incoming = c.fan.incoming ∧ ((c.setFan i f).fan).fanShort = c.fan.fanShort ∧
    ((c.setFan i f).fan).noVent = c.fan.noVent ∧ ((c.setFan i f).fan).counters = c.fan.counters :=
  ⟨rfl, rfl, rfl, rfl, rfl, rfl, rfl, rfl, rfl, rfl, rfl, rfl⟩

@[simp] theorem GasFront.setHead_fields (g : GasFront) (h : Fin 4) (x : Head) :
    (g.setHead h x).heads = g.heads.set h x ∧ (g.setHead h x).converter = g.converter ∧
    (g.setHead h x).pointer = g.pointer ∧ (g.setHead h x).counters = g.counters :=
  ⟨rfl, rfl, rfl, rfl⟩

@[simp] theorem GasFront.count_fields (g : GasFront) (f : GasCounters → GasCounters) :
    (g.count f).heads = g.heads ∧ (g.count f).converter = g.converter ∧ (g.count f).pointer = g.pointer ∧
    (g.count f).counters = f g.counters :=
  ⟨rfl, rfl, rfl, rfl⟩

end Sys2Proof.Machine
end

