-- ==== Sys2Proof/Laws/Comms.lean ====
section
/-! SUPPORT. What each operation of the bus side and of the fan controller leaves as it was. A conjunction tagged simp
gives simp each of its parts. -/

namespace Sys2Proof.Machine

/-! ## The transmit queue -/

@[simp] theorem Comms.join_frame (e : Env) (p : Payload) (c : Comms) :
    (c.join e p).fan = c.fan ∧ (c.join e p).link.state = c.link.state ∧ (c.join e p).link.wire = c.link.wire ∧
    (c.join e p).link.busFreeCount = c.link.busFreeCount ∧ (c.join e p).link.stretch = c.link.stretch ∧
    (c.join e p).link.join = c.link.join ∧ (c.join e p).link.stuck = c.link.stuck ∧
    (c.join e p).link.stuckSpell = c.link.stuckSpell ∧
    (c.join e p).link.unheardDrops = c.link.unheardDrops ∧ (c.join e p).link.lateRecord = c.link.lateRecord ∧
    (c.join e p).link.report = c.link.report ∧ (c.join e p).link.spacing = c.link.spacing ∧
    (c.join e p).link.eventPending = c.link.eventPending ∧ (c.join e p).link.refreshMark = c.link.refreshMark ∧
    (c.join e p).link.counters = c.link.counters ∧ (c.join e p).link.peer = c.link.peer ∧
    (c.join e p).service = c.service ∧ (c.join e p).notices = c.notices := by
  simp [Comms.join]

@[simp] theorem Comms.refuse_frame (p : Payload) (c : Comms) :
    ((c.refuse p).comms).fan = c.fan ∧ ((c.refuse p).comms).link.state = c.link.state ∧
    ((c.refuse p).comms).link.queue = c.link.queue ∧ ((c.refuse p).comms).link.wire = c.link.wire ∧
    ((c.refuse p).comms).link.busFreeCount = c.link.busFreeCount ∧
    ((c.refuse p).comms).link.stretch = c.link.stretch ∧ ((c.refuse p).comms).link.join = c.link.join ∧
    ((c.refuse p).comms).link.stuck = c.link.stuck ∧ ((c.refuse p).comms).link.stuckSpell = c.link.stuckSpell ∧
    ((c.refuse p).comms).link.unheardDrops = c.link.unheardDrops ∧
    ((c.refuse p).comms).link.lateRecord = c.link.lateRecord ∧ ((c.refuse p).comms).link.report = c.link.report ∧
    ((c.refuse p).comms).link.spacing = c.link.spacing ∧
    ((c.refuse p).comms).link.eventPending = c.link.eventPending ∧
    ((c.refuse p).comms).link.refreshMark = c.link.refreshMark ∧
    ((c.refuse p).comms).link.counters = c.link.counters ∧ ((c.refuse p).comms).service = c.service ∧
    ((c.refuse p).comms).notices = c.notices ∧ ((c.refuse p).comms).draws = c.draws := by
  simp [Comms.refuse]

@[simp] theorem offerFrame_frame (e : Env) (p : Payload) (c : Comms) :
    ((offerFrame e p c).comms).fan = c.fan ∧ ((offerFrame e p c).comms).link.state = c.link.state ∧
    ((offerFrame e p c).comms).link.wire = c.link.wire ∧
    ((offerFrame e p c).comms).link.busFreeCount = c.link.busFreeCount ∧
    ((offerFrame e p c).comms).link.stretch = c.link.stretch ∧ ((offerFrame e p c).comms).link.join = c.link.join ∧
    ((offerFrame e p c).comms).link.stuck = c.link.stuck ∧
    ((offerFrame e p c).comms).link.stuckSpell = c.link.stuckSpell ∧
    ((offerFrame e p c).comms).link.unheardDrops = c.link.unheardDrops ∧
    ((offerFrame e p c).comms).link.lateRecord = c.link.lateRecord ∧
    ((offerFrame e p c).comms).link.report = c.link.report ∧
    ((offerFrame e p c).comms).link.spacing = c.link.spacing ∧
    ((offerFrame e p c).comms).link.eventPending = c.link.eventPending ∧
    ((offerFrame e p c).comms).link.refreshMark = c.link.refreshMark ∧
    ((offerFrame e p c).comms).link.counters = c.link.counters ∧ ((offerFrame e p c).comms).service = c.service ∧
    ((offerFrame e p c).comms).notices = c.notices := by
  unfold offerFrame
  split
  · simp
  · split
    · simp
    · simp only
      split <;> simp

/-! ## Fan starts -/

@[simp] theorem startFan_frame (e : Env) (i : Fin 4) (c : Comms) :
    (startFan e i c).fan.lead = c.fan.lead ∧ (startFan e i c).fan.stage = c.fan.stage ∧
    (startFan e i c).fan.dwell = c.fan.dwell ∧ (startFan e i c).fan.rotationLeft = c.fan.rotationLeft ∧
    (startFan e i c).fan.release = c.fan.release ∧ (startFan e i c).fan.boost = c.fan.boost ∧
    (startFan e i c).fan.incoming = c.fan.incoming ∧ (startFan e i c).fan.fanShort = c.fan.fanShort ∧
    (startFan e i c).fan.noVent = c.fan.noVent ∧ (startFan e i c).fan.counters = c.fan.counters ∧
    (startFan e i c).link = c.link ∧ (startFan e i c).service = c.service ∧ (startFan e i c).notices = c.notices ∧
    (startFan e i c).draws = c.draws := by
  simp [startFan]

@[simp] theorem startLocally_frame (e : Env) (i : Fin 4) (c : Comms) :
    (startLocally e i c).fan.lead = c.fan.lead ∧ (startLocally e i c).fan.stage = c.fan.stage ∧
    (startLocally e i c).fan.dwell = c.fan.dwell ∧ (startLocally e i c).fan.rotationLeft = c.fan.rotationLeft ∧
    (startLocally e i c).fan.release = c.fan.release ∧ (startLocally e i c).fan.boost = c.fan.boost ∧
    (startLocally e i c).fan.incoming = c.fan.incoming ∧ (startLocally e i c).fan.fanShort = c.fan.fanShort ∧
    (startLocally e i c).fan.noVent = c.fan.noVent ∧ (startLocally e i c).link = c.link ∧
    (startLocally e i c).service = c.service ∧ (startLocally e i c).notices = c.notices ∧
    (startLocally e i c).draws = c.draws := by
  simp [startLocally]

@[simp] theorem clearRelease_frame (c : Comms) :
    (clearRelease c).fan.fans = c.fan.fans ∧ (clearRelease c).fan.lead = c.fan.lead ∧
    (clearRelease c).fan.stage = c.fan.stage ∧ (clearRelease c).fan.dwell = c.fan.dwell ∧
    (clearRelease c).fan.rotationLeft = c.fan.rotationLeft ∧ (clearRelease c).fan.spacing = c.fan.spacing ∧
    (clearRelease c).fan.boost = c.fan.boost ∧ (clearRelease c).fan.incoming = c.fan.incoming ∧
    (clearRelease c).fan.fanShort = c.fan.fanShort ∧ (clearRelease c).fan.noVent = c.fan.noVent ∧
    (clearRelease c).fan.counters = c.fan.counters ∧ (clearRelease c).link = c.link ∧
    (clearRelease c).service = c.service ∧ (clearRelease c).notices = c.notices ∧
    (clearRelease c).draws = c.draws := by
  unfold clearRelease
  split
  · simp
  · split <;> simp

@[simp] theorem localStarts_frame (e : Env) (c : Comms) :
    (localStarts e c).fan.lead = c.fan.lead ∧ (localStarts e c).fan.stage = c.fan.stage ∧
    (localStarts e c).fan.dwell = c.fan.dwell ∧ (localStarts e c).fan.rotationLeft = c.fan.rotationLeft ∧
    (localStarts e c).fan.boost = c.fan.boost ∧ (localStarts e c).fan.incoming = c.fan.incoming ∧
    (localStarts e c).fan.fanShort = c.fan.fanShort ∧ (localStarts e c).fan.noVent = c.fan.noVent ∧
    (localStarts e c).link = c.link ∧ (localStarts e c).service = c.service ∧ (localStarts e c).notices = c.notices ∧
    (localStarts e c).draws = c.draws := by
  unfold localStarts
  simp only
  split
  · simp
  · split
    · simp
    · split
      · split <;> simp
      · simp

@[simp] theorem releaseFan_frame (i : Fin 4) (c : Comms) :
    (releaseFan i c).fan.fans = c.fan.fans ∧ (releaseFan i c).fan.lead = c.fan.lead ∧
    (releaseFan i c).fan.stage = c.fan.stage ∧ (releaseFan i c).fan.dwell = c.fan.dwell ∧
    (releaseFan i c).fan.rotationLeft = c.fan.rotationLeft ∧ (releaseFan i c).fan.spacing = c.fan.spacing ∧
    (releaseFan i c).fan.boost = c.fan.boost ∧ (releaseFan i c).fan.incoming = c.fan.incoming ∧
    (releaseFan i c).fan.fanShort = c.fan.fanShort ∧ (releaseFan i c).fan.noVent = c.fan.noVent ∧
    (releaseFan i c).link = c.link ∧ (releaseFan i c).service = c.service ∧ (releaseFan i c).notices = c.notices ∧
    (releaseFan i c).draws = c.draws := by
  unfold releaseFan
  simp only
  split <;> simp

@[simp] theorem tryNotice_frame (n : Nat) (e : Env) (c : Comms) :
    (tryNotice n e c).fan.lead = c.fan.lead ∧ (tryNotice n e c).fan.stage = c.fan.stage ∧
    (tryNotice n e c).fan.dwell = c.fan.dwell ∧ (tryNotice n e c).fan.rotationLeft = c.fan.rotationLeft ∧
    (tryNotice n e c).fan.boost = c.fan.boost ∧ (tryNotice n e c).fan.incoming = c.fan.incoming ∧
    (tryNotice n e c).fan.fanShort = c.fan.fanShort ∧ (tryNotice n e c).fan.noVent = c.fan.noVent ∧
    (tryNotice n e c).link.state = c.link.state ∧ (tryNotice n e c).link.wire = c.link.wire ∧
    (tryNotice n e c).link.busFreeCount = c.link.busFreeCount ∧ (tryNotice n e c).link.stretch = c.link.stretch ∧
    (tryNotice n e c).link.join = c.link.join ∧ (tryNotice n e c).link.stuck = c.link.stuck ∧
    (tryNotice n e c).link.stuckSpell = c.link.stuckSpell ∧
    (tryNotice n e c).link.unheardDrops = c.link.unheardDrops ∧
    (tryNotice n e c).link.lateRecord = c.link.lateRecord ∧ (tryNotice n e c).link.report = c.link.report ∧
    (tryNotice n e c).link.spacing = c.link.spacing ∧ (tryNotice n e c).link.eventPending = c.link.eventPending ∧
    (tryNotice n e c).link.refreshMark = c.link.refreshMark ∧ (tryNotice n e c).link.counters = c.link.counters ∧
    (tryNotice n e c).service.queue = c.service.queue ∧
    (tryNotice n e c).service.restartPending = c.service.restartPending ∧ (tryNotice n e c).notices = c.notices := by
  induction n generalizing c with
  | zero => simp [tryNotice]
  | succ n ih =>
    unfold tryNotice
    split
    · split
      · simp
      · split
        · simp only
          split <;> simp [ih]
        · simp
    · simp

/-- A number of tries moves what one try moves: fans, the local release, its timer, and the queue's side. -/
@[simp] theorem tryTimes_frame (k : Nat) (e : Env) (c : Comms) :
    (tryTimes k e c).fan.lead = c.fan.lead ∧ (tryTimes k e c).fan.stage = c.fan.stage ∧
    (tryTimes k e c).fan.dwell = c.fan.dwell ∧ (tryTimes k e c).fan.rotationLeft = c.fan.rotationLeft ∧
    (tryTimes k e c).fan.boost = c.fan.boost ∧ (tryTimes k e c).fan.incoming = c.fan.incoming ∧
    (tryTimes k e c).fan.fanShort = c.fan.fanShort ∧ (tryTimes k e c).fan.noVent = c.fan.noVent ∧
    (tryTimes k e c).link.state = c.link.state ∧ (tryTimes k e c).link.wire = c.link.wire ∧
    (tryTimes k e c).link.busFreeCount = c.link.busFreeCount ∧ (tryTimes k e c).link.stretch = c.link.stretch ∧
    (tryTimes k e c).link.join = c.link.join ∧ (tryTimes k e c).link.stuck = c.link.stuck ∧
    (tryTimes k e c).link.stuckSpell = c.link.stuckSpell ∧
    (tryTimes k e c).link.unheardDrops = c.link.unheardDrops ∧
    (tryTimes k e c).link.lateRecord = c.link.lateRecord ∧ (tryTimes k e c).link.report = c.link.report ∧
    (tryTimes k e c).link.spacing = c.link.spacing ∧ (tryTimes k e c).link.eventPending = c.link.eventPending ∧
    (tryTimes k e c).link.refreshMark = c.link.refreshMark ∧ (tryTimes k e c).link.counters = c.link.counters ∧
    (tryTimes k e c).service.queue = c.service.queue ∧
    (tryTimes k e c).service.restartPending = c.service.restartPending ∧ (tryTimes k e c).notices = c.notices := by
  induction k generalizing c with
  | zero => simp [tryTimes]
  | succ k ih => simp [tryTimes, ih]

@[simp] theorem resumeStarts_frame (e : Env) (c : Comms) :
    (resumeStarts e c).fan.lead = c.fan.lead ∧ (resumeStarts e c).fan.stage = c.fan.stage ∧
    (resumeStarts e c).fan.dwell = c.fan.dwell ∧ (resumeStarts e c).fan.rotationLeft = c.fan.rotationLeft ∧
    (resumeStarts e c).fan.boost = c.fan.boost ∧ (resumeStarts e c).fan.incoming = c.fan.incoming ∧
    (resumeStarts e c).fan.fanShort = c.fan.fanShort ∧ (resumeStarts e c).fan.noVent = c.fan.noVent ∧
    (resumeStarts e c).link.state = c.link.state ∧ (resumeStarts e c).link.wire = c.link.wire ∧
    (resumeStarts e c).link.busFreeCount = c.link.busFreeCount ∧ (resumeStarts e c).link.stretch = c.link.stretch ∧
    (resumeStarts e c).link.join = c.link.join ∧ (resumeStarts e c).link.stuck = c.link.stuck ∧
    (resumeStarts e c).link.stuckSpell = c.link.stuckSpell ∧
    (resumeStarts e c).link.unheardDrops = c.link.unheardDrops ∧
    (resumeStarts e c).link.lateRecord = c.link.lateRecord ∧ (resumeStarts e c).link.report = c.link.report ∧
    (resumeStarts e c).link.spacing = c.link.spacing ∧ (resumeStarts e c).link.eventPending = c.link.eventPending ∧
    (resumeStarts e c).link.refreshMark = c.link.refreshMark ∧ (resumeStarts e c).link.counters = c.link.counters ∧
    (resumeStarts e c).service.queue = c.service.queue ∧
    (resumeStarts e c).service.restartPending = c.service.restartPending ∧
    (resumeStarts e c).notices = c.notices := by
  simp [resumeStarts]

@[simp] theorem noticeDropped_frame (e : Env) (i : Fin 4) (c : Comms) :
    (noticeDropped e i c).fan.lead = c.fan.lead ∧ (noticeDropped e i c).fan.stage = c.fan.stage ∧
    (noticeDropped e i c).fan.dwell = c.fan.dwell ∧ (noticeDropped e i c).fan.rotationLeft = c.fan.rotationLeft ∧
    (noticeDropped e i c).fan.boost = c.fan.boost ∧ (noticeDropped e i c).fan.incoming = c.fan.incoming ∧
    (noticeDropped e i c).fan.fanShort = c.fan.fanShort ∧ (noticeDropped e i c).fan.noVent = c.fan.noVent ∧
    (noticeDropped e i c).link.state = c.link.state ∧ (noticeDropped e i c).link.wire = c.link.wire ∧
    (noticeDropped e i c).link.busFreeCount = c.link.busFreeCount ∧
    (noticeDropped e i c).link.stretch = c.link.stretch ∧ (noticeDropped e i c).link.join = c.link.join ∧
    (noticeDropped e i c).link.stuck = c.link.stuck ∧ (noticeDropped e i c).link.stuckSpell = c.link.stuckSpell ∧
    (noticeDropped e i c).link.unheardDrops = c.link.unheardDrops ∧
    (noticeDropped e i c).link.lateRecord = c.link.lateRecord ∧ (noticeDropped e i c).link.report = c.link.report ∧
    (noticeDropped e i c).link.spacing = c.link.spacing ∧
    (noticeDropped e i c).link.eventPending = c.link.eventPending ∧
    (noticeDropped e i c).link.refreshMark = c.link.refreshMark ∧
    (noticeDropped e i c).link.counters = c.link.counters ∧ (noticeDropped e i c).service.queue = c.service.queue ∧
    (noticeDropped e i c).service.restartPending = c.service.restartPending ∧
    (noticeDropped e i c).notices = c.notices := by
  simp [noticeDropped]

@[simp] theorem withdrawNotice_frame (c : Comms) :
    (withdrawNotice c).fan = c.fan ∧ (withdrawNotice c).link.state = c.link.state ∧
    (withdrawNotice c).link.wire = c.link.wire ∧ (withdrawNotice c).link.busFreeCount = c.link.busFreeCount ∧
    (withdrawNotice c).link.stretch = c.link.stretch ∧ (withdrawNotice c).link.join = c.link.join ∧
    (withdrawNotice c).link.stuck = c.link.stuck ∧ (withdrawNotice c).link.stuckSpell = c.link.stuckSpell ∧
    (withdrawNotice c).link.unheardDrops = c.link.unheardDrops ∧
    (withdrawNotice c).link.lateRecord = c.link.lateRecord ∧ (withdrawNotice c).link.report = c.link.report ∧
    (withdrawNotice c).link.spacing = c.link.spacing ∧ (withdrawNotice c).link.eventPending = c.link.eventPending ∧
    (withdrawNotice c).link.refreshMark = c.link.refreshMark ∧ (withdrawNotice c).link.counters = c.link.counters ∧
    (withdrawNotice c).link.peer = c.link.peer ∧ (withdrawNotice c).service = c.service ∧
    (withdrawNotice c).notices = c.notices ∧ (withdrawNotice c).draws = c.draws := by
  simp [withdrawNotice]

@[simp] theorem afterFanChange_frame (e : Env) (old c : Comms) :
    (afterFanChange e old c).fan.lead = c.fan.lead ∧ (afterFanChange e old c).fan.stage = c.fan.stage ∧
    (afterFanChange e old c).fan.dwell = c.fan.dwell ∧
    (afterFanChange e old c).fan.rotationLeft = c.fan.rotationLeft ∧
    (afterFanChange e old c).fan.boost = c.fan.boost ∧ (afterFanChange e old c).fan.incoming = c.fan.incoming ∧
    (afterFanChange e old c).fan.fanShort = c.fan.fanShort ∧ (afterFanChange e old c).fan.noVent = c.fan.noVent ∧
    (afterFanChange e old c).link.state = c.link.state ∧ (afterFanChange e old c).link.wire = c.link.wire ∧
    (afterFanChange e old c).link.busFreeCount = c.link.busFreeCount ∧
    (afterFanChange e old c).link.stretch = c.link.stretch ∧ (afterFanChange e old c).link.join = c.link.join ∧
    (afterFanChange e old c).link.stuck = c.link.stuck ∧
    (afterFanChange e old c).link.stuckSpell = c.link.stuckSpell ∧
    (afterFanChange e old c).link.unheardDrops = c.link.unheardDrops ∧
    (afterFanChange e old c).link.lateRecord = c.link.lateRecord ∧
    (afterFanChange e old c).link.report = c.link.report ∧ (afterFanChange e old c).link.spacing = c.link.spacing ∧
    (afterFanChange e old c).link.eventPending = c.link.eventPending ∧
    (afterFanChange e old c).link.refreshMark = c.link.refreshMark ∧
    (afterFanChange e old c).link.counters = c.link.counters ∧
    (afterFanChange e old c).service.queue = c.service.queue ∧
    (afterFanChange e old c).service.restartPending = c.service.restartPending ∧
    (afterFanChange e old c).notices = c.notices := by
  unfold afterFanChange
  simp only
  split <;> simp

/-! ## Drops and reports -/

@[simp] theorem dropEnd_frame (e : Env) (p : Payload) (c : Comms) :
    (dropEnd e p c).fan.lead = c.fan.lead ∧ (dropEnd e p c).fan.stage = c.fan.stage ∧
    (dropEnd e p c).fan.dwell = c.fan.dwell ∧ (dropEnd e p c).fan.rotationLeft = c.fan.rotationLeft ∧
    (dropEnd e p c).fan.boost = c.fan.boost ∧ (dropEnd e p c).fan.incoming = c.fan.incoming ∧
    (dropEnd e p c).fan.fanShort = c.fan.fanShort ∧ (dropEnd e p c).fan.noVent = c.fan.noVent ∧
    (dropEnd e p c).link.state = c.link.state ∧ (dropEnd e p c).link.wire = c.link.wire ∧
    (dropEnd e p c).link.busFreeCount = c.link.busFreeCount ∧ (dropEnd e p c).link.stretch = c.link.stretch ∧
    (dropEnd e p c).link.join = c.link.join ∧ (dropEnd e p c).link.stuck = c.link.stuck ∧
    (dropEnd e p c).link.stuckSpell = c.link.stuckSpell ∧
    (dropEnd e p c).link.unheardDrops = c.link.unheardDrops ∧ (dropEnd e p c).link.lateRecord = c.link.lateRecord ∧
    (dropEnd e p c).link.report = c.link.report ∧ (dropEnd e p c).link.spacing = c.link.spacing ∧
    (dropEnd e p c).link.eventPending = c.link.eventPending ∧ (dropEnd e p c).link.refreshMark = c.link.refreshMark ∧
    (dropEnd e p c).link.counters = c.link.counters ∧ (dropEnd e p c).service.queue = c.service.queue ∧
    (dropEnd e p c).service.restartPending = c.service.restartPending ∧ (dropEnd e p c).notices = c.notices := by
  unfold dropEnd
  split <;> simp

@[simp] theorem dropEnds_frame (e : Env) (p : Option Payload) (c : Comms) :
    (dropEnds e p c).fan.lead = c.fan.lead ∧ (dropEnds e p c).fan.stage = c.fan.stage ∧
    (dropEnds e p c).fan.dwell = c.fan.dwell ∧ (dropEnds e p c).fan.rotationLeft = c.fan.rotationLeft ∧
    (dropEnds e p c).fan.boost = c.fan.boost ∧ (dropEnds e p c).fan.incoming = c.fan.incoming ∧
    (dropEnds e p c).fan.fanShort = c.fan.fanShort ∧ (dropEnds e p c).fan.noVent = c.fan.noVent ∧
    (dropEnds e p c).link.state = c.link.state ∧ (dropEnds e p c).link.wire = c.link.wire ∧
    (dropEnds e p c).link.busFreeCount = c.link.busFreeCount ∧ (dropEnds e p c).link.stretch = c.link.stretch ∧
    (dropEnds e p c).link.join = c.link.join ∧ (dropEnds e p c).link.stuck = c.link.stuck ∧
    (dropEnds e p c).link.stuckSpell = c.link.stuckSpell ∧
    (dropEnds e p c).link.unheardDrops = c.link.unheardDrops ∧ (dropEnds e p c).link.lateRecord = c.link.lateRecord ∧
    (dropEnds e p c).link.report = c.link.report ∧ (dropEnds e p c).link.spacing = c.link.spacing ∧
    (dropEnds e p c).link.eventPending = c.link.eventPending ∧
    (dropEnds e p c).link.refreshMark = c.link.refreshMark ∧ (dropEnds e p c).link.counters = c.link.counters ∧
    (dropEnds e p c).service.queue = c.service.queue ∧
    (dropEnds e p c).service.restartPending = c.service.restartPending ∧ (dropEnds e p c).notices = c.notices := by
  unfold dropEnds
  split <;> simp

@[simp] theorem offer_frame (e : Env) (p : Payload) (c : Comms) :
    (offer e p c).fan.lead = c.fan.lead ∧ (offer e p c).fan.stage = c.fan.stage ∧
    (offer e p c).fan.dwell = c.fan.dwell ∧ (offer e p c).fan.rotationLeft = c.fan.rotationLeft ∧
    (offer e p c).fan.boost = c.fan.boost ∧ (offer e p c).fan.incoming = c.fan.incoming ∧
    (offer e p c).fan.fanShort = c.fan.fanShort ∧ (offer e p c).fan.noVent = c.fan.noVent ∧
    (offer e p c).link.state = c.link.state ∧ (offer e p c).link.wire = c.link.wire ∧
    (offer e p c).link.busFreeCount = c.link.busFreeCount ∧ (offer e p c).link.stretch = c.link.stretch ∧
    (offer e p c).link.join = c.link.join ∧ (offer e p c).link.stuck = c.link.stuck ∧
    (offer e p c).link.stuckSpell = c.link.stuckSpell ∧
    (offer e p c).link.unheardDrops = c.link.unheardDrops ∧ (offer e p c).link.lateRecord = c.link.lateRecord ∧
    (offer e p c).link.report = c.link.report ∧ (offer e p c).link.spacing = c.link.spacing ∧
    (offer e p c).link.eventPending = c.link.eventPending ∧ (offer e p c).link.refreshMark = c.link.refreshMark ∧
    (offer e p c).link.counters = c.link.counters ∧ (offer e p c).service.queue = c.service.queue ∧
    (offer e p c).service.restartPending = c.service.restartPending ∧ (offer e p c).notices = c.notices := by
  simp [offer]

@[simp] theorem offerReport_frame (e : Env) (c : Comms) :
    (offerReport e c).fan.lead = c.fan.lead ∧ (offerReport e c).fan.stage = c.fan.stage ∧
    (offerReport e c).fan.dwell = c.fan.dwell ∧ (offerReport e c).fan.rotationLeft = c.fan.rotationLeft ∧
    (offerReport e c).fan.boost = c.fan.boost ∧ (offerReport e c).fan.incoming = c.fan.incoming ∧
    (offerReport e c).fan.fanShort = c.fan.fanShort ∧ (offerReport e c).fan.noVent = c.fan.noVent ∧
    (offerReport e c).link.state = c.link.state ∧ (offerReport e c).link.wire = c.link.wire ∧
    (offerReport e c).link.busFreeCount = c.link.busFreeCount ∧ (offerReport e c).link.stretch = c.link.stretch ∧
    (offerReport e c).link.join = c.link.join ∧ (offerReport e c).link.stuck = c.link.stuck ∧
    (offerReport e c).link.stuckSpell = c.link.stuckSpell ∧
    (offerReport e c).link.unheardDrops = c.link.unheardDrops ∧
    (offerReport e c).link.lateRecord = c.link.lateRecord ∧ (offerReport e c).link.report = c.link.report ∧
    (offerReport e c).link.eventPending = c.link.eventPending ∧
    (offerReport e c).link.refreshMark = c.link.refreshMark ∧ (offerReport e c).link.counters = c.link.counters ∧
    (offerReport e c).service.queue = c.service.queue ∧
    (offerReport e c).service.restartPending = c.service.restartPending ∧ (offerReport e c).notices = c.notices := by
  unfold offerReport
  simp only
  split <;> simp

@[simp] theorem foldReport_frame (c : Comms) :
    (foldReport c).fan = c.fan ∧ (foldReport c).link.state = c.link.state ∧
    (foldReport c).link.queue = c.link.queue ∧ (foldReport c).link.wire = c.link.wire ∧
    (foldReport c).link.busFreeCount = c.link.busFreeCount ∧ (foldReport c).link.stretch = c.link.stretch ∧
    (foldReport c).link.join = c.link.join ∧ (foldReport c).link.stuck = c.link.stuck ∧
    (foldReport c).link.stuckSpell = c.link.stuckSpell ∧
    (foldReport c).link.unheardDrops = c.link.unheardDrops ∧ (foldReport c).link.lateRecord = c.link.lateRecord ∧
    (foldReport c).link.report = c.link.report ∧ (foldReport c).link.spacing = c.link.spacing ∧
    (foldReport c).link.eventPending = c.link.eventPending ∧ (foldReport c).link.counters = c.link.counters ∧
    (foldReport c).service = c.service ∧ (foldReport c).notices = c.notices ∧ (foldReport c).draws = c.draws := by
  unfold foldReport
  split <;> simp

@[simp] theorem reportEvent_frame (e : Env) (c : Comms) :
    (reportEvent e c).fan.lead = c.fan.lead ∧ (reportEvent e c).fan.stage = c.fan.stage ∧
    (reportEvent e c).fan.dwell = c.fan.dwell ∧ (reportEvent e c).fan.rotationLeft = c.fan.rotationLeft ∧
    (reportEvent e c).fan.boost = c.fan.boost ∧ (reportEvent e c).fan.incoming = c.fan.incoming ∧
    (reportEvent e c).fan.fanShort = c.fan.fanShort ∧ (reportEvent e c).fan.noVent = c.fan.noVent ∧
    (reportEvent e c).link.state = c.link.state ∧ (reportEvent e c).link.wire = c.link.wire ∧
    (reportEvent e c).link.busFreeCount = c.link.busFreeCount ∧ (reportEvent e c).link.stretch = c.link.stretch ∧
    (reportEvent e c).link.join = c.link.join ∧ (reportEvent e c).link.stuck = c.link.stuck ∧
    (reportEvent e c).link.stuckSpell = c.link.stuckSpell ∧
    (reportEvent e c).link.unheardDrops = c.link.unheardDrops ∧
    (reportEvent e c).link.lateRecord = c.link.lateRecord ∧ (reportEvent e c).link.report = c.link.report ∧
    (reportEvent e c).link.counters = c.link.counters ∧ (reportEvent e c).service.queue = c.service.queue ∧
    (reportEvent e c).service.restartPending = c.service.restartPending ∧ (reportEvent e c).notices = c.notices := by
  unfold reportEvent
  split
  · simp
  · split
    · simp
    · split <;> simp

@[simp] theorem periodicReport_frame (e : Env) (c : Comms) :
    (periodicReport e c).fan.lead = c.fan.lead ∧ (periodicReport e c).fan.stage = c.fan.stage ∧
    (periodicReport e c).fan.dwell = c.fan.dwell ∧ (periodicReport e c).fan.rotationLeft = c.fan.rotationLeft ∧
    (periodicReport e c).fan.boost = c.fan.boost ∧ (periodicReport e c).fan.incoming = c.fan.incoming ∧
    (periodicReport e c).fan.fanShort = c.fan.fanShort ∧ (periodicReport e c).fan.noVent = c.fan.noVent ∧
    (periodicReport e c).link.state = c.link.state ∧ (periodicReport e c).link.wire = c.link.wire ∧
    (periodicReport e c).link.busFreeCount = c.link.busFreeCount ∧
    (periodicReport e c).link.stretch = c.link.stretch ∧ (periodicReport e c).link.join = c.link.join ∧
    (periodicReport e c).link.stuck = c.link.stuck ∧ (periodicReport e c).link.stuckSpell = c.link.stuckSpell ∧
    (periodicReport e c).link.unheardDrops = c.link.unheardDrops ∧
    (periodicReport e c).link.lateRecord = c.link.lateRecord ∧ (periodicReport e c).link.report = c.link.report ∧
    (periodicReport e c).link.counters = c.link.counters ∧ (periodicReport e c).service.queue = c.service.queue ∧
    (periodicReport e c).service.restartPending = c.service.restartPending ∧
    (periodicReport e c).notices = c.notices := by
  unfold periodicReport
  simp only
  split <;> simp

@[simp] theorem reorderQueue_frame (e : Env) (c : Comms) :
    (reorderQueue e c).fan = c.fan ∧ (reorderQueue e c).link.state = c.link.state ∧
    (reorderQueue e c).link.wire = c.link.wire ∧ (reorderQueue e c).link.busFreeCount = c.link.busFreeCount ∧
    (reorderQueue e c).link.stretch = c.link.stretch ∧ (reorderQueue e c).link.join = c.link.join ∧
    (reorderQueue e c).link.stuck = c.link.stuck ∧ (reorderQueue e c).link.stuckSpell = c.link.stuckSpell ∧
    (reorderQueue e c).link.unheardDrops = c.link.unheardDrops ∧
    (reorderQueue e c).link.lateRecord = c.link.lateRecord ∧ (reorderQueue e c).link.report = c.link.report ∧
    (reorderQueue e c).link.spacing = c.link.spacing ∧ (reorderQueue e c).link.eventPending = c.link.eventPending ∧
    (reorderQueue e c).link.refreshMark = c.link.refreshMark ∧ (reorderQueue e c).link.counters = c.link.counters ∧
    (reorderQueue e c).link.peer = c.link.peer ∧ (reorderQueue e c).service = c.service ∧
    (reorderQueue e c).notices = c.notices ∧ (reorderQueue e c).draws = c.draws := by
  simp [reorderQueue]

/-! ## Selection and the stage -/

@[simp] theorem settleMarks_fields (w : List (Fin 4)) (fc : FanCtl) :
    (settleMarks w fc).lead = fc.lead ∧ (settleMarks w fc).stage = fc.stage ∧ (settleMarks w fc).dwell = fc.dwell ∧
    (settleMarks w fc).rotationLeft = fc.rotationLeft ∧ (settleMarks w fc).spacing = fc.spacing ∧
    (settleMarks w fc).release = fc.release ∧ (settleMarks w fc).boost = fc.boost ∧
    (settleMarks w fc).counters = fc.counters :=
  ⟨rfl, rfl, rfl, rfl, rfl, rfl, rfl, rfl⟩

@[simp] theorem markOutgoing_fields (b w : List (Fin 4)) (fc : FanCtl) :
    (markOutgoing b w fc).lead = fc.lead ∧ (markOutgoing b w fc).stage = fc.stage ∧
    (markOutgoing b w fc).dwell = fc.dwell ∧ (markOutgoing b w fc).rotationLeft = fc.rotationLeft ∧
    (markOutgoing b w fc).spacing = fc.spacing ∧ (markOutgoing b w fc).release = fc.release ∧
    (markOutgoing b w fc).boost = fc.boost ∧ (markOutgoing b w fc).counters = fc.counters :=
  ⟨rfl, rfl, rfl, rfl, rfl, rfl, rfl, rfl⟩

@[simp] theorem applyWanted_fields (cfg : Settings) (w : List (Fin 4)) (fc : FanCtl) :
    (applyWanted cfg w fc).lead = fc.lead ∧ (applyWanted cfg w fc).stage = fc.stage ∧
    (applyWanted cfg w fc).dwell = fc.dwell ∧ (applyWanted cfg w fc).rotationLeft = fc.rotationLeft ∧
    (applyWanted cfg w fc).spacing = fc.spacing ∧ (applyWanted cfg w fc).release = fc.release ∧
    (applyWanted cfg w fc).boost = fc.boost ∧ (applyWanted cfg w fc).counters = fc.counters ∧
    (applyWanted cfg w fc).incoming = fc.incoming :=
  ⟨rfl, rfl, rfl, rfl, rfl, rfl, rfl, rfl, rfl⟩

@[simp] theorem select_frame (e : Env) (c : Comms) :
    (select e c).fan.lead = c.fan.lead ∧ (select e c).fan.stage = c.fan.stage ∧
    (select e c).fan.dwell = c.fan.dwell ∧ (select e c).fan.rotationLeft = c.fan.rotationLeft ∧
    (select e c).fan.boost = c.fan.boost ∧ (select e c).link.state = c.link.state ∧
    (select e c).link.wire = c.link.wire ∧ (select e c).link.busFreeCount = c.link.busFreeCount ∧
    (select e c).link.stretch = c.link.stretch ∧ (select e c).link.join = c.link.join ∧
    (select e c).link.stuck = c.link.stuck ∧ (select e c).link.stuckSpell = c.link.stuckSpell ∧
    (select e c).link.unheardDrops = c.link.unheardDrops ∧
    (select e c).link.lateRecord = c.link.lateRecord ∧ (select e c).link.report = c.link.report ∧
    (select e c).link.spacing = c.link.spacing ∧ (select e c).link.eventPending = c.link.eventPending ∧
    (select e c).link.refreshMark = c.link.refreshMark ∧ (select e c).link.counters = c.link.counters ∧
    (select e c).service.queue = c.service.queue ∧ (select e c).service.restartPending = c.service.restartPending ∧
    (select e c).notices = c.notices := by
  simp [select]

@[simp] theorem selectRotated_frame (e : Env) (b : List (Fin 4)) (c : Comms) :
    (selectRotated e b c).fan.lead = c.fan.lead ∧ (selectRotated e b c).fan.stage = c.fan.stage ∧
    (selectRotated e b c).fan.dwell = c.fan.dwell ∧ (selectRotated e b c).fan.rotationLeft = c.fan.rotationLeft ∧
    (selectRotated e b c).fan.boost = c.fan.boost ∧ (selectRotated e b c).link.state = c.link.state ∧
    (selectRotated e b c).link.wire = c.link.wire ∧ (selectRotated e b c).link.busFreeCount = c.link.busFreeCount ∧
    (selectRotated e b c).link.stretch = c.link.stretch ∧ (selectRotated e b c).link.join = c.link.join ∧
    (selectRotated e b c).link.stuck = c.link.stuck ∧ (selectRotated e b c).link.stuckSpell = c.link.stuckSpell ∧
    (selectRotated e b c).link.unheardDrops = c.link.unheardDrops ∧
    (selectRotated e b c).link.lateRecord = c.link.lateRecord ∧ (selectRotated e b c).link.report = c.link.report ∧
    (selectRotated e b c).link.spacing = c.link.spacing ∧
    (selectRotated e b c).link.eventPending = c.link.eventPending ∧
    (selectRotated e b c).link.refreshMark = c.link.refreshMark ∧
    (selectRotated e b c).link.counters = c.link.counters ∧ (selectRotated e b c).service.queue = c.service.queue ∧
    (selectRotated e b c).service.restartPending = c.service.restartPending ∧
    (selectRotated e b c).notices = c.notices := by
  simp [selectRotated]

@[simp] theorem setStage_frame (e : Env) (n : Nat) (c : Comms) :
    (setStage e n c).fan.lead = c.fan.lead ∧ (setStage e n c).fan.rotationLeft = c.fan.rotationLeft ∧
    (setStage e n c).fan.boost = c.fan.boost ∧ (setStage e n c).link.state = c.link.state ∧
    (setStage e n c).link.wire = c.link.wire ∧ (setStage e n c).link.busFreeCount = c.link.busFreeCount ∧
    (setStage e n c).link.stretch = c.link.stretch ∧ (setStage e n c).link.join = c.link.join ∧
    (setStage e n c).link.stuck = c.link.stuck ∧ (setStage e n c).link.stuckSpell = c.link.stuckSpell ∧
    (setStage e n c).link.unheardDrops = c.link.unheardDrops ∧
    (setStage e n c).link.lateRecord = c.link.lateRecord ∧ (setStage e n c).link.report = c.link.report ∧
    (setStage e n c).link.counters = c.link.counters ∧ (setStage e n c).service.queue = c.service.queue ∧
    (setStage e n c).service.restartPending = c.service.restartPending ∧ (setStage e n c).notices = c.notices := by
  simp [setStage]

@[simp] theorem reworkDemand_frame (e : Env) (c : Comms) :
    (reworkDemand e c).fan.lead = c.fan.lead ∧ (reworkDemand e c).fan.rotationLeft = c.fan.rotationLeft ∧
    (reworkDemand e c).fan.boost = c.fan.boost ∧ (reworkDemand e c).link.state = c.link.state ∧
    (reworkDemand e c).link.wire = c.link.wire ∧ (reworkDemand e c).link.busFreeCount = c.link.busFreeCount ∧
    (reworkDemand e c).link.stretch = c.link.stretch ∧ (reworkDemand e c).link.join = c.link.join ∧
    (reworkDemand e c).link.stuck = c.link.stuck ∧ (reworkDemand e c).link.stuckSpell = c.link.stuckSpell ∧
    (reworkDemand e c).link.unheardDrops = c.link.unheardDrops ∧
    (reworkDemand e c).link.lateRecord = c.link.lateRecord ∧ (reworkDemand e c).link.report = c.link.report ∧
    (reworkDemand e c).link.counters = c.link.counters ∧ (reworkDemand e c).service.queue = c.service.queue ∧
    (reworkDemand e c).service.restartPending = c.service.restartPending ∧
    (reworkDemand e c).notices = c.notices := by
  unfold reworkDemand
  split
  · simp
  · split
    · simp
    · split <;> simp

/-! ## Supervision, rotation, locks, boost -/

@[simp] theorem changeFan_frame (e : Env) (i : Fin 4) (f : Fan → Fan) (c : Comms) :
    (changeFan e i f c).fan.lead = c.fan.lead ∧ (changeFan e i f c).fan.stage = c.fan.stage ∧
    (changeFan e i f c).fan.dwell = c.fan.dwell ∧ (changeFan e i f c).fan.rotationLeft = c.fan.rotationLeft ∧
    (changeFan e i f c).fan.boost = c.fan.boost ∧ (changeFan e i f c).link.state = c.link.state ∧
    (changeFan e i f c).link.wire = c.link.wire ∧ (changeFan e i f c).link.busFreeCount = c.link.busFreeCount ∧
    (changeFan e i f c).link.stretch = c.link.stretch ∧ (changeFan e i f c).link.join = c.link.join ∧
    (changeFan e i f c).link.stuck = c.link.stuck ∧ (changeFan e i f c).link.stuckSpell = c.link.stuckSpell ∧
    (changeFan e i f c).link.unheardDrops = c.link.unheardDrops ∧
    (changeFan e i f c).link.lateRecord = c.link.lateRecord ∧ (changeFan e i f c).link.report = c.link.report ∧
    (changeFan e i f c).link.spacing = c.link.spacing ∧ (changeFan e i f c).link.eventPending = c.link.eventPending ∧
    (changeFan e i f c).link.refreshMark = c.link.refreshMark ∧ (changeFan e i f c).link.counters = c.link.counters ∧
    (changeFan e i f c).service.queue = c.service.queue ∧
    (changeFan e i f c).service.restartPending = c.service.restartPending ∧
    (changeFan e i f c).notices = c.notices := by
  simp [changeFan]

@[simp] theorem enterFault_frame (e : Env) (i : Fin 4) (k : FaultCause) (c : Comms) :
    (enterFault e i k c).fan.lead = c.fan.lead ∧ (enterFault e i k c).fan.stage = c.fan.stage ∧
    (enterFault e i k c).fan.dwell = c.fan.dwell ∧ (enterFault e i k c).fan.rotationLeft = c.fan.rotationLeft ∧
    (enterFault e i k c).fan.boost = c.fan.boost ∧ (enterFault e i k c).link.state = c.link.state ∧
    (enterFault e i k c).link.wire = c.link.wire ∧ (enterFault e i k c).link.busFreeCount = c.link.busFreeCount ∧
    (enterFault e i k c).link.stretch = c.link.stretch ∧ (enterFault e i k c).link.join = c.link.join ∧
    (enterFault e i k c).link.stuck = c.link.stuck ∧ (enterFault e i k c).link.stuckSpell = c.link.stuckSpell ∧
    (enterFault e i k c).link.unheardDrops = c.link.unheardDrops ∧
    (enterFault e i k c).link.lateRecord = c.link.lateRecord ∧ (enterFault e i k c).link.report = c.link.report ∧
    (enterFault e i k c).link.spacing = c.link.spacing ∧
    (enterFault e i k c).link.eventPending = c.link.eventPending ∧
    (enterFault e i k c).link.refreshMark = c.link.refreshMark ∧
    (enterFault e i k c).link.counters = c.link.counters ∧ (enterFault e i k c).service.queue = c.service.queue ∧
    (enterFault e i k c).service.restartPending = c.service.restartPending ∧
    (enterFault e i k c).notices = c.notices := by
  simp [enterFault]

@[simp] theorem spinUpCheck_frame (e : Env) (i : Fin 4) (c : Comms) :
    (spinUpCheck e i c).fan.lead = c.fan.lead ∧ (spinUpCheck e i c).fan.stage = c.fan.stage ∧
    (spinUpCheck e i c).fan.dwell = c.fan.dwell ∧ (spinUpCheck e i c).fan.rotationLeft = c.fan.rotationLeft ∧
    (spinUpCheck e i c).fan.boost = c.fan.boost ∧ (spinUpCheck e i c).link.state = c.link.state ∧
    (spinUpCheck e i c).link.wire = c.link.wire ∧ (spinUpCheck e i c).link.busFreeCount = c.link.busFreeCount ∧
    (spinUpCheck e i c).link.stretch = c.link.stretch ∧ (spinUpCheck e i c).link.join = c.link.join ∧
    (spinUpCheck e i c).link.stuck = c.link.stuck ∧ (spinUpCheck e i c).link.stuckSpell = c.link.stuckSpell ∧
    (spinUpCheck e i c).link.unheardDrops = c.link.unheardDrops ∧
    (spinUpCheck e i c).link.lateRecord = c.link.lateRecord ∧ (spinUpCheck e i c).link.report = c.link.report ∧
    (spinUpCheck e i c).link.spacing = c.link.spacing ∧ (spinUpCheck e i c).link.eventPending = c.link.eventPending ∧
    (spinUpCheck e i c).link.refreshMark = c.link.refreshMark ∧ (spinUpCheck e i c).link.counters = c.link.counters ∧
    (spinUpCheck e i c).service.queue = c.service.queue ∧
    (spinUpCheck e i c).service.restartPending = c.service.restartPending ∧
    (spinUpCheck e i c).notices = c.notices := by
  unfold spinUpCheck
  split
  · split <;> simp
  · simp

@[simp] theorem spinUpExpiry_frame (e : Env) (i : Fin 4) (c : Comms) :
    (spinUpExpiry e i c).fan.lead = c.fan.lead ∧ (spinUpExpiry e i c).fan.stage = c.fan.stage ∧
    (spinUpExpiry e i c).fan.dwell = c.fan.dwell ∧ (spinUpExpiry e i c).fan.rotationLeft = c.fan.rotationLeft ∧
    (spinUpExpiry e i c).fan.boost = c.fan.boost ∧ (spinUpExpiry e i c).link.state = c.link.state ∧
    (spinUpExpiry e i c).link.wire = c.link.wire ∧ (spinUpExpiry e i c).link.busFreeCount = c.link.busFreeCount ∧
    (spinUpExpiry e i c).link.stretch = c.link.stretch ∧ (spinUpExpiry e i c).link.join = c.link.join ∧
    (spinUpExpiry e i c).link.stuck = c.link.stuck ∧ (spinUpExpiry e i c).link.stuckSpell = c.link.stuckSpell ∧
    (spinUpExpiry e i c).link.unheardDrops = c.link.unheardDrops ∧
    (spinUpExpiry e i c).link.lateRecord = c.link.lateRecord ∧ (spinUpExpiry e i c).link.report = c.link.report ∧
    (spinUpExpiry e i c).link.spacing = c.link.spacing ∧
    (spinUpExpiry e i c).link.eventPending = c.link.eventPending ∧
    (spinUpExpiry e i c).link.refreshMark = c.link.refreshMark ∧
    (spinUpExpiry e i c).link.counters = c.link.counters ∧ (spinUpExpiry e i c).service.queue = c.service.queue ∧
    (spinUpExpiry e i c).service.restartPending = c.service.restartPending ∧
    (spinUpExpiry e i c).notices = c.notices := by
  unfold spinUpExpiry
  simp only
  split
  · split <;> simp
  · simp

@[simp] theorem failingCheck_frame (e : Env) (i : Fin 4) (c : Comms) :
    (failingCheck e i c).fan.lead = c.fan.lead ∧ (failingCheck e i c).fan.stage = c.fan.stage ∧
    (failingCheck e i c).fan.dwell = c.fan.dwell ∧ (failingCheck e i c).fan.rotationLeft = c.fan.rotationLeft ∧
    (failingCheck e i c).fan.boost = c.fan.boost ∧ (failingCheck e i c).link.state = c.link.state ∧
    (failingCheck e i c).link.wire = c.link.wire ∧ (failingCheck e i c).link.busFreeCount = c.link.busFreeCount ∧
    (failingCheck e i c).link.stretch = c.link.stretch ∧ (failingCheck e i c).link.join = c.link.join ∧
    (failingCheck e i c).link.stuck = c.link.stuck ∧ (failingCheck e i c).link.stuckSpell = c.link.stuckSpell ∧
    (failingCheck e i c).link.unheardDrops = c.link.unheardDrops ∧
    (failingCheck e i c).link.lateRecord = c.link.lateRecord ∧ (failingCheck e i c).link.report = c.link.report ∧
    (failingCheck e i c).link.spacing = c.link.spacing ∧
    (failingCheck e i c).link.eventPending = c.link.eventPending ∧
    (failingCheck e i c).link.refreshMark = c.link.refreshMark ∧
    (failingCheck e i c).link.counters = c.link.counters ∧ (failingCheck e i c).service.queue = c.service.queue ∧
    (failingCheck e i c).service.restartPending = c.service.restartPending ∧
    (failingCheck e i c).notices = c.notices := by
  unfold failingCheck
  simp only
  split <;> simp

@[simp] theorem runningCheck_frame (e : Env) (i : Fin 4) (c : Comms) :
    (runningCheck e i c).fan.lead = c.fan.lead ∧ (runningCheck e i c).fan.stage = c.fan.stage ∧
    (runningCheck e i c).fan.dwell = c.fan.dwell ∧ (runningCheck e i c).fan.rotationLeft = c.fan.rotationLeft ∧
    (runningCheck e i c).fan.boost = c.fan.boost ∧ (runningCheck e i c).link.state = c.link.state ∧
    (runningCheck e i c).link.wire = c.link.wire ∧ (runningCheck e i c).link.busFreeCount = c.link.busFreeCount ∧
    (runningCheck e i c).link.stretch = c.link.stretch ∧ (runningCheck e i c).link.join = c.link.join ∧
    (runningCheck e i c).link.stuck = c.link.stuck ∧ (runningCheck e i c).link.stuckSpell = c.link.stuckSpell ∧
    (runningCheck e i c).link.unheardDrops = c.link.unheardDrops ∧
    (runningCheck e i c).link.lateRecord = c.link.lateRecord ∧ (runningCheck e i c).link.report = c.link.report ∧
    (runningCheck e i c).link.spacing = c.link.spacing ∧
    (runningCheck e i c).link.eventPending = c.link.eventPending ∧
    (runningCheck e i c).link.refreshMark = c.link.refreshMark ∧
    (runningCheck e i c).link.counters = c.link.counters ∧ (runningCheck e i c).service.queue = c.service.queue ∧
    (runningCheck e i c).service.restartPending = c.service.restartPending ∧
    (runningCheck e i c).notices = c.notices := by
  unfold runningCheck
  simp only
  split
  · split <;> simp
  · simp

@[simp] theorem holdExpiry_frame (e : Env) (i : Fin 4) (c : Comms) :
    (holdExpiry e i c).fan.lead = c.fan.lead ∧ (holdExpiry e i c).fan.stage = c.fan.stage ∧
    (holdExpiry e i c).fan.dwell = c.fan.dwell ∧ (holdExpiry e i c).fan.rotationLeft = c.fan.rotationLeft ∧
    (holdExpiry e i c).fan.boost = c.fan.boost ∧ (holdExpiry e i c).link.state = c.link.state ∧
    (holdExpiry e i c).link.wire = c.link.wire ∧ (holdExpiry e i c).link.busFreeCount = c.link.busFreeCount ∧
    (holdExpiry e i c).link.stretch = c.link.stretch ∧ (holdExpiry e i c).link.join = c.link.join ∧
    (holdExpiry e i c).link.stuck = c.link.stuck ∧ (holdExpiry e i c).link.stuckSpell = c.link.stuckSpell ∧
    (holdExpiry e i c).link.unheardDrops = c.link.unheardDrops ∧
    (holdExpiry e i c).link.lateRecord = c.link.lateRecord ∧ (holdExpiry e i c).link.report = c.link.report ∧
    (holdExpiry e i c).link.spacing = c.link.spacing ∧ (holdExpiry e i c).link.eventPending = c.link.eventPending ∧
    (holdExpiry e i c).link.refreshMark = c.link.refreshMark ∧ (holdExpiry e i c).link.counters = c.link.counters ∧
    (holdExpiry e i c).service.queue = c.service.queue ∧
    (holdExpiry e i c).service.restartPending = c.service.restartPending ∧
    (holdExpiry e i c).notices = c.notices := by
  unfold holdExpiry
  simp only
  split
  · split
    · simp
    · split <;> simp
    · simp
  · simp

@[simp] theorem dwellExpiry_frame (e : Env) (c : Comms) :
    (dwellExpiry e c).fan.lead = c.fan.lead ∧ (dwellExpiry e c).fan.rotationLeft = c.fan.rotationLeft ∧
    (dwellExpiry e c).fan.boost = c.fan.boost ∧ (dwellExpiry e c).link.state = c.link.state ∧
    (dwellExpiry e c).link.wire = c.link.wire ∧ (dwellExpiry e c).link.busFreeCount = c.link.busFreeCount ∧
    (dwellExpiry e c).link.stretch = c.link.stretch ∧ (dwellExpiry e c).link.join = c.link.join ∧
    (dwellExpiry e c).link.stuck = c.link.stuck ∧ (dwellExpiry e c).link.stuckSpell = c.link.stuckSpell ∧
    (dwellExpiry e c).link.unheardDrops = c.link.unheardDrops ∧
    (dwellExpiry e c).link.lateRecord = c.link.lateRecord ∧ (dwellExpiry e c).link.report = c.link.report ∧
    (dwellExpiry e c).link.counters = c.link.counters ∧ (dwellExpiry e c).service.queue = c.service.queue ∧
    (dwellExpiry e c).service.restartPending = c.service.restartPending ∧ (dwellExpiry e c).notices = c.notices := by
  unfold dwellExpiry
  split <;> simp

@[simp] theorem spacingExpiry_frame (e : Env) (c : Comms) :
    (spacingExpiry e c).fan.lead = c.fan.lead ∧ (spacingExpiry e c).fan.stage = c.fan.stage ∧
    (spacingExpiry e c).fan.dwell = c.fan.dwell ∧ (spacingExpiry e c).fan.rotationLeft = c.fan.rotationLeft ∧
    (spacingExpiry e c).fan.boost = c.fan.boost ∧ (spacingExpiry e c).fan.incoming = c.fan.incoming ∧
    (spacingExpiry e c).fan.fanShort = c.fan.fanShort ∧ (spacingExpiry e c).fan.noVent = c.fan.noVent ∧
    (spacingExpiry e c).link.state = c.link.state ∧ (spacingExpiry e c).link.wire = c.link.wire ∧
    (spacingExpiry e c).link.busFreeCount = c.link.busFreeCount ∧ (spacingExpiry e c).link.stretch = c.link.stretch ∧
    (spacingExpiry e c).link.join = c.link.join ∧ (spacingExpiry e c).link.stuck = c.link.stuck ∧
    (spacingExpiry e c).link.stuckSpell = c.link.stuckSpell ∧
    (spacingExpiry e c).link.unheardDrops = c.link.unheardDrops ∧
    (spacingExpiry e c).link.lateRecord = c.link.lateRecord ∧ (spacingExpiry e c).link.report = c.link.report ∧
    (spacingExpiry e c).link.spacing = c.link.spacing ∧ (spacingExpiry e c).link.eventPending = c.link.eventPending ∧
    (spacingExpiry e c).link.refreshMark = c.link.refreshMark ∧ (spacingExpiry e c).link.counters = c.link.counters ∧
    (spacingExpiry e c).service.queue = c.service.queue ∧
    (spacingExpiry e c).service.restartPending = c.service.restartPending ∧
    (spacingExpiry e c).notices = c.notices := by
  unfold spacingExpiry
  split
  · simp only
    split <;> simp
  · simp

@[simp] theorem rotate_frame (e : Env) (c : Comms) :
    (rotate e c).fan.stage = c.fan.stage ∧ (rotate e c).fan.dwell = c.fan.dwell ∧
    (rotate e c).fan.rotationLeft = c.fan.rotationLeft ∧ (rotate e c).fan.boost = c.fan.boost ∧
    (rotate e c).link.state = c.link.state ∧ (rotate e c).link.wire = c.link.wire ∧
    (rotate e c).link.busFreeCount = c.link.busFreeCount ∧ (rotate e c).link.stretch = c.link.stretch ∧
    (rotate e c).link.join = c.link.join ∧ (rotate e c).link.stuck = c.link.stuck ∧
    (rotate e c).link.stuckSpell = c.link.stuckSpell ∧
    (rotate e c).link.unheardDrops = c.link.unheardDrops ∧ (rotate e c).link.lateRecord = c.link.lateRecord ∧
    (rotate e c).link.report = c.link.report ∧ (rotate e c).link.spacing = c.link.spacing ∧
    (rotate e c).link.eventPending = c.link.eventPending ∧ (rotate e c).link.refreshMark = c.link.refreshMark ∧
    (rotate e c).link.counters = c.link.counters ∧ (rotate e c).service.queue = c.service.queue ∧
    (rotate e c).service.restartPending = c.service.restartPending ∧ (rotate e c).notices = c.notices := by
  simp [rotate]

@[simp] theorem rotationExpiry_frame (e : Env) (c : Comms) :
    (rotationExpiry e c).fan.stage = c.fan.stage ∧ (rotationExpiry e c).fan.dwell = c.fan.dwell ∧
    (rotationExpiry e c).fan.boost = c.fan.boost ∧ (rotationExpiry e c).link.state = c.link.state ∧
    (rotationExpiry e c).link.wire = c.link.wire ∧ (rotationExpiry e c).link.busFreeCount = c.link.busFreeCount ∧
    (rotationExpiry e c).link.stretch = c.link.stretch ∧ (rotationExpiry e c).link.join = c.link.join ∧
    (rotationExpiry e c).link.stuck = c.link.stuck ∧ (rotationExpiry e c).link.stuckSpell = c.link.stuckSpell ∧
    (rotationExpiry e c).link.unheardDrops = c.link.unheardDrops ∧
    (rotationExpiry e c).link.lateRecord = c.link.lateRecord ∧ (rotationExpiry e c).link.report = c.link.report ∧
    (rotationExpiry e c).link.spacing = c.link.spacing ∧
    (rotationExpiry e c).link.eventPending = c.link.eventPending ∧
    (rotationExpiry e c).link.refreshMark = c.link.refreshMark ∧
    (rotationExpiry e c).link.counters = c.link.counters ∧ (rotationExpiry e c).service.queue = c.service.queue ∧
    (rotationExpiry e c).service.restartPending = c.service.restartPending ∧
    (rotationExpiry e c).notices = c.notices := by
  unfold rotationExpiry
  split
  · simp only
    split <;> simp
  · simp

@[simp] theorem boostExpiry_frame (e : Env) (c : Comms) :
    (boostExpiry e c).fan.lead = c.fan.lead ∧ (boostExpiry e c).fan.rotationLeft = c.fan.rotationLeft ∧
    (boostExpiry e c).link.state = c.link.state ∧ (boostExpiry e c).link.wire = c.link.wire ∧
    (boostExpiry e c).link.busFreeCount = c.link.busFreeCount ∧ (boostExpiry e c).link.stretch = c.link.stretch ∧
    (boostExpiry e c).link.join = c.link.join ∧ (boostExpiry e c).link.stuck = c.link.stuck ∧
    (boostExpiry e c).link.stuckSpell = c.link.stuckSpell ∧
    (boostExpiry e c).link.unheardDrops = c.link.unheardDrops ∧
    (boostExpiry e c).link.lateRecord = c.link.lateRecord ∧ (boostExpiry e c).link.report = c.link.report ∧
    (boostExpiry e c).link.counters = c.link.counters ∧ (boostExpiry e c).service.queue = c.service.queue ∧
    (boostExpiry e c).service.restartPending = c.service.restartPending ∧ (boostExpiry e c).notices = c.notices := by
  unfold boostExpiry
  split <;> simp

@[simp] theorem setBoost_frame (e : Env) (n m : Nat) (c : Comms) :
    (setBoost e n m c).fan.lead = c.fan.lead ∧ (setBoost e n m c).fan.rotationLeft = c.fan.rotationLeft ∧
    (setBoost e n m c).link.state = c.link.state ∧ (setBoost e n m c).link.wire = c.link.wire ∧
    (setBoost e n m c).link.busFreeCount = c.link.busFreeCount ∧ (setBoost e n m c).link.stretch = c.link.stretch ∧
    (setBoost e n m c).link.join = c.link.join ∧ (setBoost e n m c).link.stuck = c.link.stuck ∧
    (setBoost e n m c).link.stuckSpell = c.link.stuckSpell ∧
    (setBoost e n m c).link.unheardDrops = c.link.unheardDrops ∧
    (setBoost e n m c).link.lateRecord = c.link.lateRecord ∧ (setBoost e n m c).link.report = c.link.report ∧
    (setBoost e n m c).link.counters = c.link.counters ∧ (setBoost e n m c).service.queue = c.service.queue ∧
    (setBoost e n m c).service.restartPending = c.service.restartPending ∧
    (setBoost e n m c).notices = c.notices := by
  simp [setBoost]

@[simp] theorem lockFan_frame (e : Env) (i : Fin 4) (c : Comms) :
    (lockFan e i c).fan.lead = c.fan.lead ∧ (lockFan e i c).fan.stage = c.fan.stage ∧
    (lockFan e i c).fan.dwell = c.fan.dwell ∧ (lockFan e i c).fan.rotationLeft = c.fan.rotationLeft ∧
    (lockFan e i c).fan.boost = c.fan.boost ∧ (lockFan e i c).link.state = c.link.state ∧
    (lockFan e i c).link.wire = c.link.wire ∧ (lockFan e i c).link.busFreeCount = c.link.busFreeCount ∧
    (lockFan e i c).link.stretch = c.link.stretch ∧ (lockFan e i c).link.join = c.link.join ∧
    (lockFan e i c).link.stuck = c.link.stuck ∧ (lockFan e i c).link.stuckSpell = c.link.stuckSpell ∧
    (lockFan e i c).link.unheardDrops = c.link.unheardDrops ∧
    (lockFan e i c).link.lateRecord = c.link.lateRecord ∧ (lockFan e i c).link.report = c.link.report ∧
    (lockFan e i c).link.spacing = c.link.spacing ∧ (lockFan e i c).link.eventPending = c.link.eventPending ∧
    (lockFan e i c).link.refreshMark = c.link.refreshMark ∧ (lockFan e i c).link.counters = c.link.counters ∧
    (lockFan e i c).service.queue = c.service.queue ∧
    (lockFan e i c).service.restartPending = c.service.restartPending ∧ (lockFan e i c).notices = c.notices := by
  simp [lockFan]

@[simp] theorem freeFan_frame (e : Env) (i : Fin 4) (c : Comms) :
    (freeFan e i c).fan.lead = c.fan.lead ∧ (freeFan e i c).fan.stage = c.fan.stage ∧
    (freeFan e i c).fan.dwell = c.fan.dwell ∧ (freeFan e i c).fan.rotationLeft = c.fan.rotationLeft ∧
    (freeFan e i c).fan.boost = c.fan.boost ∧ (freeFan e i c).link.state = c.link.state ∧
    (freeFan e i c).link.wire = c.link.wire ∧ (freeFan e i c).link.busFreeCount = c.link.busFreeCount ∧
    (freeFan e i c).link.stretch = c.link.stretch ∧ (freeFan e i c).link.join = c.link.join ∧
    (freeFan e i c).link.stuck = c.link.stuck ∧ (freeFan e i c).link.stuckSpell = c.link.stuckSpell ∧
    (freeFan e i c).link.unheardDrops = c.link.unheardDrops ∧
    (freeFan e i c).link.lateRecord = c.link.lateRecord ∧ (freeFan e i c).link.report = c.link.report ∧
    (freeFan e i c).link.spacing = c.link.spacing ∧ (freeFan e i c).link.eventPending = c.link.eventPending ∧
    (freeFan e i c).link.refreshMark = c.link.refreshMark ∧ (freeFan e i c).link.counters = c.link.counters ∧
    (freeFan e i c).service.queue = c.service.queue ∧
    (freeFan e i c).service.restartPending = c.service.restartPending ∧ (freeFan e i c).notices = c.notices := by
  simp [freeFan]

/-! ## Outcomes of a frame and the states of the link -/

@[simp] theorem Link.staysQueued_fields (f : Frame) (l : Link) :
    (l.staysQueued f).state = l.state ∧ (l.staysQueued f).queue = l.queue ∧ (l.staysQueued f).wire = l.wire ∧
    (l.staysQueued f).busFreeCount = l.busFreeCount ∧ (l.staysQueued f).stretch = l.stretch ∧
    (l.staysQueued f).join = l.join ∧ (l.staysQueued f).stuck = l.stuck ∧
    (l.staysQueued f).stuckSpell = l.stuckSpell ∧
    (l.staysQueued f).unheardDrops = l.unheardDrops ∧ (l.staysQueued f).lateRecord = l.lateRecord ∧
    (l.staysQueued f).report = l.report ∧ (l.staysQueued f).spacing = l.spacing ∧
    (l.staysQueued f).eventPending = l.eventPending ∧ (l.staysQueued f).counters = l.counters ∧
    (l.staysQueued f).peer = l.peer := by
  unfold Link.staysQueued
  split <;> simp

@[simp] theorem presentFirst_frame (e : Env) (c : Comms) :
    (presentFirst e c).fan.fans = c.fan.fans ∧ (presentFirst e c).fan.lead = c.fan.lead ∧
    (presentFirst e c).fan.stage = c.fan.stage ∧ (presentFirst e c).fan.dwell = c.fan.dwell ∧
    (presentFirst e c).fan.rotationLeft = c.fan.rotationLeft ∧ (presentFirst e c).fan.spacing = c.fan.spacing ∧
    (presentFirst e c).fan.release = c.fan.release ∧ (presentFirst e c).fan.boost = c.fan.boost ∧
    (presentFirst e c).fan.incoming = c.fan.incoming ∧ (presentFirst e c).fan.fanShort = c.fan.fanShort ∧
    (presentFirst e c).fan.noVent = c.fan.noVent ∧ (presentFirst e c).link.state = c.link.state ∧
    (presentFirst e c).link.wire = c.link.wire ∧ (presentFirst e c).link.busFreeCount = c.link.busFreeCount ∧
    (presentFirst e c).link.stretch = c.link.stretch ∧ (presentFirst e c).link.join = c.link.join ∧
    (presentFirst e c).link.stuck = c.link.stuck ∧ (presentFirst e c).link.stuckSpell = c.link.stuckSpell ∧
    (presentFirst e c).link.unheardDrops = c.link.unheardDrops ∧
    (presentFirst e c).link.lateRecord = c.link.lateRecord ∧ (presentFirst e c).link.report = c.link.report ∧
    (presentFirst e c).link.spacing = c.link.spacing ∧ (presentFirst e c).link.eventPending = c.link.eventPending ∧
    (presentFirst e c).link.refreshMark = c.link.refreshMark ∧ (presentFirst e c).link.counters = c.link.counters ∧
    (presentFirst e c).link.peer = c.link.peer ∧ (presentFirst e c).service = c.service ∧
    (presentFirst e c).notices = c.notices ∧ (presentFirst e c).draws = c.draws := by
  unfold presentFirst
  split <;> simp

@[simp] theorem takeUpMark_frame (e : Env) (p : Payload) (c : Comms) :
    (takeUpMark e p c).fan.lead = c.fan.lead ∧ (takeUpMark e p c).fan.stage = c.fan.stage ∧
    (takeUpMark e p c).fan.dwell = c.fan.dwell ∧ (takeUpMark e p c).fan.rotationLeft = c.fan.rotationLeft ∧
    (takeUpMark e p c).fan.boost = c.fan.boost ∧ (takeUpMark e p c).fan.incoming = c.fan.incoming ∧
    (takeUpMark e p c).fan.fanShort = c.fan.fanShort ∧ (takeUpMark e p c).fan.noVent = c.fan.noVent ∧
    (takeUpMark e p c).link.state = c.link.state ∧ (takeUpMark e p c).link.wire = c.link.wire ∧
    (takeUpMark e p c).link.busFreeCount = c.link.busFreeCount ∧ (takeUpMark e p c).link.stretch = c.link.stretch ∧
    (takeUpMark e p c).link.join = c.link.join ∧ (takeUpMark e p c).link.stuck = c.link.stuck ∧
    (takeUpMark e p c).link.stuckSpell = c.link.stuckSpell ∧
    (takeUpMark e p c).link.unheardDrops = c.link.unheardDrops ∧
    (takeUpMark e p c).link.lateRecord = c.link.lateRecord ∧ (takeUpMark e p c).link.report = c.link.report ∧
    (takeUpMark e p c).link.counters = c.link.counters ∧ (takeUpMark e p c).service.queue = c.service.queue ∧
    (takeUpMark e p c).service.restartPending = c.service.restartPending ∧
    (takeUpMark e p c).notices = c.notices := by
  unfold takeUpMark
  split <;> simp

@[simp] theorem isolate_frame (e : Env) (c : Comms) :
    (isolate e c).fan.lead = c.fan.lead ∧ (isolate e c).fan.stage = c.fan.stage ∧
    (isolate e c).fan.dwell = c.fan.dwell ∧ (isolate e c).fan.rotationLeft = c.fan.rotationLeft ∧
    (isolate e c).fan.boost = c.fan.boost ∧ (isolate e c).fan.incoming = c.fan.incoming ∧
    (isolate e c).fan.fanShort = c.fan.fanShort ∧ (isolate e c).fan.noVent = c.fan.noVent ∧
    (isolate e c).link.wire = c.link.wire ∧ (isolate e c).link.busFreeCount = c.link.busFreeCount ∧
    (isolate e c).link.stretch = c.link.stretch ∧ (isolate e c).link.join = c.link.join ∧
    (isolate e c).link.stuck = c.link.stuck ∧ (isolate e c).link.stuckSpell = c.link.stuckSpell ∧
    (isolate e c).link.unheardDrops = c.link.unheardDrops ∧
    (isolate e c).link.lateRecord = c.link.lateRecord ∧ (isolate e c).link.report = c.link.report ∧
    (isolate e c).link.spacing = c.link.spacing ∧ (isolate e c).link.eventPending = c.link.eventPending ∧
    (isolate e c).link.refreshMark = c.link.refreshMark ∧ (isolate e c).link.peer = c.link.peer ∧
    (isolate e c).service = c.service ∧ (isolate e c).notices = c.notices ∧ (isolate e c).draws = c.draws := by
  simp [isolate]

@[simp] theorem dropFlight_frame (e : Env) (f : Frame) (c : Comms) :
    (dropFlight e f c).fan.lead = c.fan.lead ∧ (dropFlight e f c).fan.stage = c.fan.stage ∧
    (dropFlight e f c).fan.dwell = c.fan.dwell ∧ (dropFlight e f c).fan.rotationLeft = c.fan.rotationLeft ∧
    (dropFlight e f c).fan.boost = c.fan.boost ∧ (dropFlight e f c).fan.incoming = c.fan.incoming ∧
    (dropFlight e f c).fan.fanShort = c.fan.fanShort ∧ (dropFlight e f c).fan.noVent = c.fan.noVent ∧
    (dropFlight e f c).link.wire = c.link.wire ∧ (dropFlight e f c).link.busFreeCount = c.link.busFreeCount ∧
    (dropFlight e f c).link.stretch = c.link.stretch ∧ (dropFlight e f c).link.join = c.link.join ∧
    (dropFlight e f c).link.stuck = c.link.stuck ∧ (dropFlight e f c).link.stuckSpell = c.link.stuckSpell ∧
    (dropFlight e f c).link.lateRecord = c.link.lateRecord ∧
    (dropFlight e f c).link.report = c.link.report ∧ (dropFlight e f c).service.queue = c.service.queue ∧
    (dropFlight e f c).service.restartPending = c.service.restartPending ∧
    (dropFlight e f c).notices = c.notices := by
  unfold dropFlight
  simp only
  split <;> simp

@[simp] theorem failAttempt_frame (e : Env) (u : Bool) (c : Comms) :
    (failAttempt e u c).fan.lead = c.fan.lead ∧ (failAttempt e u c).fan.stage = c.fan.stage ∧
    (failAttempt e u c).fan.dwell = c.fan.dwell ∧ (failAttempt e u c).fan.rotationLeft = c.fan.rotationLeft ∧
    (failAttempt e u c).fan.boost = c.fan.boost ∧ (failAttempt e u c).fan.incoming = c.fan.incoming ∧
    (failAttempt e u c).fan.fanShort = c.fan.fanShort ∧ (failAttempt e u c).fan.noVent = c.fan.noVent ∧
    (failAttempt e u c).link.stretch = c.link.stretch ∧ (failAttempt e u c).link.join = c.link.join ∧
    (failAttempt e u c).link.stuckSpell = c.link.stuckSpell ∧
    (failAttempt e u c).link.lateRecord = c.link.lateRecord ∧ (failAttempt e u c).link.report = c.link.report ∧
    (failAttempt e u c).service.queue = c.service.queue ∧
    (failAttempt e u c).service.restartPending = c.service.restartPending ∧
    (failAttempt e u c).notices = c.notices := by
  unfold failAttempt
  split
  · simp
  · simp only
    split <;> simp

@[simp] theorem countedFailure_frame (e : Env) (u : Bool) (k : LinkCounters → LinkCounters) (c : Comms) :
    (countedFailure e u k c).fan.lead = c.fan.lead ∧ (countedFailure e u k c).fan.stage = c.fan.stage ∧
    (countedFailure e u k c).fan.dwell = c.fan.dwell ∧
    (countedFailure e u k c).fan.rotationLeft = c.fan.rotationLeft ∧
    (countedFailure e u k c).fan.boost = c.fan.boost ∧ (countedFailure e u k c).fan.incoming = c.fan.incoming ∧
    (countedFailure e u k c).fan.fanShort = c.fan.fanShort ∧ (countedFailure e u k c).fan.noVent = c.fan.noVent ∧
    (countedFailure e u k c).link.stretch = c.link.stretch ∧ (countedFailure e u k c).link.join = c.link.join ∧
    (countedFailure e u k c).link.stuckSpell = c.link.stuckSpell ∧
    (countedFailure e u k c).link.lateRecord = c.link.lateRecord ∧
    (countedFailure e u k c).link.report = c.link.report ∧ (countedFailure e u k c).service.queue = c.service.queue ∧
    (countedFailure e u k c).service.restartPending = c.service.restartPending ∧
    (countedFailure e u k c).notices = c.notices := by
  unfold countedFailure
  split <;> simp

@[simp] theorem loseArbitration_frame (c : Comms) :
    (loseArbitration c).fan = c.fan ∧ (loseArbitration c).link.state = c.link.state ∧
    (loseArbitration c).link.stretch = c.link.stretch ∧ (loseArbitration c).link.join = c.link.join ∧
    (loseArbitration c).link.stuckSpell = c.link.stuckSpell ∧
    (loseArbitration c).link.unheardDrops = c.link.unheardDrops ∧
    (loseArbitration c).link.lateRecord = c.link.lateRecord ∧ (loseArbitration c).link.report = c.link.report ∧
    (loseArbitration c).link.spacing = c.link.spacing ∧ (loseArbitration c).link.eventPending = c.link.eventPending ∧
    (loseArbitration c).link.peer = c.link.peer ∧ (loseArbitration c).service = c.service ∧
    (loseArbitration c).notices = c.notices ∧ (loseArbitration c).draws = c.draws := by
  unfold loseArbitration
  split <;> simp

@[simp] theorem dropOnSilent_frame (e : Env) (c : Comms) (f : Frame) :
    (dropOnSilent e c f).fan.lead = c.fan.lead ∧ (dropOnSilent e c f).fan.stage = c.fan.stage ∧
    (dropOnSilent e c f).fan.dwell = c.fan.dwell ∧ (dropOnSilent e c f).fan.rotationLeft = c.fan.rotationLeft ∧
    (dropOnSilent e c f).fan.boost = c.fan.boost ∧ (dropOnSilent e c f).fan.incoming = c.fan.incoming ∧
    (dropOnSilent e c f).fan.fanShort = c.fan.fanShort ∧ (dropOnSilent e c f).fan.noVent = c.fan.noVent ∧
    (dropOnSilent e c f).link.state = c.link.state ∧ (dropOnSilent e c f).link.wire = c.link.wire ∧
    (dropOnSilent e c f).link.busFreeCount = c.link.busFreeCount ∧
    (dropOnSilent e c f).link.stretch = c.link.stretch ∧ (dropOnSilent e c f).link.join = c.link.join ∧
    (dropOnSilent e c f).link.stuck = c.link.stuck ∧ (dropOnSilent e c f).link.stuckSpell = c.link.stuckSpell ∧
    (dropOnSilent e c f).link.unheardDrops = c.link.unheardDrops ∧
    (dropOnSilent e c f).link.lateRecord = c.link.lateRecord ∧ (dropOnSilent e c f).link.report = c.link.report ∧
    (dropOnSilent e c f).link.spacing = c.link.spacing ∧
    (dropOnSilent e c f).link.eventPending = c.link.eventPending ∧
    (dropOnSilent e c f).link.refreshMark = c.link.refreshMark ∧
    (dropOnSilent e c f).service.queue = c.service.queue ∧
    (dropOnSilent e c f).service.restartPending = c.service.restartPending ∧
    (dropOnSilent e c f).notices = c.notices := by
  simp [dropOnSilent]

@[simp] theorem dropsOnSilent_frame (e : Env) (l : List Frame) (c : Comms) :
    (l.foldl (dropOnSilent e) c).fan.lead = c.fan.lead ∧ (l.foldl (dropOnSilent e) c).fan.stage = c.fan.stage ∧
    (l.foldl (dropOnSilent e) c).fan.dwell = c.fan.dwell ∧
    (l.foldl (dropOnSilent e) c).fan.rotationLeft = c.fan.rotationLeft ∧
    (l.foldl (dropOnSilent e) c).fan.boost = c.fan.boost ∧
    (l.foldl (dropOnSilent e) c).fan.incoming = c.fan.incoming ∧
    (l.foldl (dropOnSilent e) c).fan.fanShort = c.fan.fanShort ∧
    (l.foldl (dropOnSilent e) c).fan.noVent = c.fan.noVent ∧ (l.foldl (dropOnSilent e) c).link.state = c.link.state ∧
    (l.foldl (dropOnSilent e) c).link.wire = c.link.wire ∧
    (l.foldl (dropOnSilent e) c).link.busFreeCount = c.link.busFreeCount ∧
    (l.foldl (dropOnSilent e) c).link.stretch = c.link.stretch ∧
    (l.foldl (dropOnSilent e) c).link.join = c.link.join ∧
    (l.foldl (dropOnSilent e) c).link.stuck = c.link.stuck ∧
    (l.foldl (dropOnSilent e) c).link.stuckSpell = c.link.stuckSpell ∧
    (l.foldl (dropOnSilent e) c).link.unheardDrops = c.link.unheardDrops ∧
    (l.foldl (dropOnSilent e) c).link.lateRecord = c.link.lateRecord ∧
    (l.foldl (dropOnSilent e) c).link.report = c.link.report ∧
    (l.foldl (dropOnSilent e) c).link.spacing = c.link.spacing ∧
    (l.foldl (dropOnSilent e) c).link.eventPending = c.link.eventPending ∧
    (l.foldl (dropOnSilent e) c).link.refreshMark = c.link.refreshMark ∧
    (l.foldl (dropOnSilent e) c).service.queue = c.service.queue ∧
    (l.foldl (dropOnSilent e) c).service.restartPending = c.service.restartPending ∧
    (l.foldl (dropOnSilent e) c).notices = c.notices := by
  induction l generalizing c with
  | nil => simp
  | cons f l ih => simp [ih]

@[simp] theorem enterSilent_frame (e : Env) (c : Comms) :
    (enterSilent e c).fan.lead = c.fan.lead ∧ (enterSilent e c).fan.stage = c.fan.stage ∧
    (enterSilent e c).fan.dwell = c.fan.dwell ∧ (enterSilent e c).fan.rotationLeft = c.fan.rotationLeft ∧
    (enterSilent e c).fan.boost = c.fan.boost ∧ (enterSilent e c).fan.incoming = c.fan.incoming ∧
    (enterSilent e c).fan.fanShort = c.fan.fanShort ∧ (enterSilent e c).fan.noVent = c.fan.noVent ∧
    (enterSilent e c).link.wire = c.link.wire ∧ (enterSilent e c).link.busFreeCount = c.link.busFreeCount ∧
    (enterSilent e c).link.join = c.link.join ∧ (enterSilent e c).link.stuck = c.link.stuck ∧
    (enterSilent e c).link.stuckSpell = c.link.stuckSpell ∧
    (enterSilent e c).link.lateRecord = c.link.lateRecord ∧ (enterSilent e c).link.spacing = c.link.spacing ∧
    (enterSilent e c).link.eventPending = c.link.eventPending ∧ (enterSilent e c).service.queue = c.service.queue ∧
    (enterSilent e c).service.restartPending = c.service.restartPending ∧ (enterSilent e c).notices = c.notices := by
  simp [enterSilent]

@[simp] theorem lateCollision_frame (e : Env) (c : Comms) :
    (lateCollision e c).fan.lead = c.fan.lead ∧ (lateCollision e c).fan.stage = c.fan.stage ∧
    (lateCollision e c).fan.dwell = c.fan.dwell ∧ (lateCollision e c).fan.rotationLeft = c.fan.rotationLeft ∧
    (lateCollision e c).fan.boost = c.fan.boost ∧ (lateCollision e c).fan.incoming = c.fan.incoming ∧
    (lateCollision e c).fan.fanShort = c.fan.fanShort ∧ (lateCollision e c).fan.noVent = c.fan.noVent ∧
    (lateCollision e c).link.join = c.link.join ∧ (lateCollision e c).link.stuckSpell = c.link.stuckSpell ∧
    (lateCollision e c).service.queue = c.service.queue ∧
    (lateCollision e c).service.restartPending = c.service.restartPending ∧
    (lateCollision e c).notices = c.notices := by
  unfold lateCollision
  split
  · simp
  · simp only
    split
    · simp
    · split <;> simp

@[simp] theorem permitted_frame (e : Env) (i : Fin 4) (c : Comms) :
    (permitted e i c).fan.lead = c.fan.lead ∧ (permitted e i c).fan.stage = c.fan.stage ∧
    (permitted e i c).fan.dwell = c.fan.dwell ∧ (permitted e i c).fan.rotationLeft = c.fan.rotationLeft ∧
    (permitted e i c).fan.release = c.fan.release ∧ (permitted e i c).fan.boost = c.fan.boost ∧
    (permitted e i c).fan.incoming = c.fan.incoming ∧ (permitted e i c).fan.fanShort = c.fan.fanShort ∧
    (permitted e i c).fan.noVent = c.fan.noVent ∧ (permitted e i c).link = c.link ∧
    (permitted e i c).service = c.service ∧ (permitted e i c).notices = c.notices ∧
    (permitted e i c).draws = c.draws := by
  unfold permitted
  split <;> simp

@[simp] theorem enterNotice_frame (now u f w : Nat) (c : Comms) :
    (enterNotice now u f w c).fan = c.fan ∧ (enterNotice now u f w c).service = c.service ∧
    (enterNotice now u f w c).draws = c.draws ∧ (enterNotice now u f w c).link.queue = c.link.queue ∧
    (enterNotice now u f w c).link.state = c.link.state ∧ (enterNotice now u f w c).link.wire = c.link.wire ∧
    (enterNotice now u f w c).link.busFreeCount = c.link.busFreeCount := by
  unfold enterNotice
  simp only
  split
  · simp
  · split <;> simp

end Sys2Proof.Machine
end

