-- ==== Sys2Proof/Laws/Frame.lean ====
section
/-! SUPPORT. What each operation of the station leaves as it was: for each, the parts of the state it never touches.
A conjunction tagged simp gives simp each of its parts. -/

namespace Sys2Proof.Machine

/-! ## Lamps -/

@[simp] theorem State.presenceStart_frame (s : State) (k : Option (Fin 8)) :
    (s.presenceStart k).mode = s.mode ∧ (s.presenceStart k).settings = s.settings ∧ (s.presenceStart k).now = s.now ∧
    (s.presenceStart k).moment = s.moment ∧ (s.presenceStart k).gas = s.gas ∧ (s.presenceStart k).fume = s.fume ∧
    (s.presenceStart k).comms = s.comms ∧ (s.presenceStart k).peers = s.peers ∧
    (s.presenceStart k).scanner = s.scanner ∧ (s.presenceStart k).tracker = s.tracker ∧
    (s.presenceStart k).guide = s.guide ∧ (s.presenceStart k).zone = s.zone ∧ (s.presenceStart k).store = s.store ∧
    (s.presenceStart k).pending = s.pending := by
  unfold State.presenceStart
  split <;> simp

@[simp] theorem State.presenceEnd_frame (s : State) (k : Option (Fin 8)) :
    (s.presenceEnd k).mode = s.mode ∧ (s.presenceEnd k).settings = s.settings ∧ (s.presenceEnd k).now = s.now ∧
    (s.presenceEnd k).moment = s.moment ∧ (s.presenceEnd k).gas = s.gas ∧ (s.presenceEnd k).fume = s.fume ∧
    (s.presenceEnd k).comms = s.comms ∧ (s.presenceEnd k).peers = s.peers ∧ (s.presenceEnd k).scanner = s.scanner ∧
    (s.presenceEnd k).tracker = s.tracker ∧ (s.presenceEnd k).guide = s.guide ∧ (s.presenceEnd k).zone = s.zone ∧
    (s.presenceEnd k).store = s.store ∧ (s.presenceEnd k).pending = s.pending := by
  unfold State.presenceEnd
  split <;> simp

@[simp] theorem State.bayPresence_frame (s : State) (k : Option (Fin 8)) :
    (s.bayPresence k).mode = s.mode ∧ (s.bayPresence k).settings = s.settings ∧ (s.bayPresence k).now = s.now ∧
    (s.bayPresence k).moment = s.moment ∧ (s.bayPresence k).gas = s.gas ∧ (s.bayPresence k).fume = s.fume ∧
    (s.bayPresence k).comms = s.comms ∧ (s.bayPresence k).peers = s.peers ∧ (s.bayPresence k).scanner = s.scanner ∧
    (s.bayPresence k).tracker = s.tracker ∧ (s.bayPresence k).guide = s.guide ∧ (s.bayPresence k).zone = s.zone ∧
    (s.bayPresence k).store = s.store ∧ (s.bayPresence k).pending = s.pending := by
  unfold State.bayPresence
  split <;> simp

@[simp] theorem State.presentLeadIn_frame (s : State) (k : Fin 8) (d : Bool) :
    (s.presentLeadIn k d).mode = s.mode ∧ (s.presentLeadIn k d).settings = s.settings ∧
    (s.presentLeadIn k d).now = s.now ∧ (s.presentLeadIn k d).moment = s.moment ∧ (s.presentLeadIn k d).gas = s.gas ∧
    (s.presentLeadIn k d).fume = s.fume ∧ (s.presentLeadIn k d).comms = s.comms ∧
    (s.presentLeadIn k d).peers = s.peers ∧ (s.presentLeadIn k d).scanner = s.scanner ∧
    (s.presentLeadIn k d).tracker = s.tracker ∧ (s.presentLeadIn k d).guide = s.guide ∧
    (s.presentLeadIn k d).zone = s.zone ∧ (s.presentLeadIn k d).store = s.store ∧
    (s.presentLeadIn k d).pending = s.pending := by
  unfold State.presentLeadIn
  simp only
  split <;> simp

@[simp] theorem State.lampsZoneChange_frame (s : State) (w : Bool) :
    (s.lampsZoneChange w).mode = s.mode ∧ (s.lampsZoneChange w).settings = s.settings ∧
    (s.lampsZoneChange w).now = s.now ∧ (s.lampsZoneChange w).moment = s.moment ∧ (s.lampsZoneChange w).gas = s.gas ∧
    (s.lampsZoneChange w).fume = s.fume ∧ (s.lampsZoneChange w).comms = s.comms ∧
    (s.lampsZoneChange w).peers = s.peers ∧ (s.lampsZoneChange w).scanner = s.scanner ∧
    (s.lampsZoneChange w).tracker = s.tracker ∧ (s.lampsZoneChange w).guide = s.guide ∧
    (s.lampsZoneChange w).zone = s.zone ∧ (s.lampsZoneChange w).store = s.store ∧
    (s.lampsZoneChange w).pending = s.pending := by
  unfold State.lampsZoneChange
  simp only
  split <;> simp

/-! ## Guidance -/

@[simp] theorem State.reformCandidate_frame (s : State) (p : Fin 4) :
    (s.reformCandidate p).mode = s.mode ∧ (s.reformCandidate p).settings = s.settings ∧
    (s.reformCandidate p).now = s.now ∧ (s.reformCandidate p).moment = s.moment ∧ (s.reformCandidate p).gas = s.gas ∧
    (s.reformCandidate p).fume = s.fume ∧ (s.reformCandidate p).comms = s.comms ∧
    (s.reformCandidate p).peers = s.peers ∧ (s.reformCandidate p).scanner = s.scanner ∧
    (s.reformCandidate p).tracker = s.tracker ∧ (s.reformCandidate p).lamps = s.lamps ∧
    (s.reformCandidate p).zone = s.zone ∧ (s.reformCandidate p).store = s.store ∧
    (s.reformCandidate p).pending = s.pending := by
  unfold State.reformCandidate
  split
  · simp
  · simp only
    split <;> simp

@[simp] theorem State.reformAdvert_frame (s : State) :
    (s.reformAdvert).mode = s.mode ∧ (s.reformAdvert).settings = s.settings ∧ (s.reformAdvert).now = s.now ∧
    (s.reformAdvert).moment = s.moment ∧ (s.reformAdvert).gas = s.gas ∧ (s.reformAdvert).fume = s.fume ∧
    (s.reformAdvert).peers = s.peers ∧ (s.reformAdvert).scanner = s.scanner ∧ (s.reformAdvert).tracker = s.tracker ∧
    (s.reformAdvert).lamps = s.lamps ∧ (s.reformAdvert).zone = s.zone ∧ (s.reformAdvert).store = s.store ∧
    (s.reformAdvert).pending = s.pending := by
  unfold State.reformAdvert
  simp only
  split <;> simp

@[simp] theorem State.reformGuide_frame (s : State) :
    (s.reformGuide).mode = s.mode ∧ (s.reformGuide).settings = s.settings ∧ (s.reformGuide).now = s.now ∧
    (s.reformGuide).moment = s.moment ∧ (s.reformGuide).gas = s.gas ∧ (s.reformGuide).fume = s.fume ∧
    (s.reformGuide).peers = s.peers ∧ (s.reformGuide).scanner = s.scanner ∧ (s.reformGuide).tracker = s.tracker ∧
    (s.reformGuide).lamps = s.lamps ∧ (s.reformGuide).zone = s.zone ∧ (s.reformGuide).store = s.store ∧
    (s.reformGuide).pending = s.pending := by
  unfold State.reformGuide
  simp

@[simp] theorem State.presentCounts_frame (s : State) :
    (s.presentCounts).mode = s.mode ∧ (s.presentCounts).settings = s.settings ∧ (s.presentCounts).now = s.now ∧
    (s.presentCounts).moment = s.moment ∧ (s.presentCounts).gas = s.gas ∧ (s.presentCounts).fume = s.fume ∧
    (s.presentCounts).peers = s.peers ∧ (s.presentCounts).scanner = s.scanner ∧
    (s.presentCounts).tracker = s.tracker ∧ (s.presentCounts).lamps = s.lamps ∧ (s.presentCounts).zone = s.zone ∧
    (s.presentCounts).store = s.store ∧ (s.presentCounts).pending = s.pending := by
  unfold State.presentCounts
  simp

@[simp] theorem State.presentEntry_frame (s : State) (n : Fin 8) :
    (s.presentEntry n).mode = s.mode ∧ (s.presentEntry n).settings = s.settings ∧ (s.presentEntry n).now = s.now ∧
    (s.presentEntry n).moment = s.moment ∧ (s.presentEntry n).gas = s.gas ∧ (s.presentEntry n).fume = s.fume ∧
    (s.presentEntry n).peers = s.peers ∧ (s.presentEntry n).scanner = s.scanner ∧
    (s.presentEntry n).tracker = s.tracker ∧ (s.presentEntry n).lamps = s.lamps ∧ (s.presentEntry n).zone = s.zone ∧
    (s.presentEntry n).store = s.store ∧ (s.presentEntry n).pending = s.pending := by
  unfold State.presentEntry
  split <;> simp

@[simp] theorem State.presentZone_frame (s : State) :
    (s.presentZone).mode = s.mode ∧ (s.presentZone).settings = s.settings ∧ (s.presentZone).now = s.now ∧
    (s.presentZone).moment = s.moment ∧ (s.presentZone).gas = s.gas ∧ (s.presentZone).fume = s.fume ∧
    (s.presentZone).peers = s.peers ∧ (s.presentZone).scanner = s.scanner ∧ (s.presentZone).tracker = s.tracker ∧
    (s.presentZone).lamps = s.lamps ∧ (s.presentZone).zone = s.zone ∧ (s.presentZone).store = s.store ∧
    (s.presentZone).pending = s.pending := by
  unfold State.presentZone
  simp

/-! ## Bays and arrivals -/

@[simp] theorem State.changeBay_frame (s : State) (i : Fin 48) (f : Bay → Bay) :
    (s.changeBay i f).mode = s.mode ∧ (s.changeBay i f).settings = s.settings ∧ (s.changeBay i f).now = s.now ∧
    (s.changeBay i f).moment = s.moment ∧ (s.changeBay i f).gas = s.gas ∧ (s.changeBay i f).fume = s.fume ∧
    (s.changeBay i f).peers = s.peers ∧ (s.changeBay i f).tracker = s.tracker ∧ (s.changeBay i f).lamps = s.lamps ∧
    (s.changeBay i f).zone = s.zone ∧ (s.changeBay i f).store = s.store ∧ (s.changeBay i f).pending = s.pending ∧
    (s.changeBay i f).scanner.lanes = s.scanner.lanes ∧ (s.changeBay i f).scanner.scan = s.scanner.scan ∧
    (s.changeBay i f).scanner.flash = s.scanner.flash ∧ (s.changeBay i f).scanner.flashOn = s.scanner.flashOn := by
  unfold State.changeBay
  simp only
  split <;> simp

@[simp] theorem State.reformLeadInOf_frame (s : State) (k : Fin 8) :
    (s.reformLeadInOf k).mode = s.mode ∧ (s.reformLeadInOf k).settings = s.settings ∧
    (s.reformLeadInOf k).now = s.now ∧ (s.reformLeadInOf k).moment = s.moment ∧ (s.reformLeadInOf k).gas = s.gas ∧
    (s.reformLeadInOf k).fume = s.fume ∧ (s.reformLeadInOf k).comms = s.comms ∧
    (s.reformLeadInOf k).peers = s.peers ∧ (s.reformLeadInOf k).scanner = s.scanner ∧
    (s.reformLeadInOf k).guide = s.guide ∧ (s.reformLeadInOf k).zone = s.zone ∧
    (s.reformLeadInOf k).store = s.store ∧ (s.reformLeadInOf k).pending = s.pending := by
  unfold State.reformLeadInOf
  simp only
  split <;> simp

/-- What each pass of a fold leaves, the fold leaves. -/
theorem foldl_keeps {α β : Type} (p : State → β) (f : State → α → State) (h : ∀ s a, p (f s a) = p s) (l : List α) :
    ∀ s, p (l.foldl f s) = p s := by
  induction l with
  | nil => intro s; rfl
  | cons a l ih => intro s; simp [ih, h]

@[simp] theorem State.reformLeadIn_frame (s : State) :
    (s.reformLeadIn).mode = s.mode ∧ (s.reformLeadIn).settings = s.settings ∧ (s.reformLeadIn).now = s.now ∧
    (s.reformLeadIn).moment = s.moment ∧ (s.reformLeadIn).gas = s.gas ∧ (s.reformLeadIn).fume = s.fume ∧
    (s.reformLeadIn).comms = s.comms ∧ (s.reformLeadIn).peers = s.peers ∧ (s.reformLeadIn).scanner = s.scanner ∧
    (s.reformLeadIn).guide = s.guide ∧ (s.reformLeadIn).zone = s.zone ∧ (s.reformLeadIn).store = s.store ∧
    (s.reformLeadIn).pending = s.pending := by
  unfold State.reformLeadIn
  exact ⟨foldl_keeps (fun s => s.mode) _ (by simp) _ _,
    foldl_keeps (fun s => s.settings) _ (by simp) _ _,
    foldl_keeps (fun s => s.now) _ (by simp) _ _,
    foldl_keeps (fun s => s.moment) _ (by simp) _ _,
    foldl_keeps (fun s => s.gas) _ (by simp) _ _,
    foldl_keeps (fun s => s.fume) _ (by simp) _ _,
    foldl_keeps (fun s => s.comms) _ (by simp) _ _,
    foldl_keeps (fun s => s.peers) _ (by simp) _ _,
    foldl_keeps (fun s => s.scanner) _ (by simp) _ _,
    foldl_keeps (fun s => s.guide) _ (by simp) _ _,
    foldl_keeps (fun s => s.zone) _ (by simp) _ _,
    foldl_keeps (fun s => s.store) _ (by simp) _ _,
    foldl_keeps (fun s => s.pending) _ (by simp) _ _⟩

@[simp] theorem State.holdRequest_frame (s : State) (b : Fin 48) :
    ((s.holdRequest b).state).mode = s.mode ∧ ((s.holdRequest b).state).settings = s.settings ∧
    ((s.holdRequest b).state).now = s.now ∧ ((s.holdRequest b).state).moment = s.moment ∧
    ((s.holdRequest b).state).gas = s.gas ∧ ((s.holdRequest b).state).fume = s.fume ∧
    ((s.holdRequest b).state).peers = s.peers ∧ ((s.holdRequest b).state).tracker = s.tracker ∧
    ((s.holdRequest b).state).lamps = s.lamps ∧ ((s.holdRequest b).state).zone = s.zone ∧
    ((s.holdRequest b).state).store = s.store ∧ ((s.holdRequest b).state).pending = s.pending ∧
    ((s.holdRequest b).state).scanner.lanes = s.scanner.lanes ∧
    ((s.holdRequest b).state).scanner.scan = s.scanner.scan ∧
    ((s.holdRequest b).state).scanner.flash = s.scanner.flash ∧
    ((s.holdRequest b).state).scanner.flashOn = s.scanner.flashOn := by
  unfold State.holdRequest
  split <;> simp

@[simp] theorem State.holdPass_frame (s : State) (b : Fin 48) :
    (s.holdPass b).mode = s.mode ∧ (s.holdPass b).settings = s.settings ∧ (s.holdPass b).now = s.now ∧
    (s.holdPass b).moment = s.moment ∧ (s.holdPass b).gas = s.gas ∧ (s.holdPass b).fume = s.fume ∧
    (s.holdPass b).peers = s.peers ∧ (s.holdPass b).zone = s.zone ∧ (s.holdPass b).store = s.store ∧
    (s.holdPass b).pending = s.pending ∧ (s.holdPass b).scanner.lanes = s.scanner.lanes ∧
    (s.holdPass b).scanner.scan = s.scanner.scan ∧ (s.holdPass b).scanner.flash = s.scanner.flash ∧
    (s.holdPass b).scanner.flashOn = s.scanner.flashOn := by
  unfold State.holdPass
  simp only
  split <;> simp

@[simp] theorem holdPasses_frame (n : Nat) (s : State) :
    (holdPasses n s).mode = s.mode ∧ (holdPasses n s).settings = s.settings ∧ (holdPasses n s).now = s.now ∧
    (holdPasses n s).moment = s.moment ∧ (holdPasses n s).gas = s.gas ∧ (holdPasses n s).fume = s.fume ∧
    (holdPasses n s).peers = s.peers ∧ (holdPasses n s).zone = s.zone ∧ (holdPasses n s).store = s.store ∧
    (holdPasses n s).pending = s.pending ∧ (holdPasses n s).scanner.lanes = s.scanner.lanes ∧
    (holdPasses n s).scanner.scan = s.scanner.scan ∧ (holdPasses n s).scanner.flash = s.scanner.flash ∧
    (holdPasses n s).scanner.flashOn = s.scanner.flashOn := by
  induction n generalizing s with
  | zero => simp [holdPasses]
  | succ n ih =>
    unfold holdPasses
    split
    · simp
    · split
      · simp
      · simp [ih]

@[simp] theorem State.holdRound_frame (s : State) :
    (s.holdRound).mode = s.mode ∧ (s.holdRound).settings = s.settings ∧ (s.holdRound).now = s.now ∧
    (s.holdRound).moment = s.moment ∧ (s.holdRound).gas = s.gas ∧ (s.holdRound).fume = s.fume ∧
    (s.holdRound).peers = s.peers ∧ (s.holdRound).zone = s.zone ∧ (s.holdRound).store = s.store ∧
    (s.holdRound).pending = s.pending ∧ (s.holdRound).scanner.lanes = s.scanner.lanes ∧
    (s.holdRound).scanner.scan = s.scanner.scan ∧ (s.holdRound).scanner.flash = s.scanner.flash ∧
    (s.holdRound).scanner.flashOn = s.scanner.flashOn := by
  unfold State.holdRound
  simp

@[simp] theorem State.release_frame (s : State) (b : Fin 48) :
    (s.release b).mode = s.mode ∧ (s.release b).settings = s.settings ∧ (s.release b).now = s.now ∧
    (s.release b).moment = s.moment ∧ (s.release b).gas = s.gas ∧ (s.release b).fume = s.fume ∧
    (s.release b).peers = s.peers ∧ (s.release b).zone = s.zone ∧ (s.release b).store = s.store ∧
    (s.release b).pending = s.pending ∧ (s.release b).scanner.lanes = s.scanner.lanes ∧
    (s.release b).scanner.scan = s.scanner.scan ∧ (s.release b).scanner.flash = s.scanner.flash ∧
    (s.release b).scanner.flashOn = s.scanner.flashOn := by
  unfold State.release
  split <;> simp

@[simp] theorem State.endHold_frame (s : State) (a : Arrival) :
    (s.endHold a).mode = s.mode ∧ (s.endHold a).settings = s.settings ∧ (s.endHold a).now = s.now ∧
    (s.endHold a).moment = s.moment ∧ (s.endHold a).gas = s.gas ∧ (s.endHold a).fume = s.fume ∧
    (s.endHold a).peers = s.peers ∧ (s.endHold a).zone = s.zone ∧ (s.endHold a).store = s.store ∧
    (s.endHold a).pending = s.pending ∧ (s.endHold a).scanner.lanes = s.scanner.lanes ∧
    (s.endHold a).scanner.scan = s.scanner.scan ∧ (s.endHold a).scanner.flash = s.scanner.flash ∧
    (s.endHold a).scanner.flashOn = s.scanner.flashOn := by
  unfold State.endHold
  split <;> simp

@[simp] theorem State.removeOldest_frame (s : State) (f : ArrivalCounters → ArrivalCounters) :
    (s.removeOldest f).mode = s.mode ∧ (s.removeOldest f).settings = s.settings ∧ (s.removeOldest f).now = s.now ∧
    (s.removeOldest f).moment = s.moment ∧ (s.removeOldest f).gas = s.gas ∧ (s.removeOldest f).fume = s.fume ∧
    (s.removeOldest f).peers = s.peers ∧ (s.removeOldest f).zone = s.zone ∧ (s.removeOldest f).store = s.store ∧
    (s.removeOldest f).pending = s.pending ∧ (s.removeOldest f).scanner.lanes = s.scanner.lanes ∧
    (s.removeOldest f).scanner.scan = s.scanner.scan ∧ (s.removeOldest f).scanner.flash = s.scanner.flash ∧
    (s.removeOldest f).scanner.flashOn = s.scanner.flashOn := by
  unfold State.removeOldest
  split <;> simp

@[simp] theorem State.evict_frame (s : State) :
    (s.evict).mode = s.mode ∧ (s.evict).settings = s.settings ∧ (s.evict).now = s.now ∧ (s.evict).moment = s.moment ∧
    (s.evict).gas = s.gas ∧ (s.evict).fume = s.fume ∧ (s.evict).peers = s.peers ∧ (s.evict).zone = s.zone ∧
    (s.evict).store = s.store ∧ (s.evict).pending = s.pending ∧ (s.evict).scanner.lanes = s.scanner.lanes ∧
    (s.evict).scanner.scan = s.scanner.scan ∧ (s.evict).scanner.flash = s.scanner.flash ∧
    (s.evict).scanner.flashOn = s.scanner.flashOn := by
  unfold State.evict
  split <;> simp

@[simp] theorem State.addArrival_frame (s : State) (src : Source) :
    (s.addArrival src).mode = s.mode ∧ (s.addArrival src).settings = s.settings ∧ (s.addArrival src).now = s.now ∧
    (s.addArrival src).moment = s.moment ∧ (s.addArrival src).gas = s.gas ∧ (s.addArrival src).fume = s.fume ∧
    (s.addArrival src).peers = s.peers ∧ (s.addArrival src).zone = s.zone ∧ (s.addArrival src).store = s.store ∧
    (s.addArrival src).pending = s.pending ∧ (s.addArrival src).scanner.lanes = s.scanner.lanes ∧
    (s.addArrival src).scanner.scan = s.scanner.scan ∧ (s.addArrival src).scanner.flash = s.scanner.flash ∧
    (s.addArrival src).scanner.flashOn = s.scanner.flashOn := by
  unfold State.addArrival
  simp

@[simp] theorem State.passOn_frame (s : State) :
    (s.passOn).mode = s.mode ∧ (s.passOn).settings = s.settings ∧ (s.passOn).now = s.now ∧
    (s.passOn).moment = s.moment ∧ (s.passOn).gas = s.gas ∧ (s.passOn).fume = s.fume ∧ (s.passOn).peers = s.peers ∧
    (s.passOn).zone = s.zone ∧ (s.passOn).store = s.store ∧ (s.passOn).pending = s.pending ∧
    (s.passOn).scanner.lanes = s.scanner.lanes ∧ (s.passOn).scanner.scan = s.scanner.scan ∧
    (s.passOn).scanner.flash = s.scanner.flash ∧ (s.passOn).scanner.flashOn = s.scanner.flashOn := by
  unfold State.passOn
  simp

@[simp] theorem State.parking_frame (s : State) (b : Fin 48) :
    (s.parking b).mode = s.mode ∧ (s.parking b).settings = s.settings ∧ (s.parking b).now = s.now ∧
    (s.parking b).moment = s.moment ∧ (s.parking b).gas = s.gas ∧ (s.parking b).fume = s.fume ∧
    (s.parking b).peers = s.peers ∧ (s.parking b).zone = s.zone ∧ (s.parking b).store = s.store ∧
    (s.parking b).pending = s.pending ∧ (s.parking b).scanner.lanes = s.scanner.lanes ∧
    (s.parking b).scanner.scan = s.scanner.scan ∧ (s.parking b).scanner.flash = s.scanner.flash ∧
    (s.parking b).scanner.flashOn = s.scanner.flashOn := by
  unfold State.parking
  split <;> simp

@[simp] theorem State.holdLost_frame (s : State) (b : Fin 48) :
    (s.holdLost b).mode = s.mode ∧ (s.holdLost b).settings = s.settings ∧ (s.holdLost b).now = s.now ∧
    (s.holdLost b).moment = s.moment ∧ (s.holdLost b).gas = s.gas ∧ (s.holdLost b).fume = s.fume ∧
    (s.holdLost b).peers = s.peers ∧ (s.holdLost b).zone = s.zone ∧ (s.holdLost b).store = s.store ∧
    (s.holdLost b).pending = s.pending ∧ (s.holdLost b).scanner.lanes = s.scanner.lanes ∧
    (s.holdLost b).scanner.scan = s.scanner.scan ∧ (s.holdLost b).scanner.flash = s.scanner.flash ∧
    (s.holdLost b).scanner.flashOn = s.scanner.flashOn := by
  unfold State.holdLost
  simp

@[simp] theorem releases_frame (l : List (Fin 48)) (s : State) :
    (l.foldl State.release s).mode = s.mode ∧ (l.foldl State.release s).settings = s.settings ∧
    (l.foldl State.release s).now = s.now ∧ (l.foldl State.release s).moment = s.moment ∧
    (l.foldl State.release s).gas = s.gas ∧ (l.foldl State.release s).fume = s.fume ∧
    (l.foldl State.release s).peers = s.peers ∧ (l.foldl State.release s).zone = s.zone ∧
    (l.foldl State.release s).store = s.store ∧ (l.foldl State.release s).pending = s.pending ∧
    (l.foldl State.release s).scanner.lanes = s.scanner.lanes ∧
    (l.foldl State.release s).scanner.scan = s.scanner.scan ∧
    (l.foldl State.release s).scanner.flash = s.scanner.flash ∧
    (l.foldl State.release s).scanner.flashOn = s.scanner.flashOn := by
  induction l generalizing s with
  | nil => simp
  | cons b l ih => simp [ih]

@[simp] theorem State.clearArrivals_frame (s : State) :
    (s.clearArrivals).mode = s.mode ∧ (s.clearArrivals).settings = s.settings ∧ (s.clearArrivals).now = s.now ∧
    (s.clearArrivals).moment = s.moment ∧ (s.clearArrivals).gas = s.gas ∧ (s.clearArrivals).fume = s.fume ∧
    (s.clearArrivals).peers = s.peers ∧ (s.clearArrivals).zone = s.zone ∧ (s.clearArrivals).store = s.store ∧
    (s.clearArrivals).pending = s.pending ∧ (s.clearArrivals).scanner.lanes = s.scanner.lanes ∧
    (s.clearArrivals).scanner.scan = s.scanner.scan ∧ (s.clearArrivals).scanner.flash = s.scanner.flash ∧
    (s.clearArrivals).scanner.flashOn = s.scanner.flashOn := by
  unfold State.clearArrivals
  generalize List.finRange 48 = l
  simp

@[simp] theorem State.arrivalsZoneChange_frame (s : State) (w : Bool) :
    (s.arrivalsZoneChange w).mode = s.mode ∧ (s.arrivalsZoneChange w).settings = s.settings ∧
    (s.arrivalsZoneChange w).now = s.now ∧ (s.arrivalsZoneChange w).moment = s.moment ∧
    (s.arrivalsZoneChange w).gas = s.gas ∧ (s.arrivalsZoneChange w).fume = s.fume ∧
    (s.arrivalsZoneChange w).peers = s.peers ∧ (s.arrivalsZoneChange w).zone = s.zone ∧
    (s.arrivalsZoneChange w).store = s.store ∧ (s.arrivalsZoneChange w).pending = s.pending ∧
    (s.arrivalsZoneChange w).scanner.lanes = s.scanner.lanes ∧
    (s.arrivalsZoneChange w).scanner.scan = s.scanner.scan ∧
    (s.arrivalsZoneChange w).scanner.flash = s.scanner.flash ∧
    (s.arrivalsZoneChange w).scanner.flashOn = s.scanner.flashOn := by
  unfold State.arrivalsZoneChange
  split
  · simp
  · split <;> simp

/-! ## Gas heads and zone state -/

@[simp] theorem State.gasZoneChange_frame (s : State) (w : Bool) :
    (s.gasZoneChange w).mode = s.mode ∧ (s.gasZoneChange w).settings = s.settings ∧ (s.gasZoneChange w).now = s.now ∧
    (s.gasZoneChange w).moment = s.moment ∧ (s.gasZoneChange w).fume = s.fume ∧ (s.gasZoneChange w).comms = s.comms ∧
    (s.gasZoneChange w).peers = s.peers ∧ (s.gasZoneChange w).scanner = s.scanner ∧
    (s.gasZoneChange w).tracker = s.tracker ∧ (s.gasZoneChange w).guide = s.guide ∧
    (s.gasZoneChange w).lamps = s.lamps ∧ (s.gasZoneChange w).zone = s.zone ∧ (s.gasZoneChange w).store = s.store ∧
    (s.gasZoneChange w).pending = s.pending := by
  unfold State.gasZoneChange
  split
  · simp
  · split <;> simp

@[simp] theorem State.gasTakesFs_frame (s : State) :
    (s.gasTakesFs).mode = s.mode ∧ (s.gasTakesFs).settings = s.settings ∧ (s.gasTakesFs).now = s.now ∧
    (s.gasTakesFs).moment = s.moment ∧ (s.gasTakesFs).fume = s.fume ∧ (s.gasTakesFs).comms = s.comms ∧
    (s.gasTakesFs).peers = s.peers ∧ (s.gasTakesFs).scanner = s.scanner ∧ (s.gasTakesFs).tracker = s.tracker ∧
    (s.gasTakesFs).guide = s.guide ∧ (s.gasTakesFs).lamps = s.lamps ∧ (s.gasTakesFs).zone = s.zone ∧
    (s.gasTakesFs).store = s.store ∧ (s.gasTakesFs).pending = s.pending := by
  unfold State.gasTakesFs
  simp

@[simp] theorem State.presentZoneChange_frame (s : State) (w : Bool) :
    (s.presentZoneChange w).mode = s.mode ∧ (s.presentZoneChange w).settings = s.settings ∧
    (s.presentZoneChange w).now = s.now ∧ (s.presentZoneChange w).moment = s.moment ∧
    (s.presentZoneChange w).fume = s.fume ∧ (s.presentZoneChange w).peers = s.peers ∧
    (s.presentZoneChange w).zone = s.zone ∧ (s.presentZoneChange w).store = s.store ∧
    (s.presentZoneChange w).pending = s.pending ∧ (s.presentZoneChange w).scanner.lanes = s.scanner.lanes ∧
    (s.presentZoneChange w).scanner.scan = s.scanner.scan ∧ (s.presentZoneChange w).scanner.flash = s.scanner.flash ∧
    (s.presentZoneChange w).scanner.flashOn = s.scanner.flashOn := by
  unfold State.presentZoneChange
  simp only
  split <;> simp

@[simp] theorem State.setZone_frame (s : State) (st : ZoneState) :
    (s.setZone st).mode = s.mode ∧ (s.setZone st).settings = s.settings ∧ (s.setZone st).now = s.now ∧
    (s.setZone st).moment = s.moment ∧ (s.setZone st).fume = s.fume ∧ (s.setZone st).peers = s.peers ∧
    (s.setZone st).store = s.store ∧ (s.setZone st).pending = s.pending ∧
    (s.setZone st).scanner.lanes = s.scanner.lanes ∧ (s.setZone st).scanner.scan = s.scanner.scan ∧
    (s.setZone st).scanner.flash = s.scanner.flash ∧ (s.setZone st).scanner.flashOn = s.scanner.flashOn := by
  unfold State.setZone
  simp

@[simp] theorem State.evaluate_frame (s : State) :
    (s.evaluate).mode = s.mode ∧ (s.evaluate).settings = s.settings ∧ (s.evaluate).now = s.now ∧
    (s.evaluate).moment = s.moment ∧ (s.evaluate).fume = s.fume ∧ (s.evaluate).peers = s.peers ∧
    (s.evaluate).store = s.store ∧ (s.evaluate).pending = s.pending ∧ (s.evaluate).scanner.lanes = s.scanner.lanes ∧
    (s.evaluate).scanner.scan = s.scanner.scan ∧ (s.evaluate).scanner.flash = s.scanner.flash ∧
    (s.evaluate).scanner.flashOn = s.scanner.flashOn := by
  unfold State.evaluate
  split <;> simp

@[simp] theorem State.zoneTakesFs_frame (s : State) :
    (s.zoneTakesFs).mode = s.mode ∧ (s.zoneTakesFs).settings = s.settings ∧ (s.zoneTakesFs).now = s.now ∧
    (s.zoneTakesFs).moment = s.moment ∧ (s.zoneTakesFs).fume = s.fume ∧ (s.zoneTakesFs).peers = s.peers ∧
    (s.zoneTakesFs).store = s.store ∧ (s.zoneTakesFs).pending = s.pending ∧
    (s.zoneTakesFs).scanner.lanes = s.scanner.lanes ∧ (s.zoneTakesFs).scanner.scan = s.scanner.scan ∧
    (s.zoneTakesFs).scanner.flash = s.scanner.flash ∧ (s.zoneTakesFs).scanner.flashOn = s.scanner.flashOn := by
  unfold State.zoneTakesFs
  simp

@[simp] theorem State.zoneTakesGas_frame (s : State) (g : Gas) :
    (s.zoneTakesGas g).mode = s.mode ∧ (s.zoneTakesGas g).settings = s.settings ∧ (s.zoneTakesGas g).now = s.now ∧
    (s.zoneTakesGas g).moment = s.moment ∧ (s.zoneTakesGas g).fume = s.fume ∧ (s.zoneTakesGas g).peers = s.peers ∧
    (s.zoneTakesGas g).store = s.store ∧ (s.zoneTakesGas g).pending = s.pending ∧
    (s.zoneTakesGas g).scanner.lanes = s.scanner.lanes ∧ (s.zoneTakesGas g).scanner.scan = s.scanner.scan ∧
    (s.zoneTakesGas g).scanner.flash = s.scanner.flash ∧ (s.zoneTakesGas g).scanner.flashOn = s.scanner.flashOn := by
  unfold State.zoneTakesGas
  simp

@[simp] theorem State.ventSettle_frame (s : State) :
    (s.ventSettle).mode = s.mode ∧ (s.ventSettle).settings = s.settings ∧ (s.ventSettle).now = s.now ∧
    (s.ventSettle).moment = s.moment ∧ (s.ventSettle).fume = s.fume ∧ (s.ventSettle).peers = s.peers ∧
    (s.ventSettle).store = s.store ∧ (s.ventSettle).pending = s.pending ∧
    (s.ventSettle).scanner.lanes = s.scanner.lanes ∧ (s.ventSettle).scanner.scan = s.scanner.scan ∧
    (s.ventSettle).scanner.flash = s.scanner.flash ∧ (s.ventSettle).scanner.flashOn = s.scanner.flashOn := by
  unfold State.ventSettle
  split <;> simp

/-! ## The fume unit -/

@[simp] theorem State.reformEs_frame (s : State) :
    (s.reformEs).mode = s.mode ∧ (s.reformEs).settings = s.settings ∧ (s.reformEs).now = s.now ∧
    (s.reformEs).moment = s.moment ∧ (s.reformEs).gas = s.gas ∧ (s.reformEs).peers = s.peers ∧
    (s.reformEs).scanner = s.scanner ∧ (s.reformEs).tracker = s.tracker ∧ (s.reformEs).guide = s.guide ∧
    (s.reformEs).lamps = s.lamps ∧ (s.reformEs).zone = s.zone ∧ (s.reformEs).store = s.store ∧
    (s.reformEs).pending = s.pending := by
  unfold State.reformEs
  simp

@[simp] theorem State.reformFs_frame (s : State) :
    (s.reformFs).mode = s.mode ∧ (s.reformFs).settings = s.settings ∧ (s.reformFs).now = s.now ∧
    (s.reformFs).moment = s.moment ∧ (s.reformFs).peers = s.peers ∧ (s.reformFs).store = s.store ∧
    (s.reformFs).pending = s.pending ∧ (s.reformFs).scanner.lanes = s.scanner.lanes ∧
    (s.reformFs).scanner.scan = s.scanner.scan ∧ (s.reformFs).scanner.flash = s.scanner.flash ∧
    (s.reformFs).scanner.flashOn = s.scanner.flashOn := by
  unfold State.reformFs
  simp only
  split <;> simp

@[simp] theorem State.movementEvent_frame (s : State) :
    (s.movementEvent).mode = s.mode ∧ (s.movementEvent).settings = s.settings ∧ (s.movementEvent).now = s.now ∧
    (s.movementEvent).moment = s.moment ∧ (s.movementEvent).gas = s.gas ∧ (s.movementEvent).peers = s.peers ∧
    (s.movementEvent).scanner = s.scanner ∧ (s.movementEvent).tracker = s.tracker ∧
    (s.movementEvent).guide = s.guide ∧ (s.movementEvent).lamps = s.lamps ∧ (s.movementEvent).zone = s.zone ∧
    (s.movementEvent).store = s.store ∧ (s.movementEvent).pending = s.pending := by
  unfold State.movementEvent
  simp

@[simp] theorem State.presentQueue_frame (s : State) :
    (s.presentQueue).mode = s.mode ∧ (s.presentQueue).settings = s.settings ∧ (s.presentQueue).now = s.now ∧
    (s.presentQueue).moment = s.moment ∧ (s.presentQueue).gas = s.gas ∧ (s.presentQueue).peers = s.peers ∧
    (s.presentQueue).scanner = s.scanner ∧ (s.presentQueue).tracker = s.tracker ∧ (s.presentQueue).guide = s.guide ∧
    (s.presentQueue).lamps = s.lamps ∧ (s.presentQueue).zone = s.zone ∧ (s.presentQueue).store = s.store ∧
    (s.presentQueue).pending = s.pending := by
  unfold State.presentQueue
  simp

@[simp] theorem State.presentTerm_frame (s : State) (n : Fin 8) :
    (s.presentTerm n).mode = s.mode ∧ (s.presentTerm n).settings = s.settings ∧ (s.presentTerm n).now = s.now ∧
    (s.presentTerm n).moment = s.moment ∧ (s.presentTerm n).gas = s.gas ∧ (s.presentTerm n).peers = s.peers ∧
    (s.presentTerm n).scanner = s.scanner ∧ (s.presentTerm n).tracker = s.tracker ∧
    (s.presentTerm n).guide = s.guide ∧ (s.presentTerm n).lamps = s.lamps ∧ (s.presentTerm n).zone = s.zone ∧
    (s.presentTerm n).store = s.store ∧ (s.presentTerm n).pending = s.pending := by
  unfold State.presentTerm
  simp

@[simp] theorem State.updateGas_frame (s : State) (g : Gas) :
    (s.updateGas g).mode = s.mode ∧ (s.updateGas g).settings = s.settings ∧ (s.updateGas g).now = s.now ∧
    (s.updateGas g).moment = s.moment ∧ (s.updateGas g).gas = s.gas ∧ (s.updateGas g).comms = s.comms ∧
    (s.updateGas g).peers = s.peers ∧ (s.updateGas g).scanner = s.scanner ∧ (s.updateGas g).tracker = s.tracker ∧
    (s.updateGas g).guide = s.guide ∧ (s.updateGas g).lamps = s.lamps ∧ (s.updateGas g).zone = s.zone ∧
    (s.updateGas g).store = s.store ∧ (s.updateGas g).pending = s.pending := by
  unfold State.updateGas
  split
  · simp only
    split <;> simp
  · simp

@[simp] theorem State.presentValidity_frame (s : State) (g : Gas) (w : Bool) :
    (s.presentValidity g w).mode = s.mode ∧ (s.presentValidity g w).settings = s.settings ∧
    (s.presentValidity g w).now = s.now ∧ (s.presentValidity g w).moment = s.moment ∧
    (s.presentValidity g w).fume = s.fume ∧ (s.presentValidity g w).peers = s.peers ∧
    (s.presentValidity g w).store = s.store ∧ (s.presentValidity g w).pending = s.pending ∧
    (s.presentValidity g w).scanner.lanes = s.scanner.lanes ∧ (s.presentValidity g w).scanner.scan = s.scanner.scan ∧
    (s.presentValidity g w).scanner.flash = s.scanner.flash ∧
    (s.presentValidity g w).scanner.flashOn = s.scanner.flashOn := by
  unfold State.presentValidity
  split <;> simp

@[simp] theorem State.gasUpdate_frame (s : State) :
    (s.gasUpdate).mode = s.mode ∧ (s.gasUpdate).settings = s.settings ∧ (s.gasUpdate).now = s.now ∧
    (s.gasUpdate).moment = s.moment ∧ (s.gasUpdate).peers = s.peers ∧ (s.gasUpdate).store = s.store ∧
    (s.gasUpdate).pending = s.pending ∧ (s.gasUpdate).scanner.lanes = s.scanner.lanes ∧
    (s.gasUpdate).scanner.scan = s.scanner.scan ∧ (s.gasUpdate).scanner.flash = s.scanner.flash ∧
    (s.gasUpdate).scanner.flashOn = s.scanner.flashOn := by
  unfold State.gasUpdate
  simp

@[simp] theorem State.closeGas_frame (s : State) (g : Gas) :
    (s.closeGas g).mode = s.mode ∧ (s.closeGas g).settings = s.settings ∧ (s.closeGas g).now = s.now ∧
    (s.closeGas g).moment = s.moment ∧ (s.closeGas g).gas = s.gas ∧ (s.closeGas g).comms = s.comms ∧
    (s.closeGas g).peers = s.peers ∧ (s.closeGas g).scanner = s.scanner ∧ (s.closeGas g).tracker = s.tracker ∧
    (s.closeGas g).guide = s.guide ∧ (s.closeGas g).lamps = s.lamps ∧ (s.closeGas g).zone = s.zone ∧
    (s.closeGas g).store = s.store ∧ (s.closeGas g).pending = s.pending := by
  unfold State.closeGas
  split <;> simp

@[simp] theorem State.closeMinute_frame (s : State) :
    (s.closeMinute).mode = s.mode ∧ (s.closeMinute).settings = s.settings ∧ (s.closeMinute).now = s.now ∧
    (s.closeMinute).moment = s.moment ∧ (s.closeMinute).peers = s.peers ∧ (s.closeMinute).store = s.store ∧
    (s.closeMinute).pending = s.pending ∧ (s.closeMinute).scanner.lanes = s.scanner.lanes ∧
    (s.closeMinute).scanner.scan = s.scanner.scan ∧ (s.closeMinute).scanner.flash = s.scanner.flash ∧
    (s.closeMinute).scanner.flashOn = s.scanner.flashOn := by
  unfold State.closeMinute
  simp

/-! ## Frames of other parties -/

@[simp] theorem State.presentNeighbour_frame (s : State) (n : Fin 8) :
    (s.presentNeighbour n).mode = s.mode ∧ (s.presentNeighbour n).settings = s.settings ∧
    (s.presentNeighbour n).now = s.now ∧ (s.presentNeighbour n).moment = s.moment ∧
    (s.presentNeighbour n).gas = s.gas ∧ (s.presentNeighbour n).peers = s.peers ∧
    (s.presentNeighbour n).scanner = s.scanner ∧ (s.presentNeighbour n).tracker = s.tracker ∧
    (s.presentNeighbour n).lamps = s.lamps ∧ (s.presentNeighbour n).zone = s.zone ∧
    (s.presentNeighbour n).store = s.store ∧ (s.presentNeighbour n).pending = s.pending := by
  unfold State.presentNeighbour
  simp

@[simp] theorem State.takeReport_frame (s : State) (n : Fin 8) (r : Report) :
    (s.takeReport n r).mode = s.mode ∧ (s.takeReport n r).settings = s.settings ∧ (s.takeReport n r).now = s.now ∧
    (s.takeReport n r).moment = s.moment ∧ (s.takeReport n r).gas = s.gas ∧ (s.takeReport n r).scanner = s.scanner ∧
    (s.takeReport n r).tracker = s.tracker ∧ (s.takeReport n r).lamps = s.lamps ∧ (s.takeReport n r).zone = s.zone ∧
    (s.takeReport n r).store = s.store ∧ (s.takeReport n r).pending = s.pending := by
  unfold State.takeReport
  simp only
  split <;> simp

@[simp] theorem State.reportReceived_frame (s : State) (u : Nat) (r : Report) :
    (s.reportReceived u r).mode = s.mode ∧ (s.reportReceived u r).settings = s.settings ∧
    (s.reportReceived u r).now = s.now ∧ (s.reportReceived u r).moment = s.moment ∧
    (s.reportReceived u r).gas = s.gas ∧ (s.reportReceived u r).scanner = s.scanner ∧
    (s.reportReceived u r).tracker = s.tracker ∧ (s.reportReceived u r).lamps = s.lamps ∧
    (s.reportReceived u r).zone = s.zone ∧ (s.reportReceived u r).store = s.store ∧
    (s.reportReceived u r).pending = s.pending := by
  unfold State.reportReceived
  split <;> simp

@[simp] theorem State.staleExpiry_frame (s : State) (n : Fin 8) :
    (s.staleExpiry n).mode = s.mode ∧ (s.staleExpiry n).settings = s.settings ∧ (s.staleExpiry n).now = s.now ∧
    (s.staleExpiry n).moment = s.moment ∧ (s.staleExpiry n).gas = s.gas ∧ (s.staleExpiry n).scanner = s.scanner ∧
    (s.staleExpiry n).tracker = s.tracker ∧ (s.staleExpiry n).lamps = s.lamps ∧ (s.staleExpiry n).zone = s.zone ∧
    (s.staleExpiry n).store = s.store ∧ (s.staleExpiry n).pending = s.pending := by
  unfold State.staleExpiry
  simp only
  split <;> simp

@[simp] theorem State.lostExpiry_frame (s : State) (n : Fin 8) :
    (s.lostExpiry n).mode = s.mode ∧ (s.lostExpiry n).settings = s.settings ∧ (s.lostExpiry n).now = s.now ∧
    (s.lostExpiry n).moment = s.moment ∧ (s.lostExpiry n).gas = s.gas ∧ (s.lostExpiry n).scanner = s.scanner ∧
    (s.lostExpiry n).tracker = s.tracker ∧ (s.lostExpiry n).lamps = s.lamps ∧ (s.lostExpiry n).zone = s.zone ∧
    (s.lostExpiry n).store = s.store ∧ (s.lostExpiry n).pending = s.pending := by
  unfold State.lostExpiry
  simp only
  split <;> simp

@[simp] theorem State.transitReceived_frame (s : State) (u t d : Nat) :
    (s.transitReceived u t d).mode = s.mode ∧ (s.transitReceived u t d).settings = s.settings ∧
    (s.transitReceived u t d).now = s.now ∧ (s.transitReceived u t d).moment = s.moment ∧
    (s.transitReceived u t d).gas = s.gas ∧ (s.transitReceived u t d).fume = s.fume ∧
    (s.transitReceived u t d).peers = s.peers ∧ (s.transitReceived u t d).zone = s.zone ∧
    (s.transitReceived u t d).store = s.store ∧ (s.transitReceived u t d).pending = s.pending ∧
    (s.transitReceived u t d).scanner.lanes = s.scanner.lanes ∧
    (s.transitReceived u t d).scanner.scan = s.scanner.scan ∧
    (s.transitReceived u t d).scanner.flash = s.scanner.flash ∧
    (s.transitReceived u t d).scanner.flashOn = s.scanner.flashOn := by
  unfold State.transitReceived
  split
  · split
    · simp only
      split <;> simp
    · simp
  · simp

@[simp] theorem State.requestReceived_frame (s : State) (u t : Nat) (r : Request) :
    (s.requestReceived u t r).mode = s.mode ∧ (s.requestReceived u t r).settings = s.settings ∧
    (s.requestReceived u t r).now = s.now ∧ (s.requestReceived u t r).moment = s.moment ∧
    (s.requestReceived u t r).gas = s.gas ∧ (s.requestReceived u t r).fume = s.fume ∧
    (s.requestReceived u t r).peers = s.peers ∧ (s.requestReceived u t r).scanner = s.scanner ∧
    (s.requestReceived u t r).tracker = s.tracker ∧ (s.requestReceived u t r).guide = s.guide ∧
    (s.requestReceived u t r).lamps = s.lamps ∧ (s.requestReceived u t r).zone = s.zone ∧
    (s.requestReceived u t r).store = s.store ∧ (s.requestReceived u t r).pending = s.pending := by
  unfold State.requestReceived
  simp only
  split
  · split
    · simp
    · split <;> simp
  · simp

/-! ## Bays and lanes -/

@[simp] theorem State.bayMovement_frame (s : State) (b : Fin 48) :
    (s.bayMovement b).mode = s.mode ∧ (s.bayMovement b).settings = s.settings ∧ (s.bayMovement b).now = s.now ∧
    (s.bayMovement b).moment = s.moment ∧ (s.bayMovement b).gas = s.gas ∧ (s.bayMovement b).peers = s.peers ∧
    (s.bayMovement b).scanner = s.scanner ∧ (s.bayMovement b).tracker = s.tracker ∧
    (s.bayMovement b).guide = s.guide ∧ (s.bayMovement b).zone = s.zone ∧ (s.bayMovement b).store = s.store ∧
    (s.bayMovement b).pending = s.pending := by
  unfold State.bayMovement
  simp

@[simp] theorem State.confirmReading_frame (s : State) (b : Fin 48) (r : Reading) :
    (s.confirmReading b r).mode = s.mode ∧ (s.confirmReading b r).settings = s.settings ∧
    (s.confirmReading b r).now = s.now ∧ (s.confirmReading b r).moment = s.moment ∧
    (s.confirmReading b r).gas = s.gas ∧ (s.confirmReading b r).peers = s.peers ∧
    (s.confirmReading b r).zone = s.zone ∧ (s.confirmReading b r).store = s.store ∧
    (s.confirmReading b r).pending = s.pending ∧ (s.confirmReading b r).scanner.lanes = s.scanner.lanes ∧
    (s.confirmReading b r).scanner.scan = s.scanner.scan ∧ (s.confirmReading b r).scanner.flash = s.scanner.flash ∧
    (s.confirmReading b r).scanner.flashOn = s.scanner.flashOn := by
  unfold State.confirmReading
  simp only
  split <;> simp

@[simp] theorem State.bayAnswers_frame (s : State) (b : Fin 48) (r : Reading) :
    (s.bayAnswers b r).mode = s.mode ∧ (s.bayAnswers b r).settings = s.settings ∧ (s.bayAnswers b r).now = s.now ∧
    (s.bayAnswers b r).moment = s.moment ∧ (s.bayAnswers b r).gas = s.gas ∧ (s.bayAnswers b r).peers = s.peers ∧
    (s.bayAnswers b r).zone = s.zone ∧ (s.bayAnswers b r).store = s.store ∧ (s.bayAnswers b r).pending = s.pending ∧
    (s.bayAnswers b r).scanner.lanes = s.scanner.lanes ∧ (s.bayAnswers b r).scanner.scan = s.scanner.scan ∧
    (s.bayAnswers b r).scanner.flash = s.scanner.flash ∧ (s.bayAnswers b r).scanner.flashOn = s.scanner.flashOn := by
  unfold State.bayAnswers
  simp only
  split <;> simp

@[simp] theorem State.bayFails_frame (s : State) (b : Fin 48) :
    (s.bayFails b).mode = s.mode ∧ (s.bayFails b).settings = s.settings ∧ (s.bayFails b).now = s.now ∧
    (s.bayFails b).moment = s.moment ∧ (s.bayFails b).gas = s.gas ∧ (s.bayFails b).fume = s.fume ∧
    (s.bayFails b).peers = s.peers ∧ (s.bayFails b).zone = s.zone ∧ (s.bayFails b).store = s.store ∧
    (s.bayFails b).pending = s.pending ∧ (s.bayFails b).scanner.lanes = s.scanner.lanes ∧
    (s.bayFails b).scanner.scan = s.scanner.scan ∧ (s.bayFails b).scanner.flash = s.scanner.flash ∧
    (s.bayFails b).scanner.flashOn = s.scanner.flashOn := by
  unfold State.bayFails
  simp only
  split <;> simp

@[simp] theorem State.bayNoAnswers_frame (s : State) (b : Fin 48) :
    (s.bayNoAnswers b).mode = s.mode ∧ (s.bayNoAnswers b).settings = s.settings ∧ (s.bayNoAnswers b).now = s.now ∧
    (s.bayNoAnswers b).moment = s.moment ∧ (s.bayNoAnswers b).gas = s.gas ∧ (s.bayNoAnswers b).fume = s.fume ∧
    (s.bayNoAnswers b).peers = s.peers ∧ (s.bayNoAnswers b).zone = s.zone ∧ (s.bayNoAnswers b).store = s.store ∧
    (s.bayNoAnswers b).pending = s.pending ∧ (s.bayNoAnswers b).scanner.lanes = s.scanner.lanes ∧
    (s.bayNoAnswers b).scanner.scan = s.scanner.scan ∧ (s.bayNoAnswers b).scanner.flash = s.scanner.flash ∧
    (s.bayNoAnswers b).scanner.flashOn = s.scanner.flashOn := by
  unfold State.bayNoAnswers
  simp only
  split <;> simp

@[simp] theorem State.presenceBegins_frame (s : State) (p : Fin 4) :
    (s.presenceBegins p).mode = s.mode ∧ (s.presenceBegins p).settings = s.settings ∧
    (s.presenceBegins p).now = s.now ∧ (s.presenceBegins p).moment = s.moment ∧ (s.presenceBegins p).gas = s.gas ∧
    (s.presenceBegins p).fume = s.fume ∧ (s.presenceBegins p).comms = s.comms ∧
    (s.presenceBegins p).peers = s.peers ∧ (s.presenceBegins p).tracker = s.tracker ∧
    (s.presenceBegins p).guide = s.guide ∧ (s.presenceBegins p).zone = s.zone ∧
    (s.presenceBegins p).store = s.store ∧ (s.presenceBegins p).pending = s.pending := by
  unfold State.presenceBegins
  simp

@[simp] theorem State.dropQueue_frame (s : State) (p : Fin 4) :
    (s.dropQueue p).mode = s.mode ∧ (s.dropQueue p).settings = s.settings ∧ (s.dropQueue p).now = s.now ∧
    (s.dropQueue p).moment = s.moment ∧ (s.dropQueue p).gas = s.gas ∧ (s.dropQueue p).peers = s.peers ∧
    (s.dropQueue p).tracker = s.tracker ∧ (s.dropQueue p).guide = s.guide ∧ (s.dropQueue p).lamps = s.lamps ∧
    (s.dropQueue p).zone = s.zone ∧ (s.dropQueue p).store = s.store ∧ (s.dropQueue p).pending = s.pending := by
  unfold State.dropQueue
  split <;> simp

@[simp] theorem State.presenceEnds_frame (s : State) (p : Fin 4) :
    (s.presenceEnds p).mode = s.mode ∧ (s.presenceEnds p).settings = s.settings ∧ (s.presenceEnds p).now = s.now ∧
    (s.presenceEnds p).moment = s.moment ∧ (s.presenceEnds p).gas = s.gas ∧ (s.presenceEnds p).peers = s.peers ∧
    (s.presenceEnds p).tracker = s.tracker ∧ (s.presenceEnds p).guide = s.guide ∧ (s.presenceEnds p).zone = s.zone ∧
    (s.presenceEnds p).store = s.store ∧ (s.presenceEnds p).pending = s.pending := by
  unfold State.presenceEnds
  simp

@[simp] theorem State.offerTransit_frame (s : State) (p : Fin 4) (d : Direction) :
    (s.offerTransit p d).mode = s.mode ∧ (s.offerTransit p d).settings = s.settings ∧
    (s.offerTransit p d).now = s.now ∧ (s.offerTransit p d).moment = s.moment ∧ (s.offerTransit p d).gas = s.gas ∧
    (s.offerTransit p d).fume = s.fume ∧ (s.offerTransit p d).peers = s.peers ∧
    (s.offerTransit p d).scanner = s.scanner ∧ (s.offerTransit p d).tracker = s.tracker ∧
    (s.offerTransit p d).guide = s.guide ∧ (s.offerTransit p d).lamps = s.lamps ∧
    (s.offerTransit p d).zone = s.zone ∧ (s.offerTransit p d).store = s.store ∧
    (s.offerTransit p d).pending = s.pending := by
  unfold State.offerTransit
  split <;> simp

@[simp] theorem State.passageEffects_frame (s : State) (p : Fin 4) (x : Passage) :
    (s.passageEffects p x).mode = s.mode ∧ (s.passageEffects p x).settings = s.settings ∧
    (s.passageEffects p x).now = s.now ∧ (s.passageEffects p x).moment = s.moment ∧
    (s.passageEffects p x).gas = s.gas ∧ (s.passageEffects p x).peers = s.peers ∧
    (s.passageEffects p x).zone = s.zone ∧ (s.passageEffects p x).store = s.store ∧
    (s.passageEffects p x).pending = s.pending ∧ (s.passageEffects p x).scanner.lanes = s.scanner.lanes ∧
    (s.passageEffects p x).scanner.scan = s.scanner.scan ∧ (s.passageEffects p x).scanner.flash = s.scanner.flash ∧
    (s.passageEffects p x).scanner.flashOn = s.scanner.flashOn := by
  unfold State.passageEffects
  split <;> simp

@[simp] theorem State.laneMoves_frame (s : State) (p : Fin 4) (x : Loop) (on : Bool) :
    (s.laneMoves p x on).mode = s.mode ∧ (s.laneMoves p x on).settings = s.settings ∧
    (s.laneMoves p x on).now = s.now ∧ (s.laneMoves p x on).moment = s.moment ∧ (s.laneMoves p x on).gas = s.gas ∧
    (s.laneMoves p x on).peers = s.peers ∧ (s.laneMoves p x on).zone = s.zone ∧
    (s.laneMoves p x on).store = s.store ∧ (s.laneMoves p x on).pending = s.pending := by
  unfold State.laneMoves
  simp only
  split <;> split <;> simp

@[simp] theorem State.loopChanges_frame (s : State) (p : Fin 4) (x : Loop) (on : Bool) :
    (s.loopChanges p x on).mode = s.mode ∧ (s.loopChanges p x on).settings = s.settings ∧
    (s.loopChanges p x on).now = s.now ∧ (s.loopChanges p x on).moment = s.moment ∧
    (s.loopChanges p x on).gas = s.gas ∧ (s.loopChanges p x on).peers = s.peers ∧
    (s.loopChanges p x on).zone = s.zone ∧ (s.loopChanges p x on).store = s.store ∧
    (s.loopChanges p x on).pending = s.pending := by
  unfold State.loopChanges
  simp only
  split
  · simp
  · split <;> simp

@[simp] theorem State.laneQueues_frame (s : State) (p : Fin 4) :
    (s.laneQueues p).mode = s.mode ∧ (s.laneQueues p).settings = s.settings ∧ (s.laneQueues p).now = s.now ∧
    (s.laneQueues p).moment = s.moment ∧ (s.laneQueues p).gas = s.gas ∧ (s.laneQueues p).peers = s.peers ∧
    (s.laneQueues p).tracker = s.tracker ∧ (s.laneQueues p).guide = s.guide ∧ (s.laneQueues p).lamps = s.lamps ∧
    (s.laneQueues p).zone = s.zone ∧ (s.laneQueues p).store = s.store ∧ (s.laneQueues p).pending = s.pending := by
  unfold State.laneQueues
  simp only
  split <;> simp

@[simp] theorem State.laneFails_frame (s : State) (p : Fin 4) :
    (s.laneFails p).mode = s.mode ∧ (s.laneFails p).settings = s.settings ∧ (s.laneFails p).now = s.now ∧
    (s.laneFails p).moment = s.moment ∧ (s.laneFails p).gas = s.gas ∧ (s.laneFails p).peers = s.peers ∧
    (s.laneFails p).tracker = s.tracker ∧ (s.laneFails p).guide = s.guide ∧ (s.laneFails p).zone = s.zone ∧
    (s.laneFails p).store = s.store ∧ (s.laneFails p).pending = s.pending := by
  unfold State.laneFails
  simp only
  split <;> simp

@[simp] theorem State.startLane_frame (s : State) (p : Fin 4) (l : Loops) :
    (s.startLane p l).mode = s.mode ∧ (s.startLane p l).settings = s.settings ∧ (s.startLane p l).now = s.now ∧
    (s.startLane p l).moment = s.moment ∧ (s.startLane p l).gas = s.gas ∧ (s.startLane p l).fume = s.fume ∧
    (s.startLane p l).comms = s.comms ∧ (s.startLane p l).peers = s.peers ∧ (s.startLane p l).tracker = s.tracker ∧
    (s.startLane p l).guide = s.guide ∧ (s.startLane p l).zone = s.zone ∧ (s.startLane p l).store = s.store ∧
    (s.startLane p l).pending = s.pending := by
  unfold State.startLane
  simp only
  split <;> simp

/-! ## The link and the responder -/

@[simp] theorem State.launch_frame (s : State) :
    (s.launch).mode = s.mode ∧ (s.launch).settings = s.settings ∧ (s.launch).now = s.now ∧
    (s.launch).moment = s.moment ∧ (s.launch).gas = s.gas ∧ (s.launch).peers = s.peers ∧
    (s.launch).scanner = s.scanner ∧ (s.launch).tracker = s.tracker ∧ (s.launch).guide = s.guide ∧
    (s.launch).lamps = s.lamps ∧ (s.launch).zone = s.zone ∧ (s.launch).store = s.store ∧
    (s.launch).pending = s.pending := by
  unfold State.launch
  split <;> simp

/-- Starting the first frame moves the bus side, and of the fume unit the range flags a report takes. -/
@[simp] theorem State.startFirst_frame (s : State) :
    (s.startFirst).mode = s.mode ∧ (s.startFirst).settings = s.settings ∧ (s.startFirst).now = s.now ∧
    (s.startFirst).moment = s.moment ∧ (s.startFirst).gas = s.gas ∧ (s.startFirst).peers = s.peers ∧
    (s.startFirst).scanner = s.scanner ∧ (s.startFirst).tracker = s.tracker ∧ (s.startFirst).guide = s.guide ∧
    (s.startFirst).lamps = s.lamps ∧ (s.startFirst).zone = s.zone ∧ (s.startFirst).store = s.store ∧
    (s.startFirst).pending = s.pending := by
  unfold State.startFirst
  split <;> simp

@[simp] theorem State.linkSettle_frame (s : State) :
    (s.linkSettle).mode = s.mode ∧ (s.linkSettle).settings = s.settings ∧ (s.linkSettle).now = s.now ∧
    (s.linkSettle).moment = s.moment ∧ (s.linkSettle).gas = s.gas ∧ (s.linkSettle).peers = s.peers ∧
    (s.linkSettle).scanner = s.scanner ∧ (s.linkSettle).tracker = s.tracker ∧ (s.linkSettle).guide = s.guide ∧
    (s.linkSettle).lamps = s.lamps ∧ (s.linkSettle).zone = s.zone ∧ (s.linkSettle).store = s.store ∧
    (s.linkSettle).pending = s.pending := by
  unfold State.linkSettle
  split <;> simp

@[simp] theorem State.frameDelivered_frame (s : State) :
    (s.frameDelivered).mode = s.mode ∧ (s.frameDelivered).settings = s.settings ∧ (s.frameDelivered).now = s.now ∧
    (s.frameDelivered).moment = s.moment ∧ (s.frameDelivered).gas = s.gas ∧ (s.frameDelivered).peers = s.peers ∧
    (s.frameDelivered).scanner = s.scanner ∧ (s.frameDelivered).tracker = s.tracker ∧
    (s.frameDelivered).guide = s.guide ∧ (s.frameDelivered).lamps = s.lamps ∧ (s.frameDelivered).zone = s.zone ∧
    (s.frameDelivered).store = s.store ∧ (s.frameDelivered).pending = s.pending := by
  unfold State.frameDelivered
  split
  · simp
  · simp only
    split <;> simp

@[simp] theorem State.plain_frame (s : State) (r : ResultCode) :
    ((s.plain r).state).mode = s.mode ∧ ((s.plain r).state).settings = s.settings ∧ ((s.plain r).state).now = s.now ∧
    ((s.plain r).state).moment = s.moment ∧ ((s.plain r).state).gas = s.gas ∧ ((s.plain r).state).fume = s.fume ∧
    ((s.plain r).state).comms = s.comms ∧ ((s.plain r).state).peers = s.peers ∧
    ((s.plain r).state).scanner = s.scanner ∧ ((s.plain r).state).tracker = s.tracker ∧
    ((s.plain r).state).guide = s.guide ∧ ((s.plain r).state).lamps = s.lamps ∧ ((s.plain r).state).zone = s.zone ∧
    ((s.plain r).state).store = s.store ∧ ((s.plain r).state).pending = s.pending := by
  simp [State.plain]

@[simp] theorem State.answerData_frame (s : State) (d : Option (List Byte)) :
    ((s.answerData d).state).mode = s.mode ∧ ((s.answerData d).state).settings = s.settings ∧
    ((s.answerData d).state).now = s.now ∧ ((s.answerData d).state).moment = s.moment ∧
    ((s.answerData d).state).gas = s.gas ∧ ((s.answerData d).state).fume = s.fume ∧
    ((s.answerData d).state).comms = s.comms ∧ ((s.answerData d).state).peers = s.peers ∧
    ((s.answerData d).state).scanner = s.scanner ∧ ((s.answerData d).state).tracker = s.tracker ∧
    ((s.answerData d).state).guide = s.guide ∧ ((s.answerData d).state).lamps = s.lamps ∧
    ((s.answerData d).state).zone = s.zone ∧ ((s.answerData d).state).store = s.store ∧
    ((s.answerData d).state).pending = s.pending := by
  unfold State.answerData
  split <;> simp

@[simp] theorem State.answerLock_frame (s : State) (l : Bool) (x : Byte) :
    ((s.answerLock l x).state).mode = s.mode ∧ ((s.answerLock l x).state).settings = s.settings ∧
    ((s.answerLock l x).state).now = s.now ∧ ((s.answerLock l x).state).moment = s.moment ∧
    ((s.answerLock l x).state).gas = s.gas ∧ ((s.answerLock l x).state).fume = s.fume ∧
    ((s.answerLock l x).state).peers = s.peers ∧ ((s.answerLock l x).state).scanner = s.scanner ∧
    ((s.answerLock l x).state).tracker = s.tracker ∧ ((s.answerLock l x).state).guide = s.guide ∧
    ((s.answerLock l x).state).lamps = s.lamps ∧ ((s.answerLock l x).state).zone = s.zone ∧
    ((s.answerLock l x).state).pending = s.pending := by
  unfold State.answerLock
  split
  · simp
  · split
    · simp
    · split
      · simp
      · split
        · simp
        · simp only
          split <;> split <;> simp

@[simp] theorem State.answerClearFan_frame (s : State) (x : Byte) :
    ((s.answerClearFan x).state).mode = s.mode ∧ ((s.answerClearFan x).state).settings = s.settings ∧
    ((s.answerClearFan x).state).now = s.now ∧ ((s.answerClearFan x).state).moment = s.moment ∧
    ((s.answerClearFan x).state).gas = s.gas ∧ ((s.answerClearFan x).state).fume = s.fume ∧
    ((s.answerClearFan x).state).peers = s.peers ∧ ((s.answerClearFan x).state).scanner = s.scanner ∧
    ((s.answerClearFan x).state).tracker = s.tracker ∧ ((s.answerClearFan x).state).guide = s.guide ∧
    ((s.answerClearFan x).state).lamps = s.lamps ∧ ((s.answerClearFan x).state).zone = s.zone ∧
    ((s.answerClearFan x).state).store = s.store ∧ ((s.answerClearFan x).state).pending = s.pending := by
  unfold State.answerClearFan
  split
  · simp
  · split
    · simp
    · split <;> simp

@[simp] theorem State.answerClearHead_frame (s : State) (x : Byte) :
    ((s.answerClearHead x).state).mode = s.mode ∧ ((s.answerClearHead x).state).settings = s.settings ∧
    ((s.answerClearHead x).state).now = s.now ∧ ((s.answerClearHead x).state).moment = s.moment ∧
    ((s.answerClearHead x).state).fume = s.fume ∧ ((s.answerClearHead x).state).comms = s.comms ∧
    ((s.answerClearHead x).state).peers = s.peers ∧ ((s.answerClearHead x).state).scanner = s.scanner ∧
    ((s.answerClearHead x).state).tracker = s.tracker ∧ ((s.answerClearHead x).state).guide = s.guide ∧
    ((s.answerClearHead x).state).lamps = s.lamps ∧ ((s.answerClearHead x).state).zone = s.zone ∧
    ((s.answerClearHead x).state).store = s.store ∧ ((s.answerClearHead x).state).pending = s.pending := by
  unfold State.answerClearHead
  split
  · simp
  · split
    · simp
    · split <;> simp

@[simp] theorem State.answerClearBay_frame (s : State) (x : Byte) :
    ((s.answerClearBay x).state).mode = s.mode ∧ ((s.answerClearBay x).state).settings = s.settings ∧
    ((s.answerClearBay x).state).now = s.now ∧ ((s.answerClearBay x).state).moment = s.moment ∧
    ((s.answerClearBay x).state).gas = s.gas ∧ ((s.answerClearBay x).state).fume = s.fume ∧
    ((s.answerClearBay x).state).comms = s.comms ∧ ((s.answerClearBay x).state).peers = s.peers ∧
    ((s.answerClearBay x).state).tracker = s.tracker ∧ ((s.answerClearBay x).state).guide = s.guide ∧
    ((s.answerClearBay x).state).lamps = s.lamps ∧ ((s.answerClearBay x).state).zone = s.zone ∧
    ((s.answerClearBay x).state).store = s.store ∧ ((s.answerClearBay x).state).pending = s.pending ∧
    ((s.answerClearBay x).state).scanner.lanes = s.scanner.lanes ∧
    ((s.answerClearBay x).state).scanner.scan = s.scanner.scan ∧
    ((s.answerClearBay x).state).scanner.flash = s.scanner.flash ∧
    ((s.answerClearBay x).state).scanner.flashOn = s.scanner.flashOn := by
  unfold State.answerClearBay
  split
  · simp
  · split <;> simp

@[simp] theorem State.answerClearLane_frame (s : State) (x : Byte) :
    ((s.answerClearLane x).state).mode = s.mode ∧ ((s.answerClearLane x).state).settings = s.settings ∧
    ((s.answerClearLane x).state).now = s.now ∧ ((s.answerClearLane x).state).moment = s.moment ∧
    ((s.answerClearLane x).state).gas = s.gas ∧ ((s.answerClearLane x).state).fume = s.fume ∧
    ((s.answerClearLane x).state).comms = s.comms ∧ ((s.answerClearLane x).state).peers = s.peers ∧
    ((s.answerClearLane x).state).tracker = s.tracker ∧ ((s.answerClearLane x).state).guide = s.guide ∧
    ((s.answerClearLane x).state).zone = s.zone ∧ ((s.answerClearLane x).state).store = s.store ∧
    ((s.answerClearLane x).state).pending = s.pending := by
  unfold State.answerClearLane
  split
  · simp
  · split <;> simp

@[simp] theorem State.answerClearDetector_frame (s : State) (x y : Byte) :
    ((s.answerClearDetector x y).state).mode = s.mode ∧ ((s.answerClearDetector x y).state).settings = s.settings ∧
    ((s.answerClearDetector x y).state).now = s.now ∧ ((s.answerClearDetector x y).state).moment = s.moment ∧
    ((s.answerClearDetector x y).state).gas = s.gas ∧ ((s.answerClearDetector x y).state).fume = s.fume ∧
    ((s.answerClearDetector x y).state).comms = s.comms ∧ ((s.answerClearDetector x y).state).peers = s.peers ∧
    ((s.answerClearDetector x y).state).tracker = s.tracker ∧ ((s.answerClearDetector x y).state).guide = s.guide ∧
    ((s.answerClearDetector x y).state).zone = s.zone ∧ ((s.answerClearDetector x y).state).store = s.store ∧
    ((s.answerClearDetector x y).state).pending = s.pending := by
  unfold State.answerClearDetector
  split
  · simp
  · split
    · simp
    · split <;> simp

@[simp] theorem State.answerClearStore_frame (s : State) :
    ((s.answerClearStore).state).mode = s.mode ∧ ((s.answerClearStore).state).settings = s.settings ∧
    ((s.answerClearStore).state).now = s.now ∧ ((s.answerClearStore).state).moment = s.moment ∧
    ((s.answerClearStore).state).gas = s.gas ∧ ((s.answerClearStore).state).fume = s.fume ∧
    ((s.answerClearStore).state).comms = s.comms ∧ ((s.answerClearStore).state).peers = s.peers ∧
    ((s.answerClearStore).state).scanner = s.scanner ∧ ((s.answerClearStore).state).tracker = s.tracker ∧
    ((s.answerClearStore).state).guide = s.guide ∧ ((s.answerClearStore).state).lamps = s.lamps ∧
    ((s.answerClearStore).state).zone = s.zone ∧ ((s.answerClearStore).state).pending = s.pending := by
  unfold State.answerClearStore
  split
  · simp
  · split <;> simp

@[simp] theorem State.answerBoost_frame (s : State) (x y : Byte) :
    ((s.answerBoost x y).state).mode = s.mode ∧ ((s.answerBoost x y).state).settings = s.settings ∧
    ((s.answerBoost x y).state).now = s.now ∧ ((s.answerBoost x y).state).moment = s.moment ∧
    ((s.answerBoost x y).state).gas = s.gas ∧ ((s.answerBoost x y).state).fume = s.fume ∧
    ((s.answerBoost x y).state).peers = s.peers ∧ ((s.answerBoost x y).state).scanner = s.scanner ∧
    ((s.answerBoost x y).state).tracker = s.tracker ∧ ((s.answerBoost x y).state).guide = s.guide ∧
    ((s.answerBoost x y).state).lamps = s.lamps ∧ ((s.answerBoost x y).state).zone = s.zone ∧
    ((s.answerBoost x y).state).store = s.store ∧ ((s.answerBoost x y).state).pending = s.pending := by
  unfold State.answerBoost
  split
  · simp
  · split <;> simp

@[simp] theorem State.answerRestart_frame (s : State) :
    ((s.answerRestart).state).mode = s.mode ∧ ((s.answerRestart).state).settings = s.settings ∧
    ((s.answerRestart).state).now = s.now ∧ ((s.answerRestart).state).moment = s.moment ∧
    ((s.answerRestart).state).gas = s.gas ∧ ((s.answerRestart).state).fume = s.fume ∧
    ((s.answerRestart).state).peers = s.peers ∧ ((s.answerRestart).state).scanner = s.scanner ∧
    ((s.answerRestart).state).tracker = s.tracker ∧ ((s.answerRestart).state).guide = s.guide ∧
    ((s.answerRestart).state).lamps = s.lamps ∧ ((s.answerRestart).state).zone = s.zone ∧
    ((s.answerRestart).state).store = s.store ∧ ((s.answerRestart).state).pending = s.pending := by
  simp [State.answerRestart]

@[simp] theorem State.answerWrite_frame (s : State) (x : Byte) (d : List Byte) :
    ((s.answerWrite x d).state).mode = s.mode ∧ ((s.answerWrite x d).state).settings = s.settings ∧
    ((s.answerWrite x d).state).now = s.now ∧ ((s.answerWrite x d).state).moment = s.moment ∧
    ((s.answerWrite x d).state).gas = s.gas ∧ ((s.answerWrite x d).state).fume = s.fume ∧
    ((s.answerWrite x d).state).comms = s.comms ∧ ((s.answerWrite x d).state).peers = s.peers ∧
    ((s.answerWrite x d).state).scanner = s.scanner ∧ ((s.answerWrite x d).state).tracker = s.tracker ∧
    ((s.answerWrite x d).state).guide = s.guide ∧ ((s.answerWrite x d).state).lamps = s.lamps ∧
    ((s.answerWrite x d).state).zone = s.zone ∧ ((s.answerWrite x d).state).pending = s.pending := by
  unfold State.answerWrite
  split
  · simp
  · split
    · simp
    · split <;> simp

@[simp] theorem State.answerRead_frame (s : State) (x : Byte) :
    ((s.answerRead x).state).mode = s.mode ∧ ((s.answerRead x).state).settings = s.settings ∧
    ((s.answerRead x).state).now = s.now ∧ ((s.answerRead x).state).moment = s.moment ∧
    ((s.answerRead x).state).gas = s.gas ∧ ((s.answerRead x).state).fume = s.fume ∧
    ((s.answerRead x).state).comms = s.comms ∧ ((s.answerRead x).state).peers = s.peers ∧
    ((s.answerRead x).state).scanner = s.scanner ∧ ((s.answerRead x).state).tracker = s.tracker ∧
    ((s.answerRead x).state).guide = s.guide ∧ ((s.answerRead x).state).lamps = s.lamps ∧
    ((s.answerRead x).state).zone = s.zone ∧ ((s.answerRead x).state).store = s.store ∧
    ((s.answerRead x).state).pending = s.pending := by
  unfold State.answerRead
  split
  · simp
  · split
    · simp
    · split <;> simp

@[simp] theorem State.answerCommit_frame (s : State) :
    ((s.answerCommit).state).mode = s.mode ∧ ((s.answerCommit).state).settings = s.settings ∧
    ((s.answerCommit).state).now = s.now ∧ ((s.answerCommit).state).moment = s.moment ∧
    ((s.answerCommit).state).gas = s.gas ∧ ((s.answerCommit).state).fume = s.fume ∧
    ((s.answerCommit).state).comms = s.comms ∧ ((s.answerCommit).state).peers = s.peers ∧
    ((s.answerCommit).state).scanner = s.scanner ∧ ((s.answerCommit).state).tracker = s.tracker ∧
    ((s.answerCommit).state).guide = s.guide ∧ ((s.answerCommit).state).lamps = s.lamps ∧
    ((s.answerCommit).state).zone = s.zone ∧ ((s.answerCommit).state).pending = s.pending := by
  unfold State.answerCommit
  split
  · simp
  · split
    · simp
    · split
      · simp
      · split <;> simp

@[simp] theorem State.answer_frame (s : State) (r : Request) :
    ((s.answer r).state).mode = s.mode ∧ ((s.answer r).state).settings = s.settings ∧
    ((s.answer r).state).now = s.now ∧ ((s.answer r).state).moment = s.moment ∧ ((s.answer r).state).fume = s.fume ∧
    ((s.answer r).state).peers = s.peers ∧ ((s.answer r).state).tracker = s.tracker ∧
    ((s.answer r).state).guide = s.guide ∧ ((s.answer r).state).zone = s.zone ∧
    ((s.answer r).state).pending = s.pending := by
  unfold State.answer
  split <;> simp

@[simp] theorem State.serve_frame (s : State) (r : Request) (rest : List Request) :
    (s.serve r rest).mode = s.mode ∧ (s.serve r rest).settings = s.settings ∧ (s.serve r rest).now = s.now ∧
    (s.serve r rest).moment = s.moment ∧ (s.serve r rest).fume = s.fume ∧ (s.serve r rest).peers = s.peers ∧
    (s.serve r rest).pending = s.pending := by
  unfold State.serve
  simp

@[simp] theorem pump_frame (n : Nat) (s : State) :
    (pump n s).mode = s.mode ∧ (pump n s).settings = s.settings ∧ (pump n s).now = s.now ∧
    (pump n s).moment = s.moment ∧ (pump n s).fume = s.fume ∧ (pump n s).peers = s.peers ∧
    (pump n s).pending = s.pending := by
  induction n generalizing s with
  | zero => simp [pump]
  | succ n ih =>
    unfold pump
    split
    · split
      · simp
      · simp [ih]
    · simp

@[simp] theorem State.pumpService_frame (s : State) :
    (s.pumpService).mode = s.mode ∧ (s.pumpService).settings = s.settings ∧ (s.pumpService).now = s.now ∧
    (s.pumpService).moment = s.moment ∧ (s.pumpService).fume = s.fume ∧ (s.pumpService).peers = s.peers ∧
    (s.pumpService).pending = s.pending := by
  unfold State.pumpService
  simp

@[simp] theorem State.settle_frame (s : State) :
    (s.settle).mode = s.mode ∧ (s.settle).settings = s.settings ∧ (s.settle).now = s.now ∧
    (s.settle).moment = s.moment ∧ (s.settle).peers = s.peers ∧ (s.settle).pending = s.pending := by
  unfold State.settle
  simp

/-! ## The counter groups as they are read (R177) -/

/-- In OPERATING a group is read as it stands. -/
theorem State.readGroup_of_operating {s : State} (h : s.operating = true) (l : List Nat) : s.readGroup l = l := by
  simp [State.readGroup, h]

/-- In COMMISSION every counter of a group that stands at 0 there is read as 0. -/
theorem State.eq_zero_of_mem_readGroup {s : State} (h : s.operating = false) {l : List Nat} {n : Nat}
    (hn : n ∈ s.readGroup l) : n = 0 := by
  simp [State.readGroup, h] at hn
  exact hn.2

end Sys2Proof.Machine
end

