-- ==== Sys2Proof/Laws/Settle.lean ====
section
/-! SUPPORT. What the end of a step does to a state that leaves it nothing, or little, to do. -/

namespace Sys2Proof.Machine

/-- A told NO_VENT is not told again. -/
theorem State.ventSettle_of_told {s : State} (h : s.ventTold = true) : s.ventSettle = s := by
  unfold State.ventTold at h
  unfold State.ventSettle
  rw [if_neg]
  cases ho : s.operating <;> simp_all

/-- With no request waiting the responder does nothing. -/
theorem State.pumpService_of_empty {s : State} (h : s.comms.service.queue = []) : s.pumpService = s := by
  simp [State.pumpService, h, pump]

/-- With no request that it may take the responder does nothing. -/
theorem State.pumpService_of_taken {s : State} (h : s.requestsTaken = true) : s.pumpService = s := by
  unfold State.requestsTaken at h
  cases hq : s.comms.service.queue with
  | nil => exact s.pumpService_of_empty hq
  | cons r rest =>
    have : s.mayServe = false := by simpa [hq] using h
    simp [State.pumpService, hq, pump, this]

/-- With nothing that the link may start, the end of a step starts nothing, and no other party's start matters. -/
theorem State.linkSettle_of_started {s : State} (h : s.framesStarted = true) : s.linkSettle = s := by
  have : s.canStart = false := by simpa [State.framesStarted] using h
  simp [State.linkSettle, State.startFirst, this]

/-- With the bus not free the link starts nothing. -/
theorem State.linkSettle_of_busy {s : State} (h : s.comms.link.busFreeCount ≠ Config.busFreeBits) :
    s.linkSettle = s :=
  s.linkSettle_of_started (by simp [State.framesStarted, State.canStart, h])

/-- Once the link has started what it could, nothing that it may start waits (R66). -/
theorem State.framesStarted_startFirst (s : State) : s.startFirst.framesStarted = true := by
  unfold State.startFirst
  split
  · next h =>
    unfold State.launch
    split
    · next hq => simp only [State.framesStarted, State.canStart, hq, List.isEmpty_nil, Bool.not_true, Bool.and_false]
                 rfl
    · simp [State.framesStarted, State.canStart, Config.busFreeBits]
  · next h => simpa [State.framesStarted] using h

/-- What the end of a step can do to a frame that waits on a free bus: start it, or leave it to wait as another party
has taken the bus (R61). -/
theorem State.linkSettle_cases (s : State) :
    s.linkSettle = s.startFirst ∨
      s.linkSettle = { s with comms := { s.comms with link := s.comms.link.busTaken } } := by
  unfold State.linkSettle
  split
  · exact .inr rfl
  · exact .inl rfl

/-- A station at rest is left as it is by the end of a step. -/
theorem State.settle_of_atRest {s : State} (h : s.atRest = true) : s.settle = s := by
  simp only [State.atRest, Bool.and_eq_true] at h
  unfold State.settle
  rw [s.ventSettle_of_told h.1.1, s.pumpService_of_taken h.1.2, s.linkSettle_of_started h.2]

/-- A quiet station is at rest. -/
theorem State.atRest_of_quiet {s : State} (h : s.quiet = true) : s.atRest = true := by
  simp only [State.quiet, Bool.and_eq_true, decide_eq_true_eq] at h
  simp [State.atRest, h.1.1, State.requestsTaken, h.1.2, State.framesStarted, State.canStart, h.2]

theorem State.settle_of_quiet {s : State} (h : s.quiet = true) : s.settle = s :=
  s.settle_of_atRest (s.atRest_of_quiet h)

/-- A command whose effect is a station at rest answers that effect, one moment later. -/
theorem done_of_atRest {s : State} (h : s.atRest = true) : done s = .next { s with moment := s.moment + 1 } := by
  simp [done, s.settle_of_atRest h]

theorem done_of_quiet {s : State} (h : s.quiet = true) : done s = .next { s with moment := s.moment + 1 } :=
  done_of_atRest (s.atRest_of_quiet h)

/-- With no request waiting the end of a step only tells NO_VENT and starts a frame. -/
theorem State.settle_of_empty {s : State} (h : s.comms.service.queue = []) (hv : s.ventTold = true) :
    s.settle = s.linkSettle := by
  simp [State.settle, s.ventSettle_of_told hv, s.pumpService_of_empty h]

end Sys2Proof.Machine
end

