-- ==== Sys2Proof/WellFormed.lean ====
section
/-! DEFINITION. Which commands can arrive: the checks that the types of the operands do not make already. -/

namespace Sys2Proof

/-- The data bytes that follow the argument in a SERVICE REQUEST, fixed by the request kind (R179). -/
def requestDataLength (kind : Byte) : Nat :=
  if kind = 2 ∨ kind = 7 ∨ kind = 9 then 1 else if kind = 11 then 8 else 0

/-- A request kind to which the ZS240 gives a meaning (R179). -/
def knownRequestKind (kind : Byte) : Bool := decide (1 ≤ kind.toNat ∧ kind.toNat ≤ 13)

/-- A frame kind that reception passes to some block (R89): START NOTICE, TRANSIT NOTICE, ZONE REPORT and SERVICE
REQUEST. -/
def passedFrameKind (kind : BitVec 5) : Bool := kind = 2 || kind = 3 || kind = 4 || kind = 8

/-- A command that can arrive. A tachometer period is a time between two pulses; a SERVICE REQUEST carries the data
its kind fixes; the rows of the frames and requests without a meaning carry such a kind. -/
def Instr.wellFormed : Instr → Bool
  | .tachPulse _ period => decide (0 < period)
  | .serviceRequestTaken _ _ kind _ data => data.length == requestDataLength kind
  | .unpassedFrameTaken _ kind => !passedFrameKind kind
  | .unknownRequestKind kind _ => !knownRequestKind kind
  | .powerOnReset _ | .restartTaken _ | .warmUpTimerExpiry _ | .headValueAgesTs _ | .headValueAges2Ts _
  | .sampleConversionComplete _ | .zeroConversionComplete _ | .zeroProtectedPartEnd | .settleTimerExpiry _
  | .zeroIntervalTimerExpiry _ | .clearHeadFault _ | .gasUpdateTimerExpiry | .minuteBoundary | .movementRoll
  | .dwellTimerExpiry | .localSpacingTimerExpiry | .tachTimeout _ | .spinUpTimerExpiry _ | .runningCheck _
  | .checkHoldTimerExpiry _ | .rotationTimerExpiry | .boostTimerExpiry | .lockFan _ | .unlockFan _
  | .clearFanFault _ | .boostStage _ _ | .busFree | .arbitrationLost | .lateCollision | .frameDelivered
  | .attemptVoided | .attemptUnheard | .zoneReportTaken _ _ | .startNoticeTaken _ _ _
  | .transitNoticeTaken _ _ _ _ | .receivedFrameDiscarded _ | .brokenFrame | .stretchBegin
  | .stretchTimerExpiry | .stuckTimerExpiry | .joinTimerExpiry | .lateCollisionRecordLapse | .periodicRequest
  | .spacingTimerExpiry | .staleTimerExpiry _ | .lostTimerExpiry _ | .startNoticeEntryExpiry _ _
  | .scanTimerExpiry | .bayPollAnswer _ _ | .bayNoAnswer _ | .flashTimerExpiry | .loopChange _ _ _
  | .lanePresenceTimerExpiry _ | .loopStuckTimerExpiry _ _ | .clearDetector _ _ | .arrivalExpiry
  | .signRefreshTimerExpiry | .signRecordEnd | .lampPresenceTimerExpiry _ | .rampTick | .pwmPeriodStart
  | .purgeAssertionTaken | .purgeReleaseTaken | .alarmHoldTimerExpiry | .lockWriteEnd _ | .commitWriteEnd _
  | .statusQuery _ | .counterQuery _ _ | .clearStoreError | .configWrite _ _ | .configRead _ | .configCommit
  | .restart => true

end Sys2Proof
end

