-- ==== Sys2Proof/Tests/Slice0.lean ====
section
/-! SUPPORT. The model's own tests: the checks of WellFormed, the manual's worked figures, one step of each kind, and
for every statement with premises a station and operands that meet them. -/

namespace Sys2Proof.Tests

open Sys2Proof Sys2Proof.Machine

set_option Elab.async false

/-! ## Ill-formed commands are refused (R47, R179) -/

theorem test_wellFormed_tach_period : (Instr.tachPulse 0 0).wellFormed = false ∧ (Instr.tachPulse 0 1).wellFormed = true := by
  decide

theorem test_wellFormed_request_data :
    (Instr.serviceRequestTaken 63 5 7 0 []).wellFormed = false ∧
      (Instr.serviceRequestTaken 63 5 7 0 [1]).wellFormed = true ∧
      (Instr.serviceRequestTaken 63 5 11 0 [1, 2, 3, 4, 5, 6, 7]).wellFormed = false := by decide

theorem test_wellFormed_unpassed_kind :
    (Instr.unpassedFrameTaken 3 4).wellFormed = false ∧ (Instr.unpassedFrameTaken 3 9).wellFormed = true := by decide

theorem test_wellFormed_unknown_kind :
    (Instr.unknownRequestKind 13 0).wellFormed = false ∧ (Instr.unknownRequestKind 14 0).wellFormed = true := by decide

/-- The table gives no row any bits. -/
theorem test_decode_no_words : decodeTableWord 8 0 = none ∧ decodeTableWord 16 0xFFFF = none := by decide

/-! ## Figures the manual works out -/

/-- The check value of the polynomial of R65 over the digits 1 to 9. -/
theorem test_crc8_digits : crc8 [0x31, 0x32, 0x33, 0x34, 0x35, 0x36, 0x37, 0x38, 0x39] = 0xF7 := by decide +kernel

/-- The check value of the polynomial of R164 over the digits 1 to 9. -/
theorem test_crc16_digits : crc16 [0x31, 0x32, 0x33, 0x34, 0x35, 0x36, 0x37, 0x38, 0x39] = 0x29B1 := by decide +kernel

/-- The two examples of R12: 400 and 413 give 403, then 390 gives 400; a difference of 3 moves nothing. -/
theorem test_stepZero_examples : stepZero 400 413 = 403 ∧ stepZero 403 390 = 400 ∧ stepZero 400 403 = 400 := by decide

/-- A code at its zero gives 0 and sets no flag; one below it sets UNDER; a result above full scale is held (R18). -/
theorem test_concentration_edges :
    concentration 5000 400 140 400 = ⟨0, false, false⟩ ∧ concentration 5000 400 140 399 = ⟨0, false, true⟩ ∧
      concentration 2000 400 600 4000 = ⟨2000, true, false⟩ := by decide

/-- Fade steps of the table of R149. -/
theorem test_fadeStep_table :
    fadeStep 2 = 5 ∧ fadeStep 3 = 3 ∧ fadeStep 4 = 2 ∧ fadeStep 5 = 2 ∧ fadeStep 6 = 1 ∧ fadeStep 60 = 1 := by decide

/-- Centre counts of the table of R150. -/
theorem test_centreCount_table :
    (List.finRange 8).map centreCount = [0, 127, 255, 383, 511, 639, 767, 895] := by decide

/-- The discounts of the chain of Chapter 8: 80 at cost 32 is 70, 70 at cost 16 is 65, and STALE it is 32 (R132). -/
theorem test_candidate_values :
    (candidateOf ⟨true, 23, some 0, 32, 0⟩ false ⟨0, 0, 0, 0, 0, 0, 80, 20, 0, 23, 0⟩).value = 70 ∧
      (candidateOf ⟨true, 22, some 1, 16, 0⟩ false ⟨0, 0, 0, 0, 0, 0, 70, 20, 1, 23, 23⟩).value = 65 ∧
      (candidateOf ⟨true, 22, some 1, 16, 0⟩ true ⟨0, 0, 0, 0, 0, 0, 70, 20, 1, 23, 23⟩).value = 32 := by decide

/-- Updates of a full minute: 60 at 1 s, 120 at 0.5 s, 85 at 0.7 s, 30 at 2 s (R25). -/
theorem test_updatesPerMinute :
    [10, 5, 7, 20].map (fun ts => updatesPerMinute { Settings.blank with tsTenths := ts }) = [60, 120, 85, 30] := by decide

/-- The smallest assist: an FS of 480 at air weight 4 gives 240 (R29). -/
theorem test_assist :
    assistOf 4 ⟨some ⟨⟨0, 480, 0, 0, 0, 0, 0, 0, 0, 0, 0⟩, 0⟩, .fresh, .stopped, .stopped⟩ = some 240 := by decide

/-! ## A small station -/

/-- A station with four heads, three fans, one neighbour, two bays and every lane. -/
def cfg : Settings :=
  { Settings.blank with
    heads := Tbl.const 4 ⟨true, 400, 140, 80⟩
    tsTenths := 10
    zeroHours := 24
    shortLimit := ⟨1000, 300⟩
    exposureLimit := ⟨500, 200⟩
    km := 3
    kq := 16
    fans := (Tbl.const 4 ⟨true, 1450, 2⟩).set 3 ⟨false, 0, 0⟩
    lead := [0, 1, 2]
    count := ⟨[1, 2, 3], rfl⟩
    duty := ⟨[140, 190, 235], rfl⟩
    entry := ⟨[64, 128, 200], rfl⟩
    exit := ⟨[40, 96, 160], rfl⟩
    failSafe := 2
    dwell := 120
    rotationHours := 12
    allowance := 2
    window := 6
    unit := 5
    lifetime := 180
    divertOn := 192
    divertOff := 160
    alarmOn := 512
    alarmOff := 200
    alarmHold := 60
    reportPeriod := 4
    staleTime := 12
    lostTime := 30
    neighbours := (Tbl.const 8 ⟨false, 0, none, 0, 0⟩).set 0 ⟨true, 14, some 1, 32, 4⟩
    scanTenths := 10
    confirm := 3
    queueTime := 10
    ports := Tbl.const 4 ⟨true, some 3⟩
    bays := ((Tbl.const 48 ⟨false, .general, false, 0, none⟩).set 7 ⟨true, .general, false, 8, some 3⟩).set 9
      ⟨true, .general, false, 1, none⟩
    lamps := Tbl.const 8 ⟨102, 716, 921, 60, 4, true, true⟩ }

/-- The station OPERATING, its link ACTIVE, stage 1 in force, bay 7 FREE. -/
def live : State :=
  { State.reset with
    mode := .operating
    settings := cfg
    now := 1000
    gas := { GasFront.reset with heads := Tbl.const 4 ⟨.active, some ⟨535, 100⟩, 400, 0, .stopped, .stopped, .running 9⟩ }
    fume := { Fume.reset with
      gases := ⟨{ GasFume.reset with valid := true }, { GasFume.reset with valid := true }⟩
      update := .running 0, minute := .running 0, roll := .running 0 }
    comms := { Comms.reset with
      fan := { FanCtl.reset with lead := [0, 1, 2], stage := 1, dwell := .running 0, rotationLeft := 4 }
      link := { Link.reset with state := .active, report := .running 0 } }
    scanner := { Scanner.reset with
      bays := ((Tbl.const 48 Bay.unused).set 7 ⟨.free, none, 0, 0, .green, .green⟩).set 9 ⟨.unknown, none, 0, 0, .dark, .dark⟩
      scan := .running 0
      flash := .running 0 }
    lamps := ⟨Tbl.const 8 (Channel.reset 102), .running 0, .running 0, ⟨0, 0, 0, 0⟩⟩ }

/-- The bytes of an image with these settings, from the marker to the last field (R181). -/
def imageBytes : List Byte :=
  marker ++ [0, 0, 0x01, 0x8A] ++ (List.replicate 4 [1, 1, 0x90, 0, 140, 0, 80]).flatten ++
    [10, 24, 0x03, 0xE8, 0x01, 0x2C, 0x01, 0xF4, 0, 200, 3, 16] ++
    (List.replicate 3 [1, 0x05, 0xAA, 2]).flatten ++ [0, 0, 0, 0] ++ [0, 1, 2, 255, 1, 2, 3, 140, 190, 235] ++
    [0, 64, 0, 128, 0, 200, 0, 40, 0, 96, 0, 160] ++ [2, 0, 120, 12, 2, 6, 0, 5, 0, 180] ++
    [0, 192, 0, 160, 2, 0, 0, 200, 0, 60, 4, 12, 30] ++
    [1, 14, 1, 32, 4] ++ (List.replicate 7 [0, 0, 255, 0, 0]).flatten ++ [10, 3, 10] ++
    (List.replicate 4 [1, 3]).flatten ++
    (List.replicate 7 [0, 0, 255]).flatten ++ [1, 8, 3] ++ [0, 0, 255] ++ [1, 1, 255] ++
    (List.replicate 38 [0, 0, 255]).flatten ++
    (List.replicate 8 [0, 102, 2, 204, 3, 153, 0, 60, 4, 3]).flatten ++ List.replicate 8 255

/-- The image of the small station, with its check. -/
def goodImage : Image :=
  ⟨imageBytes ++ word16 0x1D29 ++ List.replicate 118 0, by decide +kernel⟩

/-- The fields of the image stand where R181 puts them. -/
theorem test_image_fields : settingsOf goodImage = cfg := by decide +kernel

/-- 49 bytes of the image from a place on, into a check. -/
def crcPart (k : Nat) (r : BitVec 16) : BitVec 16 :=
  ((imageBytes.drop (49 * k)).take 49).foldl (fun r x => (bitsOf x).foldl crc16Bit r) r

theorem test_crc_parts :
    crcPart 0 0xFFFF#16 = 0x33B8 ∧ crcPart 1 0x33B8 = 0x24D9 ∧ crcPart 2 0x24D9 = 0x6DC9 ∧ crcPart 3 0x6DC9 = 0xC114 ∧
      crcPart 4 0xC114 = 0xABB4 ∧ crcPart 5 0xABB4 = 0xD971 ∧ crcPart 6 0xD971 = 0x8F74 ∧
      crcPart 7 0x8F74 = 0x1D29 := by decide +kernel

theorem imageBytes_parts :
    imageBytes = (List.range 8).flatMap fun k => (imageBytes.drop (49 * k)).take 49 := by decide +kernel

/-- The check of the image, part by part (R164). -/
theorem test_crc_of_the_image : crc16 imageBytes = 0x1D29 := by
  obtain ⟨h0, h1, h2, h3, h4, h5, h6, h7⟩ := test_crc_parts
  unfold crc16
  rw [imageBytes_parts]
  simp only [List.range_succ, List.range_zero, List.flatMap_append, List.flatMap_cons, List.flatMap_nil,
    List.foldl_append, List.nil_append, List.append_nil]
  unfold crcPart at h0 h1 h2 h3 h4 h5 h6 h7
  rw [h0, h1, h2, h3, h4, h5, h6, h7]

theorem goodImage_take : goodImage.cells.take 392 = imageBytes := by decide +kernel

theorem goodImage_word : wordAt goodImage.cells 392 = 0x1D29 := by decide +kernel

/-- Marker, length and check of the image agree (R164). -/
theorem test_image_valid : imageValid goodImage = true := by
  have hm : markerOk goodImage = true := by decide +kernel
  have hl : lengthOk goodImage = true := by decide +kernel
  simp [imageValid, hm, hl, checkOk, goodImage_take, goodImage_word, test_crc_of_the_image]

def withHead (h : Fin 4) (x : Head) (s : State) : State := { s with gas := { s.gas with heads := s.gas.heads.set h x } }

def withConverter (c : Converter) (s : State) : State := { s with gas := { s.gas with converter := c } }

def withFan (i : Fin 4) (f : Fan) (s : State) : State := { s with comms := s.comms.setFan i f }

def onFanCtl (f : FanCtl → FanCtl) (s : State) : State := { s with comms := { s.comms with fan := f s.comms.fan } }

def onLink (f : Link → Link) (s : State) : State := { s with comms := { s.comms with link := f s.comms.link } }

def withQueue (q : List Frame) (s : State) : State := onLink (fun l => { l with queue := q }) s

def withNotices (n : List Notice) (s : State) : State := { s with comms := { s.comms with notices := n } }

def withBay (b : Fin 48) (x : Bay) (s : State) : State :=
  { s with scanner := { s.scanner with bays := s.scanner.bays.set b x } }

def withLane (p : Fin 4) (l : Lane) (s : State) : State :=
  { s with scanner := { s.scanner with lanes := s.scanner.lanes.set p l } }

def withList (l : List Arrival) (s : State) : State := { s with tracker := { s.tracker with list := l } }

def inZone (z : ZoneCtl) (s : State) : State := { s with zone := z }

/-- A head ACTIVE at its configured zero, with a fresh value. -/
def activeHead : Head := ⟨.active, some ⟨535, 100⟩, 400, 0, .stopped, .stopped, .running 9⟩

/-- A head at rest, its settle timer running, with a backlog of 1. -/
def restingHead : Head := ⟨.zeroing, some ⟨535, 100⟩, 400, 1, .stopped, .running 5, .running 9⟩

/-- A fan that turns at the duty of stage 1. -/
def turning (state : FanState) (speed : Nat) (hold spinUp check : Timer) : Fan :=
  ⟨state, 140, some speed, 0, none, false, hold, spinUp, check⟩

/-- A frame of a kind, at an attempt, in flight. -/
def sent (p : Payload) (attempt : Nat) : Frame := ⟨p, attempt, true, 3, 0, true⟩

/-- A frame that waits. -/
def waiting (p : Payload) : Frame := ⟨p, 0, true, 3, 0, false⟩

/-- A ZONE REPORT payload: NORMAL, FS 480, no conditions, 3 free bays, an offer of 80 with 20 free, 0 hops, origin and
next hop 23. -/
def reportBytes : Tbl 13 Byte := ⟨[0, 1, 224, 0, 0, 0, 3, 0, 80, 20, 0, 23, 23], rfl⟩

/-- A field of the next state of a command, where it answers one. -/
def after {α : Type} (c : Instr) (s : State) (f : State → α) : Option α :=
  match exec c s with
  | .next t => some (f t)
  | _ => none

/-! ## One step of each kind -/

/-- The end of warm-up: ACTIVE, and with no value yet URGENT, so that an idle converter takes it at once, 40 ms (R3 to
R6). -/
theorem test_warmUp_ends : after (.warmUpTimerExpiry 0)
    (withHead 0 ⟨.warming, none, 400, 0, .running 0, .stopped, .stopped⟩ live)
    (fun t => ((t.gas.heads.get 0).state, (t.gas.heads.get 0).zeroInterval, t.gas.converter)) =
    some (.active, .running 86400000, .sample 0 40) := by decide +kernel

/-- 135 codes above the zero at a span of 80 are 42 cu; the code 8 is on the rail, 4087 too (R7, R18). -/
theorem test_sample_codes :
    after (.sampleConversionComplete 535) (withConverter (.sample 1 0) { live with settings := { cfg with heads := Tbl.const 4 ⟨true, 400, 80, 80⟩ } })
      (fun t => (t.gas.heads.get 1).latest) = some (some ⟨42, 0⟩) ∧
    after (.sampleConversionComplete 8) (withConverter (.sample 1 0) live)
      (fun t => ((t.gas.heads.get 1).state, (t.gas.heads.get 1).latest)) = some (.openCircuit, none) ∧
    after (.sampleConversionComplete 4087) (withConverter (.sample 1 0) live)
      (fun t => (t.gas.heads.get 1).state) = some .openCircuit := by decide +kernel

/-- A drift of the whole limit is a pass and moves the zero by 20; one code more is DRIFT (R12). -/
theorem test_zero_codes :
    after (.zeroConversionComplete 480) (withConverter (.zero 1 false 0) (withHead 1 restingHead live))
      (fun t => ((t.gas.heads.get 1).state, (t.gas.heads.get 1).zr, (t.gas.heads.get 1).backlog)) =
      some (.active, 420, 0) ∧
    after (.zeroConversionComplete 481) (withConverter (.zero 1 false 0) (withHead 1 restingHead live))
      (fun t => ((t.gas.heads.get 1).state, (t.gas.heads.get 1).zr, (t.gas.heads.get 1).backlog)) =
      some (.drift, 400, 1) := by decide +kernel

/-- A resting partner of a head that goes OPEN comes back with its backlog kept (R14, R15). -/
theorem test_open_head_withdraws_cover : after (.sampleConversionComplete 0)
    (withConverter (.sample 0 0) (withHead 1 restingHead live))
    (fun t => ((t.gas.heads.get 1).state, (t.gas.heads.get 1).backlog, t.gas.counters.zeroWithdrawn)) =
    some (.active, 1, 1) := by decide +kernel

/-- The first interval raises the backlog and the covered head goes to rest at once; at 3 nothing rises (R8, R9). -/
theorem test_backlog_stops_at_three :
    ([0, 3].map fun n => after (.zeroIntervalTimerExpiry 1) (withHead 1 { activeHead with backlog := n } live)
      (fun t => ((t.gas.heads.get 1).state, (t.gas.heads.get 1).backlog))) =
    [some (.zeroing, 1), some (.active, 3)] := by decide +kernel

/-- A good update: the accumulator 400 takes 535 to 835; the CO short score is 208 × 256 / 1000, and FS is that
of NO2, 133 × 256 / 300 (R23, R27, R28). -/
theorem test_gas_update : after .gasUpdateTimerExpiry
    { live with fume := { live.fume with gases := ⟨{ GasFume.reset with acc := 400, valid := true }, GasFume.reset⟩ } }
    (fun t => (t.fume.gases.co.acc, t.fume.gases.co.sum, t.fume.gases.co.shortScore, t.fume.fs)) =
    some (835, 535, 53, 113) := by decide +kernel

/-- A minute of 29 good updates of 60 closes an absent bin, one of 30 the mean (R25). -/
theorem test_minute_bins :
    after .minuteBoundary { live with fume := { live.fume with gases := ⟨{ GasFume.reset with sum := 290, count := 29 }, GasFume.reset⟩ } }
      (fun t => (t.fume.gases.co.ring.get 14, t.fume.counters.absentBins)) = some (none, 2) ∧
    after .minuteBoundary { live with fume := { live.fume with gases := ⟨{ GasFume.reset with sum := 329, count := 30 }, GasFume.reset⟩ } }
      (fun t => (t.fume.gases.co.ring.get 14, t.fume.gases.co.sum)) = some (some 10, 0) := by decide +kernel

/-- The oldest of six movement bins leaves: 1 + 2 + 3 + 4 + 5 movements at 3 each, divided by 4, are 11 (R30, R32). -/
theorem test_movement_roll : after .movementRoll
    { live with fume := { live.fume with movement := ⟨[9, 1, 2, 3, 4, 5], rfl⟩ } }
    (fun t => (t.fume.movement.cells, t.fume.es)) = some ([1, 2, 3, 4, 5, 0], 11) := by decide +kernel

/-- 20 ms at 2 pulses a revolution is 1500 rpm; 1 s is a speed, one microsecond more is 0 (R47). -/
theorem test_tachometer :
    ([20000, 1000000, 1000001].map fun p => after (.tachPulse 0 p)
      (withFan 0 (turning .running 0 .stopped .stopped (.running 5)) live) (fun t => (t.comms.fanAt 0).speed)) =
    [some (some 1500), some (some 30), some (some 0)] := by decide +kernel

/-- Half of the expected speed 1450 × 140 / 255 is 398: a fan at 398 runs, one at 397 has not started (R47, R48). -/
theorem test_spin_up_check :
    after (.spinUpTimerExpiry 0) (withFan 0 (turning .spinup 398 .stopped (.running 0) .stopped) live)
      (fun t => (t.comms.fanAt 0).state) = some .running ∧
    after (.spinUpTimerExpiry 0) (withFan 0 (turning .spinup 397 .stopped (.running 0) .stopped) live)
      (fun t => ((t.comms.fanAt 0).state, (t.comms.fanAt 0).cause, (t.comms.fanAt 0).duty)) =
      some (.fault, some .noStart, 0) := by decide +kernel

/-- The third failing check in a row is a STALL (R49). -/
theorem test_third_failing_check :
    ([1, 2].map fun n => after (.runningCheck 0)
      (withFan 0 { turning .running 0 .stopped .stopped (.running 0) with failing := n } live)
      (fun t => ((t.comms.fanAt 0).state, (t.comms.fanAt 0).cause))) =
    [some (.running, none), some (.fault, some .stall)] := by decide +kernel

/-- The dwell timer's expiry lowers stage 3 to 2, and stage 2 with fan 0 turning gives it the duty of stage 1 (R38,
R41). -/
theorem test_dwell_lowers_one_step :
    after .dwellTimerExpiry (onFanCtl (fun f => { f with stage := 3 }) live)
      (fun t => (t.comms.fan.stage, t.comms.fan.dwell)) = some (2, .running 120000) ∧
    after .dwellTimerExpiry (withFan 0 { turning .running 1500 .stopped .stopped (.running 5) with duty := 190 }
      (onFanCtl (fun f => { f with stage := 2 }) live)) (fun t => (t.comms.fanAt 0).duty) = some 140 := by decide +kernel

/-- The report enters arbitration with class 4, kind 4, retry priority 3, unit 5, and 13 payload bytes (R63, R179). -/
theorem test_bus_free_sends_the_report : after .busFree (withQueue [waiting .report] live)
    (fun t => (t.comms.link.wire.take 3, t.comms.link.wire.length)) = some ([0x84, 0xC5, 0], 16) := by decide +kernel

/-- A voided attempt raises the attempt; the third one drops the frame (R72). -/
theorem test_third_voided_attempt_drops :
    ([1, 2].map fun n => after .attemptVoided (withQueue [sent .report n] live)
      (fun t => (t.comms.link.queue.map (·.attempt), t.comms.link.counters.framesDropped))) =
    [some ([2], 0), some ([], 1)] := by decide +kernel

/-- The third unheard drop in a row isolates the link (R80). -/
theorem test_third_unheard_drop_isolates : after .attemptUnheard
    (onLink (fun l => { l with unheardDrops := 2 }) (withQueue [sent .report 2] live))
    (fun t => t.comms.link.state) = some .isolated := by decide +kernel

/-- The delivery of the fan's notice starts it, and the notice enters the list for W (R44). -/
theorem test_delivered_notice_starts_the_fan : after .frameDelivered
    (withQueue [sent (.startNotice 0) 0] (withFan 0 { Fan.stopped with state := .waitPermit } live))
    (fun t => ((t.comms.fanAt 0).state, (t.comms.fanAt 0).duty, t.comms.notices)) =
    some (.spinup, 140, [⟨5, 0, 1000, 6, 6000⟩]) := by decide +kernel

/-- A second late collision within the record's time makes the link SILENT (R79, R81). -/
theorem test_second_late_collision : after .lateCollision
    (onLink (fun l => { l with lateRecord := some 7 }) (withQueue [sent .report 0] live))
    (fun t => (t.comms.link.state, t.comms.link.queue)) = some (.silent, []) := by decide +kernel

/-- At 60 s of age the record still silences the link; 1 ms later it has lapsed, and the link stays ACTIVE (R79). -/
theorem test_late_record_age :
    ([60007, 60008].map fun n => after .lateCollision
      { onLink (fun l => { l with lateRecord := some 7 }) (withQueue [sent .report 0] live) with now := n }
      (fun t => t.comms.link.state)) = [some .silent, some .active] := by decide +kernel

/-- The lapse empties the record at an age of more than 60 s alone (R79). -/
theorem test_late_record_lapse :
    ([60007, 60008].map fun n => after .lateCollisionRecordLapse
      { onLink (fun l => { l with lateRecord := some 7 }) live with now := n }
      (fun t => t.comms.link.lateRecord)) = [some (some 7), some none] := by decide +kernel

/-- FS 480 at air weight 4 is an assist of 240; the offer of 80 at cost 32 is a candidate of 70 at one hop (R29,
R132). -/
theorem test_report_taken : after (.zoneReportTaken 14 reportBytes) live
    (fun t => (t.fume.terms.get 0, t.fume.es, (t.guide.candidates.get 1).map fun o => (o.value, o.hops, o.nextHop))) =
    some (some 240, 240, some (70, 1, some 14)) := by decide +kernel

/-- A window of 40 s is held to 30, one of 1 s to 2 (R95). -/
theorem test_notice_windows :
    ([40, 1].map fun w => after (.startNoticeTaken 9 2 w) live (fun t => t.comms.notices)) =
    [some [⟨9, 2, 1000, 30, 30000⟩], some [⟨9, 2, 1000, 2, 2000⟩]] := by decide +kernel

/-- A vehicle passed on INTO the zone holds the nearest free bay (R119, R122). -/
theorem test_transit_into : after (.transitNoticeTaken 14 5 1 2) live
    (fun t => (t.tracker.list, t.bayState 7)) =
    some ([⟨1000, .transit 14, 181000, some 7⟩], .held) := by decide +kernel

/-- The third agreeing reading of a FREE bay is confirmed and a movement; from UNKNOWN it is none (R104). -/
theorem test_confirmed_readings :
    after (.bayPollAnswer 7 .occupied) (withBay 7 ⟨.free, some .occupied, 2, 0, .green, .green⟩ live)
      (fun t => (t.bayState 7, t.fume.movement.get 5)) = some (.occupied, 1) ∧
    after (.bayPollAnswer 9 .vacant) (withBay 9 ⟨.unknown, some .vacant, 2, 0, .dark, .dark⟩ live)
      (fun t => (t.bayState 9, t.fume.movement.get 5)) = some (.free, 0) := by decide +kernel

/-- The fifth poll in a row without an answer is a fault (R105). -/
theorem test_fifth_silence :
    ([3, 4].map fun n => after (.bayNoAnswer 7) (withBay 7 ⟨.free, none, 0, n, .green, .green⟩ live)
      (fun t => t.bayState 7)) = [some .free, some .fault] := by decide +kernel

/-- The scan polls bays 7 and 9, in index order (R102). -/
theorem test_scan_polls : after .scanTimerExpiry live (fun t => t.scanner.polls) = some [7, 9] := by decide +kernel

/-- The tail of an inward passage: an arrival from the port, a movement, and a notice OUT OF to the neighbour (R111,
R114). -/
theorem test_passage_in : after (.loopChange 1 .b false)
    (withLane 1 ⟨⟨false, true⟩, .tailA, .running 4, false, .stopped, .running 7⟩ live)
    (fun t => ((t.laneAt 1).state, t.tracker.list.map (·.source), t.fume.movement.get 5,
      decide (.transit 14 .outOf 1 ∈ t.comms.link.queue.map (·.payload)))) =
    some (.clear, [.port 1], 1, true) := by decide +kernel

/-- One lane with a queue: Q is 1 and ES is 16 / 4 (R31, R32, R113). -/
theorem test_lane_queue : after (.lanePresenceTimerExpiry 2)
    (withLane 2 ⟨⟨true, false⟩, .firstA, .running 0, false, .running 7, .stopped⟩ live)
    (fun t => ((t.laneAt 2).queue, t.fume.q, t.fume.es)) = some (true, 1, 4) := by decide +kernel

/-- The expiry of an arrival frees the bay it held (R125). -/
theorem test_arrival_expiry : after .arrivalExpiry
    (withList [⟨1, .port 0, 1000, some 7⟩] (withBay 7 ⟨.held, none, 0, 0, .flashing, .green⟩ live))
    (fun t => (t.tracker.list, t.bayState 7, t.tracker.counters.lost)) = some ([], .free, 1) := by decide +kernel

/-- Ramp steps with a fade time of 4 s: up by 21, down by 2, and no further than the target (R149). -/
theorem test_ramp :
    ([(0, 1023), (100, 0), (1010, 1023), (1, 0)].map fun x => after .rampTick
      { live with lamps := { live.lamps with channels := Tbl.const 8 { Channel.reset x.2 with level := x.1 } } }
      (fun t => (t.lamps.channels.get 3).level)) = [some 21, some 98, some 1023, some 0] := by decide +kernel

/-- Channel 4 at 512 counts is centred on 511 and starts at 255; channel 0 at 100 starts at 973 (R150). -/
theorem test_pwm_windows : after .pwmPeriodStart
    { live with lamps := { live.lamps with
        channels := (Tbl.const 8 { Channel.reset 0 with level := 512 }).set 0 { Channel.reset 0 with level := 100 } } }
    (fun t => ((t.lamps.channels.get 4).window, (t.lamps.channels.get 0).window)) =
    some (⟨255, 512⟩, ⟨973, 100⟩) := by decide +kernel

/-- PURGE: stage 4, the signs CLOSED (R37, R138, R160). -/
theorem test_purge : after .purgeAssertionTaken live
    (fun t => (t.zone.state, t.comms.fan.stage, (t.guide.signs.get 1).legend)) = some (.purge, 4, .closed) := by
  decide +kernel

/-- The alarm hold ends the ALARM below A_off, and starts again at A_off (R160). -/
theorem test_alarm_hold :
    ([199, 200].map fun fs => after .alarmHoldTimerExpiry
      (inZone { ZoneCtl.reset with state := .alarm, hold := .running 0, fsLast := fs }
        (onFanCtl (fun f => { f with stage := 4 }) live))
      (fun t => (t.zone.state, t.zone.hold))) = [some (.normal, .stopped), some (.alarm, .running 60000)] := by
  decide +kernel

/-- A locked fan is off, and the lock write carries its lock byte and a check (R54, R168, R181). -/
theorem test_lock_fan : after (.lockFan 1) live
    (fun t => ((t.comms.fanAt 1).state, t.store.status)) =
    some (.locked, .lockWrite ⟨[0x5A, 0xA5, 0x5A, 0x5A, crc8 [0x5A, 0xA5, 0x5A, 0x5A]], rfl⟩) := by decide +kernel

/-- A boost of stage 2 for 10 minutes raises the stage at once (R38, R56). -/
theorem test_boost : after (.boostStage 2 10) live (fun t => (t.comms.fan.boost, t.comms.fan.stage)) =
    some (some ⟨2, 600000⟩, 2) := by decide +kernel

/-- A lock write that reads back differently is a write error (R168). -/
theorem test_lock_write_misread :
    let r := lockRecordOf fun _ => false
    after (.lockWriteEnd (r.set 0 0)) { live with store := { live.store with status := .lockWrite r } }
      (fun t => (t.store.writeError, t.store.status)) = some (true, .ready) := by decide +kernel

/-- An offset of 508 is none; the version stands at offset 4, in the first eight bytes (R170, R181). -/
theorem test_config_read :
    after (.configRead 127) State.reset (fun t => t.comms.service.current.map (·.reply.result)) = some (some .badIndex) ∧
    after (.configWrite 126 (Tbl.const 8 7)) State.reset
      (fun t => (t.store.staging.get 511, t.store.staging.get 504, t.store.staging.get 503)) = some (7, 7, 0) := by
  decide +kernel

/-- A staging buffer of zeros has no marker: BAD_CONFIG, offset 0 (R171). -/
theorem test_commit_of_zeros : after .configCommit State.reset
    (fun t => t.comms.service.current.map (fun c => (c.reply.result, c.reply.data))) =
    some (some (.badConfig, [0, 0])) := by decide +kernel

/-- Fan 3 is absent, so a lock byte of 7 there neither makes the record bad nor hides that fan 1 is locked; the same byte of
fan 0, which is present, makes it bad (R167). -/
theorem test_absent_lock_byte :
    (let bs : List Byte := [0x5A, 0xA5, 0x5A, 7];
      lockRecordBad cfg.fans ⟨bs ++ [crc8 bs], rfl⟩ = false ∧ lockRead cfg.fans ⟨bs ++ [crc8 bs], rfl⟩ 1 = true) ∧
    (let bs : List Byte := [7, 0xA5, 0x5A, 0x5A];
      lockRecordBad cfg.fans ⟨bs ++ [crc8 bs], rfl⟩ = true ∧ lockRead cfg.fans ⟨bs ++ [crc8 bs], rfl⟩ 1 = false) := by
  decide +kernel

/-- In COMMISSION the second sign's record counts too, and COUNTER QUERY reads 0 of it (R139, R142, R177). -/
theorem test_sign_records_in_commission :
    after .signRecordEnd State.reset (fun t => t.guide.counters.signRecords) = some 2 ∧
    after (.counterQuery 7 0) State.reset (fun t => t.comms.service.current.map (·.reply.data)) =
      some (some (List.replicate 12 0)) := by decide +kernel

/-- A fan request in COMMISSION is answered WRONG_MODE (R176). -/
theorem test_lock_in_commission : after (.lockFan 0) State.reset
    (fun t => t.comms.service.current.map (·.reply.result)) = some (some .wrongMode) := by decide +kernel

/-! ## What the statements assume is met somewhere

Each theorem below shows, for one statement, a station and operands that meet what it assumes, clause by clause, at the
ends of the ranges its clauses name. -/

/-- Pins with the strap at a level and the PURGE input at a level. -/
def pins (strap purge : Bool) : Pins := ⟨strap, purge, Tbl.const 4 ⟨false, false⟩⟩

/-- The small station with its image in the store. -/
def stored : State := { live with store := { live.store with stored := goodImage, loaded := goodImage } }

theorem storedValid_of_good {x : Store} (hs : x.stored = goodImage) (hb : x.storedBad = false)
    (hc : x.status ≠ .commitWrite) : x.storedValid = true := by
  simp [Store.storedValid, hs, hb, hc, test_image_valid]

theorem test_witness_StepRunsTheFrontCommand :
    ({ live with pending := [.rampTick, .busFree] } : State).pending = .rampTick :: [.busFree] := by decide +kernel

theorem test_witness_IdleStepOnlyLetsTimePass : live.pending = [] := by decide +kernel

theorem test_witness_NothingThatCouldMoveIsLeftWaiting : ∃ t, exec .busFree live = .next t := ⟨_, rfl⟩

theorem test_witness_PowerOnResetIntoCommission :
    (pins true false).strapLow = true ∧ State.reset.store.storedValid = false := by decide +kernel

/-- A stored image in force makes the station's image valid, whatever else can be read off by computation holds of it.
-/
theorem witness_with_valid {x : Store} {p : Prop} (h : p) (hs : x.stored = goodImage) (hb : x.storedBad = false)
    (hc : x.status ≠ .commitWrite) : p ∧ x.storedValid = true := ⟨h, storedValid_of_good hs hb hc⟩

theorem test_witness_PowerOnResetIntoOperating :
    let s := { stored with store := { stored.store with lockRecord := lockRecordOf fun i => decide (i = 1) } };
    ((∀ purge, (pins false purge).strapLow = false ∧ (pins false purge).purge = purge) ∧
      0 < (settingsOf s.store.stored).alarmOn ∧ (settingsOf s.store.stored).failSafe ≤ 4 ∧
      s.store.status = .ready ∧ ((settingsOf s.store.stored).fans.get 1).present = true ∧
      lockRead (settingsOf s.store.stored).fans s.store.lockRecord 1 = true ∧ (settingsOf s.store.stored).fitted .co = true) ∧
    s.store.storedValid = true :=
  witness_with_valid (by decide +kernel) rfl rfl (by decide)

/-- The small station once RESTART has been answered, a head in DRIFT and a fan in FAULT. -/
def restarting : State :=
  withHead 2 { activeHead with state := .drift, latest := none }
    (withFan 1 { Fan.stopped with state := .fault, cause := some .stall }
      { stored with comms := { stored.comms with service := ⟨[], none, true⟩ } })

/-- The station in COMMISSION once RESTART has been answered there, with an image in the store. -/
def restartingCommission : State :=
  { State.reset with
    comms := { State.reset.comms with service := ⟨[], none, true⟩ }
    store := { State.reset.store with stored := goodImage, storedBad := false } }

theorem test_witness_RestartKeepsLatchedFaultsAndTheLead :
    ((∀ s ∈ [restarting, restartingCommission], s.atRest = true ∧ s.restartDue = true) ∧
      restarting.operating = true ∧ restartingCommission.operating = false ∧
      (pins true false).strapLow = true ∧ (pins false false).strapLow = false ∧
      (let cfg := settingsOf restarting.store.stored;
        (restarting.gas.heads.get 2).faulted = true ∧ (restarting.gas.heads.get 0).faulted = false ∧
          (cfg.heads.get 2).present = true ∧ (cfg.heads.get 0).present = true ∧ (cfg.fans.get 1).present = true) ∧
      (restarting.comms.fanAt 1).state = .fault ∧ lockRead (settingsOf restarting.store.stored).fans restarting.store.lockRecord 1 = false ∧
      live.atRest = true ∧ live.restartDue = false) ∧
    restarting.store.storedValid = true ∧ restartingCommission.store.storedValid = true :=
  ⟨by decide +kernel, storedValid_of_good rfl rfl (by decide), storedValid_of_good rfl rfl (by decide)⟩

/-! ### Gas heads -/

theorem test_witness_WarmUpEndsInService :
    let s := withHead 0 ⟨.warming, none, 400, 0, .running 0, .stopped, .stopped⟩ live;
    s.atRest = true ∧ (s.gas.heads.get 0).state = .warming ∧ (s.gas.heads.get 0).warmUp.isRunning = true ∧
      (s.gas.heads.get 0).latest = none := by decide +kernel

theorem test_witness_ValueAtSamplePeriodIsAskedFor :
    live.atRest = true ∧ (live.gas.heads.get 0).state = .active ∧ (live.gas.heads.get 0).latest = some ⟨535, 100⟩ := by
  decide +kernel

theorem test_witness_UrgentRequestBreaksAProtectedZeroConversion :
    ∀ guarded, let s := withConverter (.zero 1 guarded 5) (withHead 1 restingHead live);
    s.atRest = true ∧ (s.gas.heads.get 0).state = .active ∧ (s.gas.heads.get 0).latest = some ⟨535, 100⟩ ∧
      s.gas.converter = .zero 1 guarded 5 := by decide +kernel

theorem test_witness_SampleGivesAConcentration :
    (∀ n ∈ [0, 1], let s := withConverter (.sample 0 0) (withHead 0 { activeHead with backlog := n } live);
      s.atRest = true ∧ s.gas.converter = .sample 0 0 ∧ s.dueForRest 0 0 = decide (n = 1)) ∧
    ∀ code ∈ [(9 : BitVec 12), 4086], 8 < code.toNat ∧ code.toNat < 4087 := by decide +kernel

theorem test_witness_RailCodeOpensTheHead :
    (∀ x ∈ [activeHead, restingHead], (withConverter (.sample 0 0) (withHead 1 x live)).atRest = true ∧
      (withConverter (.sample 0 0) (withHead 1 x live)).gas.converter = .sample 0 0) ∧
    ∀ code ∈ [(8 : BitVec 12), 4087], code.toNat ≤ 8 ∨ 4087 ≤ code.toNat := by decide +kernel

theorem test_witness_ZeroCheckStepsTheZeroOrFindsDrift :
    let s := withConverter (.zero 1 false 0) (withHead 1 restingHead live);
    s.atRest = true ∧ s.gas.converter = .zero 1 false 0 ∧
      (∀ code ∈ [(8 : BitVec 12), 4087], code.toNat ≤ 8 ∨ 4087 ≤ code.toNat) ∧
      (∀ code ∈ [(320 : BitVec 12), 480], 8 < code.toNat ∧ code.toNat < 4087 ∧
        ((code.toNat : Int) - (s.settings.heads.get 1).zc).natAbs ≤ (s.settings.heads.get 1).drift) ∧
      ∀ code ∈ [(9 : BitVec 12), 319, 481, 4086], 8 < code.toNat ∧ code.toNat < 4087 ∧
        (s.settings.heads.get 1).drift < ((code.toNat : Int) - (s.settings.heads.get 1).zc).natAbs := by decide +kernel

theorem test_witness_ZeroCheckGoesOnThroughItsTimers :
    (let s := withConverter (.zero 1 true 5) (withHead 1 restingHead live);
      s.atRest = true ∧ s.gas.converter = .zero 1 true 5) ∧
    (let s := withHead 1 restingHead live;
      s.atRest = true ∧ (s.gas.heads.get 1).state = .zeroing ∧ (s.gas.heads.get 1).settle.isRunning = true) := by
  decide +kernel

theorem test_witness_ZeroIntervalRaisesTheBacklog :
    ∀ x ∈ [activeHead, restingHead, { activeHead with state := .drift }], (withHead 1 x live).atRest = true ∧
      ((withHead 1 x live).gas.heads.get 1).zeroInterval.isRunning = true := by decide +kernel

theorem test_witness_ArbiterServesTheHighestLevel :
    (live.gas.converter = .idle ∧ (live.gas.arbitrate cfg).converter = .idle) ∧
    (∀ c ∈ [Converter.sample 2 0, .zero 1 false 5], c ≠ .idle ∧ ∀ h, c.zeroes h = true → c = .zero 1 false 5) ∧
    (let g := (withHead 3 { activeHead with latest := none } live).gas;
      g.converter = .idle ∧ (g.arbitrate cfg).converter = .sample 3 40) ∧
    (let g := (withHead 1 { restingHead with settle := .expired } live).gas;
      g.converter = .idle ∧ (g.arbitrate cfg).converter = .zero 1 true 40) := by decide +kernel

theorem test_witness_RestingHeadsStayCovered :
    let s := { withHead 1 restingHead live with pending := [.headValueAges2Ts 0] };
    let alone := { s with
      settings := { cfg with heads := cfg.heads.set 0 ⟨false, 0, 0, 0⟩ }
      gas := { s.gas with heads := s.gas.heads.set 0 Head.absent }
      fume := { s.fume with fs := 127 } };
    (∀ x ∈ [s, alone], x.headsSound ∧ (x.gas.heads.get 1).state = .zeroing) ∧
      ∃ t u, step s = .next t ∧ step alone = .next u :=
  ⟨by unfold State.headsSound; decide +kernel, _, _, rfl, rfl⟩

/-! ### Fume computation -/

theorem test_witness_GasUpdateFiltersEveryFittedGas :
    live.comms.service.queue = [] ∧ live.fume.update.isRunning = true ∧ live.settings.fitted .co = true ∧
      live.combined .co = some 535 ∧
      (let s := withHead 0 { activeHead with latest := some ⟨535, 2000⟩ } (withHead 1 { activeHead with latest := none } live);
        s.settings.fitted .co = true ∧ s.combined .co = none) ∧
      ({ cfg with heads := cfg.heads.set 0 ⟨false, 0, 0, 0⟩ |>.set 1 ⟨false, 0, 0, 0⟩ } : Settings).fitted .co = false := by
  decide +kernel

/-- CO accumulators that give an FS of A_on, of one less, of D_on, of one less, of D_off and of one less: a zone that is
neither in ALARM nor in PURGE meets the clauses above and below each threshold, and so does one in ALARM. -/
theorem test_witness_GasUpdateAtTheThresholds :
    ([9953, 9952, 3286, 3285, 2620, 2618].map fun acc => after .gasUpdateTimerExpiry
      { live with fume := { live.fume with gases := ⟨{ GasFume.reset with acc := acc, valid := true }, GasFume.reset⟩ } }
      (fun t => t.fume.fs)) = [some 512, some 511, some 192, some 191, some 160, some 159] ∧
    live.grave = false ∧ live.zone.purgeIn = false ∧ live.zone.fsLast < live.settings.alarmOn ∧
    (let s := inZone { ZoneCtl.reset with state := .alarm, hold := .running 0, fsLast := 512 } live;
      s.zone.state = .alarm ∧ s.zone.purgeIn = false) := by decide +kernel

theorem test_witness_MinuteBoundaryClosesABinOfEveryFittedGas :
    live.comms.service.queue = [] ∧ live.fume.minute.isRunning = true ∧ live.settings.fitted .no2 = true ∧
      after .minuteBoundary { live with fume := { live.fume with
          gases := ⟨{ GasFume.reset with ring := Tbl.const 15 (some 500), sum := 30000, count := 60 }, GasFume.reset⟩ } }
        (fun t => (t.fume.gases.co.exposure, t.fume.gases.co.exposureScore)) = some (some 500, 256) := by decide +kernel

theorem test_witness_MovementRollForgetsTheOldestBin :
    live.quiet = true ∧ live.vented = true ∧ live.fume.roll.isRunning = true ∧
      after .movementRoll { live with fume := { live.fume with fs := 64 } }
        (fun t => (stageAfter t.env live.comms.fan, t.comms.fan.stage)) = some (1, 1) := by decide +kernel

theorem test_witness_ScoresStayInRangeAndInStep :
    let s := { live with pending := [.movementRoll], fume := { live.fume with movement := Tbl.const 6 4, es := 18 } };
    s.scoresSound ∧ s.effectiveSound ∧ ∃ t, step s = .next t :=
  ⟨⟨fun g => by cases g <;> decide +kernel, by decide +kernel⟩,
    by unfold State.effectiveSound; decide +kernel, _, rfl⟩

/-! ### Fans -/

theorem test_witness_TachometerGivesATurningFanItsSpeed :
    live.atRest = true ∧ (live.comms.fanAt 0).driveOn = false ∧
      (let s := withFan 0 (turning .spinup 0 .stopped (.running 5) .stopped) live;
        s.atRest = true ∧ (s.comms.fanAt 0).driveOn = true) := by decide +kernel

/-- The small station with an ES that demands stage 1, and fans 1 and 2 locked. -/
def lastFan : State :=
  withFan 1 { Fan.stopped with state := .locked } (withFan 2 { Fan.stopped with state := .locked }
    { live with fume := { live.fume with es := 64 } })

theorem test_witness_SpinUpCheckStartsOrFaultsTheFan :
    (∀ speed ∈ [397, 398], ∀ hold ∈ [Timer.stopped, .running 5],
      let s := withFan 0 (turning .spinup speed hold (.running 0) .stopped) live;
      s.quiet = true ∧ s.comms.fan.noVent = false ∧ (s.comms.fanAt 0).state = .spinup ∧
        (s.comms.fanAt 0).spinUp.isRunning = true ∧ (s.comms.fanAt 0).hold.isRunning = decide (hold = .running 5) ∧
        s.comms.fan.incoming ≠ some 0 ∧ available s.settings s.comms.fan 1 = true ∧
        (if speed = 398
          then (s.settings.fans.get 0).rated * (s.comms.fanAt 0).duty / 510 ≤ (s.comms.fanAt 0).speed.getD 0
          else (s.comms.fanAt 0).speed.getD 0 < (s.settings.fans.get 0).rated * (s.comms.fanAt 0).duty / 510)) ∧
    (let s := onFanCtl (fun f => { f with lead := [1, 2, 0], incoming := some 1 })
        (withFan 1 (turning .spinup 398 .stopped (.running 0) .stopped)
          (withFan 0 { turning .running 1500 .stopped .stopped (.running 5) with handover := true } live));
      s.quiet = true ∧ s.comms.fan.noVent = false ∧ (s.comms.fanAt 1).state = .spinup ∧
        (s.comms.fanAt 1).spinUp.isRunning = true ∧ (s.comms.fanAt 1).hold.isRunning = false ∧
        (s.settings.fans.get 1).rated * (s.comms.fanAt 1).duty / 510 ≤ (s.comms.fanAt 1).speed.getD 0 ∧
        s.comms.fan.incoming = some 1 ∧ 1 ∈ wantedSet s.settings s.comms.fan ∧ s.vented = true ∧
        0 ∉ wantedSet s.settings s.comms.fan) ∧
    (∀ purge,
      let s := inZone { ZoneCtl.reset with state := if purge then .purge else .normal, purgeIn := purge }
        (onFanCtl (fun f => { f with stage := if purge then 4 else 1 })
          (withFan 0 (turning .spinup 0 .stopped (.running 0) .stopped) lastFan));
      s.quiet = true ∧ s.operating = true ∧ s.comms.fan.noVent = false ∧ (s.comms.fanAt 0).state = .spinup ∧
        (s.comms.fanAt 0).spinUp.isRunning = true ∧ (s.comms.fanAt 0).hold.isRunning = false ∧
        (s.comms.fanAt 0).speed.getD 0 < (s.settings.fans.get 0).rated * (s.comms.fanAt 0).duty / 510 ∧
        (∀ j, j ≠ 0 → available s.settings s.comms.fan j = false) ∧ 1 ≤ s.comms.fan.stage ∧
        demand s.env s.comms.fan = s.comms.fan.stage ∧ s.grave = purge ∧ s.zone.purgeIn = purge ∧
        s.zone.purgeIn = decide (s.zone.state = .purge) ∧ s.zone.fsLast < s.settings.alarmOn) := by decide +kernel

theorem test_witness_RunningChecksFindAStall :
    (let s := withFan 0 (turning .running 397 (.running 5) .stopped .stopped) live;
      s.quiet = true ∧ s.comms.fan.noVent = false ∧ (s.comms.fanAt 0).state = .running ∧
        (s.comms.fanAt 0).hold.isRunning = true) ∧
    (let s := withFan 0 (turning .spinup 398 (.running 5) .expired .stopped) live;
      s.quiet = true ∧ s.comms.fan.noVent = false ∧ (s.comms.fanAt 0).state = .spinup ∧
        (s.comms.fanAt 0).hold.isRunning = true ∧ (s.comms.fanAt 0).spinUp = .expired ∧
        s.comms.fan.incoming ≠ some 0 ∧
        (s.settings.fans.get 0).rated * (s.comms.fanAt 0).duty / 510 ≤ (s.comms.fanAt 0).speed.getD 0) ∧
    (∀ speed ∈ [397, 398], ∀ failing ∈ [1, 2],
      let s := withFan 0 { turning .running speed .stopped .stopped (.running 0) with failing := failing } live;
      s.quiet = true ∧ s.comms.fan.noVent = false ∧ (s.comms.fanAt 0).state = .running ∧
        (s.comms.fanAt 0).hold.isRunning = false ∧ (s.comms.fanAt 0).check.isRunning = true ∧
        (if speed = 398
          then (s.settings.fans.get 0).rated * (s.comms.fanAt 0).duty / 510 ≤ (s.comms.fanAt 0).speed.getD 0
          else (s.comms.fanAt 0).speed.getD 0 < (s.settings.fans.get 0).rated * (s.comms.fanAt 0).duty / 510) ∧
        (if failing = 1 then (s.comms.fanAt 0).failing < 2 else 2 ≤ (s.comms.fanAt 0).failing) ∧
        available s.settings s.comms.fan 1 = true) := by decide +kernel

theorem test_witness_DwellAndBoostEndsLowerTheStageOneStep :
    (live.quiet = true ∧ live.vented = true ∧ live.operating = true ∧
      demand live.env live.comms.fan ≤ live.comms.fan.stage ∧ live.comms.fan.dwell.isRunning = true ∧
      demand live.env live.comms.fan < live.comms.fan.stage ∧ live.grave = false) ∧
    (let s := onFanCtl (fun f => { f with stage := 0 }) live;
      s.quiet = true ∧ s.vented = true ∧ s.operating = true ∧ demand s.env s.comms.fan ≤ s.comms.fan.stage ∧
        s.comms.fan.dwell.isRunning = true ∧ demand s.env s.comms.fan = s.comms.fan.stage) ∧
    (let s := inZone { ZoneCtl.reset with state := .purge } (onFanCtl (fun f => { f with stage := 4 }) live);
      s.quiet = true ∧ s.vented = true ∧ s.operating = true ∧ demand s.env s.comms.fan ≤ s.comms.fan.stage ∧
        s.comms.fan.dwell.isRunning = true ∧ s.grave = true) ∧
    (let s := onFanCtl (fun f => { f with stage := 3, dwell := .expired, boost := some ⟨3, 0⟩ }) live;
      s.quiet = true ∧ s.vented = true ∧ s.operating = true ∧ demand s.env s.comms.fan ≤ s.comms.fan.stage ∧
        s.comms.fan.boost.isSome = true ∧
        demand s.env { s.comms.fan with boost := none } < s.comms.fan.stage ∧ s.grave = false) := by decide +kernel

theorem test_witness_LocalSpacingStartsOneFanAtATime :
    let wait := withFan 1 { Fan.stopped with state := .waitPermit } (onFanCtl (fun f => { f with spacing := .running 0 }) live);
    (∀ l ∈ [LinkState.isolated, .silent], let s := onLink (fun x => { x with state := l }) wait;
      s.quiet = true ∧ s.comms.fan.spacing.isRunning = true ∧ s.comms.fan.release = none ∧
        (s.comms.link.state = .isolated ∨ s.comms.link.state = .silent) ∧ s.comms.fan.firstWaiting = some 1) ∧
    (let s := onFanCtl (fun f => { f with release := some 1 }) (withQueue (List.replicate 7 (waiting (.transit 9 .into 0))) wait);
      s.quiet = true ∧ s.comms.fan.spacing.isRunning = true ∧ s.comms.fan.release = some 1 ∧
        (s.comms.fanAt 1).state = .waitPermit ∧ s.comms.link.queue.length < 8) ∧
    (wait.quiet = true ∧ wait.comms.fan.spacing.isRunning = true ∧ wait.comms.fan.release = none ∧
      wait.comms.link.state ≠ .isolated ∧ wait.comms.link.state ≠ .silent) := by decide +kernel

theorem test_witness_RotationPutsTheFirstFanLastUnderHandover :
    (let s := withFan 0 (turning .running 1500 .stopped .stopped (.running 5)) live;
      s.quiet = true ∧ s.vented = true ∧ 1 ≤ s.comms.fan.stage ∧ s.comms.fan.incoming = none ∧
        available s.settings s.comms.fan 1 = true ∧ 1 ∉ wantedSet s.settings s.comms.fan ∧
        (s.comms.fanAt 0).driveOn = true ∧ 0 ∈ wantedSet s.settings s.comms.fan ∧
        0 ∉ wantedSet s.settings { s.comms.fan with lead := [1, 2, 0] }) ∧
    (let s := onFanCtl (fun f => { f with incoming := some 1 }) live;
      s.quiet = true ∧ s.vented = true ∧ 1 ≤ s.comms.fan.stage ∧ s.comms.fan.incoming ≠ none) ∧
    (let s := onFanCtl (fun f => { f with stage := 3 }) live;
      s.quiet = true ∧ s.vented = true ∧ 1 ≤ s.comms.fan.stage ∧
        ∀ i, available s.settings s.comms.fan i = true → i ∈ wantedSet s.settings s.comms.fan) := by decide +kernel

theorem test_witness_ScoreDemandFollowsTheThresholds :
    thresholdsOrdered cfg ∧ cfg.entry.get 0 ≤ 64 ∧ 39 < cfg.exit.get 0 ∧ cfg.exit.get 0 ≤ 40 ∧
      (∀ k : Fin 3, k.val = 0 + 1 → 40 < cfg.entry.get k) ∧ 63 < cfg.entry.get 0 ∧
      [scoreDemand cfg 64 0, scoreDemand cfg 200 0, scoreDemand cfg 39 1, scoreDemand cfg 40 1, scoreDemand cfg 63 0,
        scoreDemand cfg 0 4] = [1, 3, 0, 1, 0, 3] := by
  unfold thresholdsOrdered
  decide +kernel

theorem test_witness_StageMeetsTheDemandAndDutiesFollow :
    let s := { withFan 0 (turning .running 1500 .stopped .stopped (.running 5)) live with pending := [.dwellTimerExpiry] };
    s.dutiesSound ∧ s.stageSound ∧ s.operating = true ∧ thresholdsOrdered s.settings ∧ ∃ t, step s = .next t :=
  ⟨by unfold State.dutiesSound; decide +kernel,
    fun _ _ => ⟨by decide +kernel, fun _ => ⟨fun g => by cases g <;> decide +kernel, nofun, by decide +kernel⟩⟩,
    by decide +kernel,
    by unfold thresholdsOrdered; decide +kernel, _, rfl⟩

/-! ### This station's frames -/

theorem test_witness_FreeBusStartsTheFirstFrame :
    (∀ f ∈ [waiting .report, waiting (.startNotice 0), waiting (.transit 14 .into 2)],
      let s := withNotices [⟨9, 2, 1, 6, 5⟩] (withQueue [f] live);
      s.ventTold = true ∧ s.comms.service.queue = [] ∧ s.comms.link.flight = none ∧
        s.comms.link.maySend s.operating = true ∧ s.comms.link.queue = f :: [] ∧
        (f.payload.isStartNotice = true → s.comms.notices.length < s.settings.allowance)) ∧
    (let s := withNotices [⟨9, 2, 1, 6, 5⟩, ⟨8, 2, 1, 6, 5⟩] (withQueue [waiting (.startNotice 0), waiting .report] live);
      s.ventTold = true ∧ s.comms.service.queue = [] ∧ s.comms.link.flight = none ∧
        s.comms.link.maySend s.operating = true ∧ s.comms.link.queue = waiting (.startNotice 0) :: waiting .report :: [] ∧
        s.settings.allowance ≤ s.comms.notices.length) ∧
    (let s := withNotices [⟨9, 2, 1, 6, 5⟩, ⟨8, 2, 1, 6, 5⟩] (withQueue [waiting (.startNotice 0)] live);
      s.ventTold = true ∧ s.comms.service.queue = [] ∧ s.comms.link.flight = none ∧
        s.comms.link.maySend s.operating = true ∧ s.comms.link.queue = [waiting (.startNotice 0)] ∧
        s.settings.allowance ≤ s.comms.notices.length) ∧
    (live.ventTold = true ∧ live.comms.service.queue = [] ∧ live.comms.link.flight = none ∧
      live.comms.link.maySend live.operating = true ∧ live.comms.link.queue = []) := by decide +kernel

theorem test_witness_FailedAttemptsKeepTheFrameInItsPlace :
    ∀ f ∈ [sent .report 1, sent (.startNotice 0) 1, sent (.transit 14 .into 2) 2],
      (withQueue [f, waiting .report] live).atRest = true ∧
      (withQueue [f, waiting .report] live).comms.link.flight = some f ∧
      (f.payload ≠ .transit 14 .into 2 → f.attempt < 2) := by decide +kernel

theorem test_witness_ThirdFailureDropsTheFrame :
    ∀ p ∈ [Payload.report, .startNotice 0, .transit 14 .into 2, .reply ⟨1, .done, []⟩],
      let s := onLink (fun l => { l with unheardDrops := 2 })
        (withQueue (sent p 2 :: List.replicate 7 (waiting (.transit 9 .into 0))) live);
      s.quiet = true ∧ s.comms.link.flight = some (sent p 2) ∧ 2 ≤ (sent p 2).attempt ∧
        s.comms.link.queue.length = 8 ∧ s.comms.link.state = .active ∧ (sent p 2).unheard = true := by decide +kernel

/-- The same of a further expiry on a line still stuck, for a first frame at its last attempt. -/
theorem test_witness_StuckLineDropsTheFrame :
    ∀ p ∈ [Payload.report, .startNotice 0, .transit 14 .into 2, .reply ⟨1, .done, []⟩],
      let s := onLink (fun l => { l with stuckSpell := true, unheardDrops := 2 })
        (withNotices [⟨9, 2, 1, 6, 5⟩] (withQueue (⟨p, 2, true, 3, 0, false⟩ :: List.replicate 7 (waiting .report)) live));
      s.quiet = true ∧ s.comms.link.state ≠ .silent ∧ s.comms.link.flight = none ∧ s.comms.link.stuckSpell = true ∧
        s.comms.link.maySend s.operating = true ∧ s.comms.link.queue.head? = some ⟨p, 2, true, 3, 0, false⟩ ∧
        s.comms.notices.length < s.settings.allowance ∧ s.comms.link.queue.length = 8 := by decide +kernel

theorem test_witness_DeliveredFrameIsHandedBack :
    (∀ p ∈ [Payload.report, .startNotice 0, .transit 14 .into 2, .reply ⟨1, .done, []⟩],
      let s := withQueue (sent p 2 :: List.replicate 6 (waiting (.transit 9 .into 0))) live;
      s.quiet = true ∧ s.comms.link.flight = some (sent p 2) ∧ s.comms.link.queue.length = 7) ∧
    (let s := withFan 0 { Fan.stopped with state := .waitPermit } (withQueue [sent (.startNotice 0) 0] live);
      s.quiet = true ∧ s.comms.link.flight = some (sent (.startNotice 0) 0) ∧ (s.comms.fanAt 0).state = .waitPermit) := by
  decide +kernel

theorem test_witness_SecondLateCollisionSilencesTheLink :
    ∀ r ∈ [(none, 1000), (some 7, 60008), (some 7, 60007), (some 7, 7)],
      let s := { onLink (fun l => { l with lateRecord := r.1 })
        (withQueue [sent (.reply ⟨1, .done, []⟩) 1, waiting .report] live) with now := r.2 };
      s.quiet = true ∧ s.operating = true ∧ s.comms.link.flight = some (sent (.reply ⟨1, .done, []⟩) 1) ∧
        (sent (.reply ⟨1, .done, []⟩) 1).attempt < 2 ∧ s.comms.link.lateRecord = r.1 ∧ s.now = r.2 ∧
        (∃ x ∈ s.comms.link.queue, x.payload.cls s.grave = 6) := by decide +kernel

theorem test_witness_StuckLineAndStretchKeepTheBusMoving :
    (let s := onLink (fun l => { l with state := .silent }) live;
      s.atRest = true ∧ s.comms.link.state = .silent) ∧
    (live.atRest = true ∧ live.comms.link.state ≠ .silent ∧ live.comms.link.flight = none ∧
      live.comms.link.stuckSpell = false) ∧
    (let s := withQueue [sent .report 1] live;
      s.atRest = true ∧ s.comms.link.state ≠ .silent ∧ s.comms.link.flight = some (sent .report 1) ∧
        (sent .report 1).attempt < 2) ∧
    (let s := onLink (fun l => { l with stuckSpell := true }) live;
      s.atRest = true ∧ s.comms.link.state ≠ .silent ∧ s.comms.link.flight = none ∧ s.comms.link.stuckSpell = true ∧
        s.comms.link.queue = []) ∧
    (let s := onLink (fun l => { l with stuckSpell := true, state := .joining }) (withQueue [waiting .report] live);
      s.atRest = true ∧ s.comms.link.flight = none ∧ s.comms.link.maySend s.operating = false) ∧
    (∀ n ∈ [1, 2],
      let s := onLink (fun l => { l with stuckSpell := true })
        (withNotices (List.replicate n ⟨9, 2, 1, 6, 5⟩)
          (withQueue [⟨.startNotice 0, 1, true, 3, 0, false⟩, waiting .report] live));
      s.atRest = true ∧ s.comms.link.state ≠ .silent ∧ s.comms.link.flight = none ∧ s.comms.link.stuckSpell = true ∧
        s.comms.link.maySend s.operating = true ∧
        s.comms.link.queue = [⟨.startNotice 0, 1, true, 3, 0, false⟩, waiting .report] ∧
        (if n = 1 then s.comms.notices.length < s.settings.allowance
          else s.settings.allowance ≤ s.comms.notices.length)) ∧
    (let s := onLink (fun l => { l with stretch := .running 2 }) { live with comms := { live.comms with
        service := ⟨[⟨1, 0, []⟩, ⟨2, 0, [0]⟩], some ⟨⟨10, 0, []⟩, ⟨10, .done, []⟩⟩, false⟩ } };
      s.atRest = true ∧ s.comms.link.state ≠ .silent ∧ s.comms.service.queue.length = 2 ∧
        s.comms.link.stretch.isRunning = true) := by decide +kernel

theorem test_witness_ReportsAreQueuedByJoiningPeriodAndEvent :
    let fill := fun n => withQueue (List.replicate n (waiting (.transit 9 .into 0)));
    (let s := fill 5 (onLink (fun l => { l with state := .joining, join := .running 0 }) live);
      s.quiet = true ∧ s.comms.link.join.isRunning = true ∧ s.comms.link.state = .joining ∧
        s.comms.link.hasReport = false ∧ s.comms.link.queue.length ≤ 5) ∧
    (∀ l ∈ [LinkState.active, .isolated], let s := fill 7 (onLink (fun x => { x with state := l }) live);
      s.quiet = true ∧ s.comms.link.report.isRunning = true ∧ s.comms.link.state = l ∧
        s.comms.link.hasReport = false ∧ s.comms.link.queue.length < 8) ∧
    (let s := withQueue [waiting .report] (onLink (fun x => { x with spacing := .running 0, eventPending := true }) live);
      s.quiet = true ∧ s.comms.link.report.isRunning = true ∧ s.comms.link.hasReport = true ∧
        s.comms.link.reportInFlight = false ∧ s.comms.link.spacing.isRunning = true ∧
        s.comms.link.eventPending = true) ∧
    (let s := fill 8 live;
      s.quiet = true ∧ s.comms.link.report.isRunning = true ∧ s.comms.link.state = .active ∧
        s.comms.link.hasReport = false ∧ s.comms.link.queue.length = 8 ∧
        ∀ g ∈ s.comms.link.queue, g.inFlight = false → g.payload.cls s.grave ≤ if s.grave then 2 else 4) ∧
    (let s := withQueue (List.replicate 7 (waiting (.transit 9 .into 0)) ++ [waiting (.reply ⟨1, .done, []⟩)]) live;
      s.quiet = true ∧ s.comms.link.report.isRunning = true ∧ s.comms.link.state = .active ∧
        s.comms.link.hasReport = false ∧ s.comms.link.queue.length = 8 ∧
        ∃ g ∈ s.comms.link.queue, g.inFlight = false ∧ g.payload.cls s.grave = 6) ∧
    (∀ q ∈ [[], [sent .report 0], [waiting .report]], ∀ l ∈ [LinkState.off, .silent, .active],
      let s := withQueue q (onLink (fun x => { x with spacing := .running 0, state := l }) live);
      s.quiet = true ∧ s.vented = true ∧ s.operating = true ∧ s.comms.fan.dwell.isRunning = true ∧
        demand s.env s.comms.fan < s.comms.fan.stage ∧ s.grave = false ∧ s.comms.link.queue.length < 8 ∧
        s.comms.link.state = l ∧ s.comms.link.spacing.isRunning = true ∧
        s.comms.link.reportInFlight = decide (q = [sent .report 0]) ∧ s.comms.link.hasReport = decide (q ≠ [])) ∧
    (let s := withQueue [sent .report 0] live;
      s.quiet = true ∧ s.comms.link.report.isRunning = true ∧ s.comms.link.reportInFlight = true) ∧
    (∀ e, let s := fill 7 (onLink (fun l => { l with spacing := .running 0, eventPending := e }) live);
      s.quiet = true ∧ s.comms.link.spacing.isRunning = true ∧ s.comms.link.eventPending = e ∧
        s.comms.link.state = .active ∧ s.comms.link.hasReport = false ∧ s.comms.link.queue.length < 8) := by decide +kernel

/-! ### Other parties' frames -/

theorem test_witness_FramesThatPassNothingOnlyCount :
    live.atRest = true ∧ live.operating = true ∧ (5 : BitVec 6).toNat = live.settings.unit := by decide +kernel

/-- A neighbour entry FRESH with the report of the tests. -/
def freshEntry : Neighbour := ⟨some ⟨reportOf reportBytes, 900⟩, .fresh, .running 0, .running 0⟩

theorem test_witness_ZoneReportFillsTheNeighbourEntry :
    (live.quiet = true ∧ live.vented = true ∧ live.operating = true ∧ (14 : BitVec 6).toNat ≠ live.settings.unit ∧
      live.settings.placeOfUnit 14 = some 0 ∧ (reportOf reportBytes).zoneState ≤ 3 ∧
      (reportOf (reportBytes.set 0 3)).zoneState = 3 ∧ (live.peers.get 0).fresh ≠ .fresh ∧
      (live.settings.neighbours.get 0).port = some 1 ∧ live.settings.placeOfPort 1 = some 0 ∧
      (reportOf reportBytes).zoneState = 0 ∧ (reportOf reportBytes).origin ≠ live.settings.unit ∧
      (reportOf reportBytes).nextHop ≠ live.settings.unit ∧ (reportOf (reportBytes.set 10 7)).hops < 8 ∧
      ¬(reportOf (reportBytes.set 10 8)).hops < 8) ∧
    (freshEntry.fresh = .fresh ∧ freshEntry.contents.map (·.report) = some (reportOf reportBytes)) ∧
    (live.settings.placeOfUnit 9 = none ∧ 4 ≤ (reportOf (reportBytes.set 0 4)).zoneState) := by decide +kernel

theorem test_witness_SilentNeighbourTurnsStaleThenLost :
    (let s := { live with peers := live.peers.set 0 freshEntry };
      s.quiet = true ∧ s.vented = true ∧ (s.peers.get 0).fresh = .fresh ∧ (s.peers.get 0).stale.isRunning = true ∧
        (s.peers.get 0).contents = some ⟨reportOf reportBytes, 900⟩ ∧
        (s.settings.neighbours.get 0).port = some 1 ∧ s.settings.placeOfPort 1 = some 0 ∧
        after (.staleTimerExpiry 0) s (fun t => (t.guide.candidates.get 1).map (·.value)) = some (some 35)) ∧
    (let s := { live with peers := live.peers.set 0 { freshEntry with fresh := .stale, stale := .stopped } };
      s.quiet = true ∧ s.vented = true ∧ (s.peers.get 0).fresh = .stale ∧ (s.peers.get 0).lost.isRunning = true) := by
  decide +kernel

/-- A list of notices of units 20 and on, for fan 0. -/
def notices (n : Nat) : List Notice := (List.range n).map fun k => ⟨20 + k, 0, 1, 6, 5⟩

theorem test_witness_StartNoticesLiveForTheirWindow :
    (∀ n ∈ [0, 15, 16], let s := withNotices (notices n) live;
      s.quiet = true ∧ s.operating = true ∧ (62 : BitVec 6).toNat ≠ s.settings.unit ∧
        (∀ x ∈ s.comms.notices, ¬(x.unit = (62 : BitVec 6).toNat ∧ x.fan = (0 : Byte).toNat)) ∧
        s.comms.notices.length = n) ∧
    (∀ n ∈ [2, 3], let s := withFan 0 { Fan.stopped with state := .waitPermit } (withNotices (notices n)
        (withQueue (List.replicate 7 (waiting (.transit 9 .into 0))) live));
      s.quiet = true ∧ s.operating = true ∧
        (∃ x ∈ s.comms.notices, x.unit = (20 : BitVec 6).toNat ∧ x.fan = (0 : Byte).toNat) ∧
        s.comms.link.state = .active ∧ s.comms.hasNotice = false ∧ s.comms.fan.release = none ∧
        s.comms.fan.firstWaiting = some 0 ∧ s.comms.link.queue.length < 8 ∧
        after (.startNoticeEntryExpiry 20 0) s (fun t => t.comms.notices.length) = some (n - 1)) := by decide +kernel

theorem test_witness_TransitNoticeAddsOrPassesAnArrival :
    (∀ n ∈ [0, 15, 16],
      let s := withList (List.replicate n ⟨1, .port 0, 9000, none⟩)
        (withQueue (List.replicate 7 (waiting (.transit 9 .into 0))) live);
      s.quiet = true ∧ s.operating = true ∧ (14 : BitVec 6).toNat ≠ s.settings.unit ∧ s.comms.link.queue.length < 8 ∧
        (5 : Byte).toNat = s.settings.unit ∧ (6 : Byte).toNat ≠ s.settings.unit ∧ s.tracker.list.length = n ∧
        s.leadInSound) ∧
    (0 : Byte) ≠ 1 ∧ (3 : Byte) ≠ 2 := by
  unfold State.leadInSound
  decide +kernel

theorem test_witness_ServiceRequestWaitsBehindTheCurrentOne :
    ∀ n ∈ [0, 1, 2], let s := { live with comms := { live.comms with
        service := ⟨List.replicate n ⟨1, 0, []⟩, some ⟨⟨10, 0, []⟩, ⟨10, .done, []⟩⟩, false⟩ } };
      s.atRest = true ∧ s.comms.service.current.isSome = true ∧ s.operating = true ∧
        (63 : BitVec 6).toNat ≠ s.settings.unit ∧ (5 : Byte).toNat = s.settings.unit ∧
        (6 : Byte).toNat ≠ s.settings.unit ∧ s.comms.service.queue.length = n := by decide +kernel

/-- The same in COMMISSION, where the unit answered to is 0. -/
theorem test_witness_ServiceRequestWaitsInCommission :
    ∀ n ∈ [0, 1, 2],
      let s := { State.reset with comms := { State.reset.comms with
        service := ⟨List.replicate n ⟨1, 0, []⟩, some ⟨⟨10, 0, []⟩, ⟨10, .done, []⟩⟩, false⟩ } };
      s.atRest = true ∧ s.comms.service.current.isSome = true ∧ s.operating = false ∧ (0 : Byte).toNat = 0 ∧
        (5 : Byte).toNat ≠ 0 ∧ s.comms.service.queue.length = n := by decide +kernel

/-! ### Bays, lanes and arrivals -/

theorem test_witness_ScansPollAndFlashesToggle :
    live.atRest = true ∧ live.scanner.scan.isRunning = true ∧ live.scanner.flash.isRunning = true := by decide +kernel

/-- The small station with bay 7 in a state. -/
def withBay7 (x : Bay) : State :=
  withList (if x.state = .held then [⟨1, .port 0, 9000, some 7⟩] else [⟨1, .port 0, 9000, none⟩]) (withBay 7 x live)

/-- The lead-in demand of channel 3 stands, as port 0 and bay 7 both name it. -/
def demanded (s : State) : State :=
  { s with
    tracker := { s.tracker with leadIn := s.tracker.leadIn.set 3 true }
    lamps := { s.lamps with channels := s.lamps.channels.set 3 { s.lamps.channels.get 3 with leadIn := true } } }

/-- Where bay 7 is HELD the lead-in demands follow that hold, where it is OCCUPIED or FREE none stands; in each the
demands are in step. -/
theorem test_witness_LeadInDemandsInStep :
    (demanded (withBay7 ⟨.held, some .occupied, 2, 0, .flashing, .green⟩)).leadInSound ∧
      (withBay7 ⟨.free, some .occupied, 2, 0, .green, .green⟩).leadInSound ∧ live.leadInSound := by
  unfold State.leadInSound
  decide +kernel

theorem test_witness_RepeatedReadingIsConfirmed :
    let met := fun x => (withBay7 x).quiet = true ∧ (withBay7 x).vented = true ∧
      (withBay7 x).scanner.bays.get 7 = x ∧ x.state.isPolled = true;
    (met ⟨.held, none, 0, 0, .flashing, .green⟩ ∧ met ⟨.occupied, none, 0, 0, .red, .red⟩) ∧
    (let x : Bay := ⟨.free, some .occupied, 1, 0, .green, .green⟩;
      met x ∧ x.agreeing + 1 < (withBay7 x).settings.confirm) ∧
    (let x : Bay := ⟨.held, some .occupied, 2, 0, .flashing, .green⟩;
      met x ∧ (withBay7 x).settings.confirm ≤ x.agreeing + 1 ∧
        (∃ a ∈ (withBay7 x).tracker.list, a.bay = some 7) ∧
        ((withBay7 x).settings.bays.get 7).lamp.isSome = true) ∧
    (let x : Bay := ⟨.free, some .occupied, 2, 0, .green, .green⟩;
      met x ∧ (withBay7 x).settings.confirm ≤ x.agreeing + 1 ∧
        (∀ a ∈ (withBay7 x).tracker.list, a.bay ≠ some 7) ∧ (withBay7 x).tracker.list ≠ []) ∧
    (let x : Bay := ⟨.unknown, some .vacant, 2, 0, .dark, .dark⟩;
      met x ∧ (withBay7 x).settings.confirm ≤ x.agreeing + 1) := by decide +kernel

theorem test_witness_UnansweredBayTurnsFaulty :
    ∀ n ∈ [3, 4], let x : Bay := ⟨.held, none, 0, n, .flashing, .green⟩;
      (withBay7 x).quiet = true ∧ (withBay7 x).scanner.bays.get 7 = x ∧ x.state.isPolled = true ∧
        (if n = 3 then x.noAnswer < 4 else 4 ≤ x.noAnswer) := by decide +kernel

theorem test_witness_LoopChangesDecodePassages :
    ∀ row ∈ [((⟨⟨false, false⟩, .fault, .stopped, false, .stopped, .stopped⟩ : Lane), Loop.a, true),
        (⟨⟨false, false⟩, .clear, .stopped, false, .stopped, .stopped⟩, .a, true),
        (⟨⟨true, false⟩, .clear, .stopped, false, .stopped, .stopped⟩, .a, false),
        (⟨⟨true, false⟩, .firstA, .stopped, false, .stopped, .stopped⟩, .a, false),
        (⟨⟨true, false⟩, .firstA, .running 5, false, .running 5, .stopped⟩, .b, true),
        (⟨⟨false, true⟩, .tailA, .running 5, false, .stopped, .running 5⟩, .b, false),
        (⟨⟨true, false⟩, .tailB, .running 5, true, .running 5, .stopped⟩, .a, false)],
      let s := withLane 1 row.1 (withQueue (List.replicate 5 (waiting (.transit 9 .into 0))) live);
      s.quiet = true ∧ s.vented = true ∧ s.laneInUse 1 = true ∧ s.laneAt 1 = row.1 ∧
        levelOf row.1.loops row.2.1 ≠ row.2.2 ∧ s.comms.link.queue.length ≤ 5 ∧ s.comms.link.state ≠ .silent ∧
        s.settings.placeOfPort 1 = some 0 ∧ (s.settings.ports.get 1).lamp = some 3 := by decide +kernel

theorem test_witness_LanesQueueAndGetStuck :
    ∀ q, let l : Lane := ⟨⟨true, false⟩, .firstA, .running 0, q, .running 0, .stopped⟩;
      let s := withLane 2 l live;
      s.quiet = true ∧ s.vented = true ∧ s.laneAt 2 = l ∧ l.presence.isRunning = true ∧
        (l.stuck .a).isRunning = true ∧ (s.settings.ports.get 2).lamp = some 3 ∧ anyActive l.loops = true := by
  decide +kernel

theorem test_witness_ArrivalsExpireOldestFirst :
    (∀ e ∈ [1000, 1001],
      let s := demanded (withList [⟨1, .port 0, e, some 7⟩] (withBay7 ⟨.held, none, 0, 0, .flashing, .green⟩));
      s.quiet = true ∧ s.tracker.list = [⟨1, .port 0, e, some 7⟩] ∧ s.bayState 7 = .held ∧ s.now = 1000 ∧
        s.leadInSound) ∧
    (live.quiet = true ∧ live.tracker.list = []) := by
  unfold State.leadInSound
  decide +kernel

theorem test_witness_EveryHeldBayHasOneArrival :
    let s := { withBay7 ⟨.held, none, 0, 0, .flashing, .green⟩ with pending := [.arrivalExpiry] };
    s.holdsSound ∧ s.bayState 7 = .held ∧ ∃ t, step s = .next t :=
  ⟨by unfold State.holdsSound; decide +kernel, by decide +kernel, _, rfl⟩

theorem test_witness_QueuesAndListsKeepTheirPlaces :
    let s := { withList (List.replicate 16 ⟨1, .port 0, 9000, none⟩) (withNotices (notices 16)
        (withQueue (List.replicate 8 (waiting (.transit 9 .into 0))) live)) with pending := [.transitNoticeTaken 14 5 1 2] };
    s.listsSound ∧ ∃ t, step s = .next t :=
  ⟨by unfold State.listsSound; decide +kernel, _, rfl⟩

/-- A full queue in order: a frame in flight, a ZONE REPORT and six replies, of which the first to come is displaced. -/
theorem test_witness_FullQueueInOrder :
    let s := { withQueue (sent (.transit 9 .into 0) 0 :: waiting .report :: List.replicate 6 (waiting (.reply ⟨1, .done, []⟩)))
      live with pending := [.purgeAssertionTaken] };
    (s.queueSound ∧ s.comms.link.state ≠ .silent ∧ 8 ≤ s.comms.link.queue.length ∧
      (∃ f ∈ s.comms.link.queue, f.inFlight = false ∧ f.payload.cls s.env.grave = 6) ∧
      (∀ f ∈ s.comms.link.queue, f.inFlight = false → f.payload.cls s.env.grave ≤ 6) ∧
      6 ≤ (Payload.reply ⟨2, .done, []⟩).cls s.env.grave ∧ (Payload.startNotice 0).cls s.env.grave < 6) ∧
    ∃ t, step s = .next t :=
  ⟨by unfold State.queueSound mayPrecede; decide +kernel, _, rfl⟩

/-! ### Signs, lamps and the zone state -/

/-- The small station with the marks of its two signs and a record on the line, or none. -/
def withSigns (m0 m1 : Bool) (line : Option OnLine) : State :=
  { live with guide := { live.guide with
      signs := ((Tbl.const 2 { Sign.reset with mark := m1 }).set 0 { Sign.reset with mark := m0 })
      refresh := .running 0, line := line, lastSign := 1 } }

theorem test_witness_SignRecordsGoOutInTurn :
    (let s := withSigns false false none;
      s.atRest = true ∧ s.guide.refresh.isRunning = true ∧ s.guide.line = none ∧ s.guide.lastSign ≠ 0) ∧
    (let s := withSigns false true (some ⟨0, [], 0⟩);
      s.atRest = true ∧ s.guide.refresh.isRunning = true ∧ s.guide.line ≠ none ∧
        ∀ j, (s.guide.signs.get j).mark = decide (j = 1)) ∧
    (let s := withSigns false false (some ⟨0, [], 0⟩);
      s.atRest = true ∧ ∀ j, (s.guide.signs.get j).mark = false) := by decide +kernel

theorem test_witness_LampsFadeAndDrawTheirWindows :
    let s := { live with lamps := { live.lamps with channels :=
      (Tbl.const 8 { Channel.reset 102 with level := 1023 }).set 3 { Channel.reset 716 with presence := .counting 0 } } };
    s.atRest = true ∧ (s.lamps.channels.get 3).presence = .counting 0 ∧ s.lamps.ramp.isRunning = true ∧
      s.lamps.pwm.isRunning = true ∧ (s.lamps.channels.get 0).level ≤ 1023 ∧
      (let still := { s with lamps := { s.lamps with pwm := .stopped } };
        still.atRest = true ∧ still.lamps.pwm.isRunning = false) := by
  decide +kernel

theorem test_witness_GuidanceAndLampsFollowTheZone :
    let s := { inZone { ZoneCtl.reset with state := .divert, scoreCause := true }
        { live with guide := { live.guide with advOffer := ⟨0, 0, 0, 5, none⟩ } } with pending := [.busFree] };
    s.advertSound ∧ s.zone.state ≠ .normal ∧ s.lampsSound ∧ ∃ t, step s = .next t :=
  ⟨by unfold State.advertSound; decide +kernel, by decide +kernel, by unfold State.lampsSound; decide +kernel, _, rfl⟩

theorem test_witness_PurgeAndAlarmMoveTheWholeZone :
    (live.operating = true ∧ live.comms.service.queue = [] ∧ live.grave = false ∧ live.comms.fan.stage ≤ 4) ∧
    (let s := inZone { ZoneCtl.reset with state := .alarm, hold := .running 0, fsLast := 512 }
        { live with lamps := { live.lamps with channels := Tbl.const 8 (Channel.reset 1023) } };
      s.operating = true ∧ s.quiet = true ∧ s.vented = true ∧ s.zone.state = .alarm ∧ s.lampsSound) ∧
    (∀ fs ∈ [199, 200], let s := inZone { ZoneCtl.reset with state := .purge, purgeIn := true, fsLast := fs } live;
      s.operating = true ∧ s.quiet = true ∧ s.vented = true ∧ s.zone.state = .purge) ∧
    (∀ fs ∈ [199, 200], let s := inZone { ZoneCtl.reset with state := .alarm, hold := .running 0, fsLast := fs } live;
      s.operating = true ∧ s.quiet = true ∧ s.vented = true ∧ s.zone.state = .alarm ∧ s.zone.hold.isRunning = true ∧
        (if fs = 199 then s.zone.fsLast < s.settings.alarmOff else s.settings.alarmOff ≤ s.zone.fsLast)) ∧
    (State.reset.operating = false ∧ State.reset.atRest = true) := by
  unfold State.lampsSound
  decide +kernel

/-! ### Requests and the store -/

theorem test_witness_QueriesAndUnknownKindsChangeNothing :
    live.ready = true ∧ State.reset.ready = true ∧ (10 : Byte).toNat = (10 : Fin 11).val ∧
      (live.counterGroups[(10 : Fin 11).val]?).isSome = true ∧ 11 ≤ (11 : Byte).toNat ∧ 14 ≤ (14 : Byte).toNat ∧
      (0 : Byte).toNat = 0 := by decide +kernel

theorem test_witness_FanRequestsActAtOnce :
    (State.reset.ready = true ∧ State.reset.comms.link.queue.length ≤ 5 ∧ State.reset.operating = false) ∧
    (∀ x ∈ [(3 : Byte), 4], live.ready = true ∧ live.operating = true ∧
      (4 ≤ x.toNat ∨ ∀ j : Fin 4, x.toNat = j.val → (live.settings.fans.get j).present = false)) ∧
    (∀ st ∈ [FanState.stopped, .fault, .locked], ∀ busy : Bool,
      let s := withFan 1 { Fan.stopped with state := st }
        { live with store := { live.store with status := if busy then .lockWrite (Tbl.const 5 0) else .ready } };
      s.ready = true ∧ s.operating = true ∧ (1 : Byte).toNat = (1 : Fin 4).val ∧
        (s.settings.fans.get 1).present = true ∧ s.comms.fan.noVent = false ∧
        available s.settings s.comms.fan 0 = true ∧ s.store.busy = busy ∧ (s.comms.fanAt 1).state = st) ∧
    (let s := withFan 0 Fan.stopped lastFan;
      s.ready = true ∧ s.operating = true ∧ s.comms.fan.noVent = false ∧ (s.settings.fans.get 0).present = true ∧
        (∀ j, j ≠ 0 → available s.settings s.comms.fan j = false) ∧ (s.comms.fanAt 0).state ≠ .locked ∧
        s.store.busy = false ∧ 1 ≤ s.comms.fan.stage ∧ demand s.env s.comms.fan = s.comms.fan.stage ∧
        s.grave = false ∧ s.zone.purgeIn = false ∧ s.zone.fsLast < s.settings.alarmOn) ∧
    live.vented = true ∧
    (∀ x ∈ [(1 : Byte), 3], 1 ≤ x.toNat ∧ x.toNat ≤ 3) ∧ (∀ m ∈ [(1 : Byte), 240], 1 ≤ m.toNat ∧ m.toNat ≤ 240) ∧
    3 < (4 : Byte).toNat ∧ 240 < (241 : Byte).toNat := by decide +kernel

theorem test_witness_HeadsAndDetectorsAreCleared :
    (State.reset.ready = true ∧ State.reset.operating = false) ∧
    (∀ x ∈ [activeHead, { activeHead with state := .drift }, { activeHead with state := .openCircuit }],
      let s := withHead 3 x live;
      s.ready = true ∧ s.operating = true ∧ (3 : Byte).toNat = (3 : Fin 4).val ∧
        (s.settings.heads.get 3).present = true ∧ (s.gas.heads.get 3).faulted = decide (x ≠ activeHead)) ∧
    (∀ x ∈ [(4 : Byte), 255], ∀ k : Fin 4, x.toNat ≠ k.val) ∧ (∀ c : Fin 48, (48 : Byte).toNat ≠ c.val) ∧
    (live.settings.bays.get 8).inUse = false ∧ (2 : Byte) ≠ 0 ∧ (2 : Byte) ≠ 1 ∧
    (∀ st ∈ [BayState.fault, .free], let s := withBay 7 ⟨st, none, 0, 0, .dark, .dark⟩ live;
      s.ready = true ∧ (7 : Byte).toNat = (7 : Fin 48).val ∧ (s.settings.bays.get 7).inUse = true ∧
        (s.settings.bays.get 7).closed = false ∧ s.bayState 7 = st) ∧
    (∀ st ∈ [LaneState.fault, .clear], ∀ a, let s := withLane 3 ⟨⟨a, false⟩, st, .stopped, false, .stopped, .stopped⟩ live;
      s.ready = true ∧ (3 : Byte).toNat = (3 : Fin 4).val ∧ (s.settings.ports.get 3).owned = true ∧
        (s.laneAt 3).state = st ∧ anyActive (s.laneAt 3).loops = a) := by decide +kernel

/-- The good image passes every test of a commit (R171). -/
theorem test_image_commits : firstFailure goodImage = none := by
  have hm : markerOk goodImage = true := by decide +kernel
  have hl : lengthOk goodImage = true := by decide +kernel
  have hc : checkOk goodImage = true := by simp [checkOk, goodImage_take, goodImage_word, test_crc_of_the_image]
  have ht : (rangeTests goodImage.cells ++ constraintTests goodImage.cells (settingsOf goodImage)).find?
      (fun t => !t.ok) = none := by decide +kernel
  simp [firstFailure, hm, hl, hc, ht]

theorem test_witness_StoreRequestsAndRestartAreAnswered :
    let fresh := { State.reset with store := { Store.erased with staging := goodImage } };
    ((∀ s ∈ [live, State.reset, fresh], s.ready = true ∧ s.store.busy = false ∧ s.store.writeError = false) ∧
      (live.operating = true ∧ State.reset.operating = false ∧ fresh.operating = false) ∧
      (∀ failed,
        let s := { fresh with store := { fresh.store with
          status := if failed then .ready else .commitWrite, writeError := failed } };
        s.ready = true ∧ s.operating = false ∧ s.store.busy = !failed ∧ s.store.writeError = failed) ∧
      (∀ x ∈ [(125 : Byte), 127], x.toNat % 2 = 1) ∧ (∀ x ∈ [(127 : Byte), 128], 126 < x.toNat) ∧
      (∀ x ∈ [(0 : Byte), 126], x.toNat % 2 = 0 ∧ x.toNat ≤ 126) ∧
      firstFailure State.reset.store.staging = some 0) ∧
    firstFailure fresh.store.staging = none :=
  ⟨by decide +kernel, test_image_commits⟩

theorem test_witness_StoreWritesAreReadBack :
    (let r := lockRecordOf fun _ => true;
      let s := { live with store := { live.store with status := .lockWrite r } };
      s.atRest = true ∧ s.store.status = .lockWrite r ∧ r.set 0 0 ≠ r) ∧
    (let s := { State.reset with store := { Store.erased with status := .commitWrite, staging := Tbl.const 512 7 } };
      s.atRest = true ∧ s.store.status = .commitWrite ∧ s.comms.service.current = none ∧
        State.reset.store.staging ≠ s.store.staging) := by decide +kernel

end Sys2Proof.Tests
end

section
/-! What the end of a sample conversion does (R7, R9, R18, R34), and O11. -/

namespace Sys2Proof.Machine

/-! ## The parts of the state it touches -/

theorem PerGas.get_set_self {α : Type} (p : PerGas α) (g : Gas) (a : α) : (p.set g a).get g = a := by
  cases g <;> rfl

theorem PerGas.get_set_ne {α : Type} (p : PerGas α) (a : α) :
    ∀ {g k : Gas}, k ≠ g → (p.set g a).get k = p.get k
  | .co, .no2, _ | .no2, .co, _ => rfl
  | .co, .co, hk | .no2, .no2, hk => absurd rfl hk

theorem partner_ne (h : Fin 4) : partner h ≠ h := by
  revert h; decide

/-- Whether a station is at rest reads neither its gas front end nor its fume unit. -/
theorem State.atRest_withGasFume (s : State) (g : GasFront) (f : Fume) :
    ({ s with gas := g, fume := f } : State).atRest = s.atRest := rfl

/-! ## The range flags and the concentration (R18, R19, R34) -/

theorem RangeFlag.isSet_raise (on : Bool) (f : RangeFlag) : (f.raise on).isSet = (f.isSet || on) := by
  cases on <;> simp [RangeFlag.raise]

/-- The formula of R18: below the runtime zero the value is 0 with UNDER, above full scale it is full scale with OVER,
and between them it is the scaled difference with no flag. -/
theorem concentration_eq (full zr span raw : Nat) :
    concentration full zr span raw =
      ⟨if raw < zr then 0 else min full ((raw - zr) * span / 256),
        !decide (raw < zr) && decide (full < (raw - zr) * span / 256), decide (raw < zr)⟩ := by
  unfold concentration
  split
  next hlow => simp [hlow]
  next hlow =>
    dsimp only
    split
    next hhigh => simp [hlow, hhigh, Nat.le_of_lt hhigh]
    next hhigh => simp [hlow, hhigh, Nat.le_of_not_lt hhigh]

theorem Fume.takeSample_get_self (g : Gas) (x : Sampled) (f : Fume) :
    (f.takeSample g x).gases.get g = { f.gases.get g with
      overRange := (f.gases.get g).overRange.raise x.high, underRange := (f.gases.get g).underRange.raise x.low } :=
  f.gases.get_set_self g _

theorem Fume.takeSample_get_ne {g k : Gas} (x : Sampled) (f : Fume) (hk : k ≠ g) :
    (f.takeSample g x).gases.get k = f.gases.get k :=
  f.gases.get_set_ne _ hk

/-! ## The arbiter (R5, R11) -/

theorem mem_roundRobin (pointer k : Fin 4) : k ∈ roundRobin pointer := by
  revert pointer k; decide

/-- A level finds no head exactly where no head stands a request at it (R5). -/
theorem GasFront.firstAt_eq_none {cfg : Settings} {g : GasFront} {l : Level} :
    g.firstAt cfg l = none ↔ ∀ k, requestOf cfg g k ≠ some l := by
  simp [GasFront.firstAt, mem_roundRobin]

/-- Where no head can be granted, no head stands a request (R5). -/
theorem GasFront.requestOf_of_nextGrant_none {cfg : Settings} {g : GasFront} (hn : g.nextGrant cfg = none)
    (k : Fin 4) : requestOf cfg g k = none := by
  unfold GasFront.nextGrant at hn
  split at hn
  · cases hn
  next hu =>
    split at hn
    · cases hn
    next hm =>
      split at hn
      · cases hn
      next hz =>
        match hr : requestOf cfg g k with
        | none => rfl
        | some .urgent => exact absurd hr (firstAt_eq_none.mp hu k)
        | some .normal => exact absurd hr (firstAt_eq_none.mp hm k)
        | some .zero => exact absurd hr (firstAt_eq_none.mp hz k)

/-- With the converter idle the arbiter aborts nothing: it leaves the front end as it is where no head stands a
request, and else starts a conversion of the head that it then points to (R5, R6, R11). -/
theorem GasFront.arbitrate_of_idle (cfg : Settings) {g : GasFront} (hc : g.converter = .idle) :
    (g.arbitrate cfg = g ∧ ∀ k, requestOf cfg g k = none) ∨
      ∃ l k, g.arbitrate cfg = { g with converter := conversionFor l k, pointer := k } := by
  have habort : g.abortZero cfg = g := by simp [GasFront.abortZero, hc]
  rw [GasFront.arbitrate, habort]
  match hn : g.nextGrant cfg with
  | none => exact .inl ⟨by simp [GasFront.grant, hn], requestOf_of_nextGrant_none hn⟩
  | some (l, k) => exact .inr ⟨l, k, by simp [GasFront.grant, hc, hn]⟩

theorem GasFront.arbitrate_idle_heads (cfg : Settings) {g : GasFront} (hc : g.converter = .idle) :
    (g.arbitrate cfg).heads = g.heads := by
  obtain ⟨hkept, -⟩ | ⟨l, k, hgrant⟩ := arbitrate_of_idle cfg hc
  · rw [hkept]
  · rw [hgrant]

theorem conversionFor_ne_idle (l : Level) (k : Fin 4) : conversionFor l k ≠ .idle := by
  cases l <;> simp [conversionFor]

/-- A sample conversion that a grant starts is of the head granted, at its full time (R6). -/
theorem eq_sample_of_conversionFor {l : Level} {k j : Fin 4} (hj : (conversionFor l k).samples j = true) :
    k = j ∧ conversionFor l k = .sample j 40 := by
  cases l <;> simp_all [conversionFor, Converter.samples, Config.conversionMs]

/-- A zero conversion that a grant starts is of the head granted, in its protected part and at its full time (R11). -/
theorem eq_zero_of_conversionFor {l : Level} {k j : Fin 4} (hj : (conversionFor l k).zeroes j = true) :
    k = j ∧ conversionFor l k = .zero j true 40 := by
  cases l <;> simp_all [conversionFor, Converter.zeroes, Config.conversionMs]

/-- A converter still idle after the arbiter: no grant was made, and no head stands a request (R5). -/
theorem GasFront.arbitrate_stays_idle {cfg : Settings} {g : GasFront} (hc : g.converter = .idle)
    (hidle : (g.arbitrate cfg).converter = .idle) :
    (g.arbitrate cfg).pointer = g.pointer ∧ ∀ k, requestOf cfg (g.arbitrate cfg) k = none := by
  obtain ⟨hkept, hnone⟩ | ⟨l, k, hgrant⟩ := arbitrate_of_idle cfg hc
  · rw [hkept]; exact ⟨rfl, hnone⟩
  · rw [hgrant] at hidle; exact absurd hidle (conversionFor_ne_idle l k)

theorem GasFront.arbitrate_idle_samples {cfg : Settings} {g : GasFront} (hc : g.converter = .idle) {k : Fin 4}
    (hk : (g.arbitrate cfg).converter.samples k = true) :
    (g.arbitrate cfg).pointer = k ∧ (g.arbitrate cfg).converter = .sample k 40 := by
  obtain ⟨hkept, -⟩ | ⟨l, j, hgrant⟩ := arbitrate_of_idle cfg hc
  · rw [hkept, hc] at hk; cases hk
  · rw [hgrant] at hk ⊢; exact eq_sample_of_conversionFor hk

theorem GasFront.arbitrate_idle_zeroes {cfg : Settings} {g : GasFront} (hc : g.converter = .idle) {k : Fin 4}
    (hk : (g.arbitrate cfg).converter.zeroes k = true) :
    (g.arbitrate cfg).pointer = k ∧ (g.arbitrate cfg).converter = .zero k true 40 := by
  obtain ⟨hkept, -⟩ | ⟨l, j, hgrant⟩ := arbitrate_of_idle cfg hc
  · rw [hkept, hc] at hk; cases hk
  · rw [hgrant] at hk ⊢; exact eq_zero_of_conversionFor hk

/-! ## A rest test (R9) -/

theorem GasFront.restTest_fields (cfg : Settings) (grave : Bool) (fs : Nat) (g : GasFront) (h : Fin 4) :
    (g.restTest cfg grave fs h).converter = g.converter ∧ (g.restTest cfg grave fs h).pointer = g.pointer := by
  unfold GasFront.restTest
  split <;> exact ⟨rfl, rfl⟩

theorem GasFront.restTest_get_self (cfg : Settings) (grave : Bool) (fs : Nat) (g : GasFront) (h : Fin 4) :
    (g.restTest cfg grave fs h).heads.get h =
      if g.mayRest cfg grave fs h then { g.heads.get h with state := .zeroing, settle := .running 2000 }
      else g.heads.get h := by
  unfold GasFront.restTest
  split
  · exact Tbl.get_set_self ..
  · rfl

theorem GasFront.restTest_get_ne (cfg : Settings) (grave : Bool) (fs : Nat) (g : GasFront) {h k : Fin 4}
    (hk : k ≠ h) : (g.restTest cfg grave fs h).heads.get k = g.heads.get k := by
  unfold GasFront.restTest
  split
  · exact Tbl.get_set_ne _ _ hk
  · rfl

/-! ## The front end that takes a value (R7) -/

/-- The front end at the end of a sample conversion: the converter is free and the head has its new value (R7). -/
def GasFront.takeValue (g : GasFront) (h : Fin 4) (v : Nat) : GasFront :=
  ({ g with converter := .idle }).setHead h ((g.heads.get h).sampled v)

theorem GasFront.takeValue_get_self (g : GasFront) (h : Fin 4) (v : Nat) :
    (g.takeValue h v).heads.get h = (g.heads.get h).sampled v :=
  g.heads.get_set_self h _

theorem GasFront.takeValue_get_ne (g : GasFront) {h k : Fin 4} (v : Nat) (hk : k ≠ h) :
    (g.takeValue h v).heads.get k = g.heads.get k :=
  g.heads.get_set_ne _ hk

/-- The rest test that follows a sample finds the conditions of R9 at age 0. -/
theorem State.mayRest_takeValue (s : State) (h : Fin 4) (v : Nat) :
    (s.gas.takeValue h v).mayRest s.settings s.grave s.fume.fs h = s.dueForRest h 0 := by
  have hfree : (s.gas.takeValue h v).converter.samples h = false := rfl
  simp only [GasFront.mayRest, GasFront.covered, hfree, GasFront.takeValue_get_self,
    GasFront.takeValue_get_ne _ _ (partner_ne h), Bool.not_false, Bool.and_true]
  rfl

/-- The front end that the arbiter finds after a sample: the head has its value and its rest test is made (R7, R9). -/
def State.sampledFront (s : State) (h : Fin 4) (v : Nat) : GasFront :=
  (s.gas.takeValue h v).restTest s.settings s.grave s.fume.fs h

theorem State.sampledFront_converter (s : State) (h : Fin 4) (v : Nat) : (s.sampledFront h v).converter = .idle :=
  (GasFront.restTest_fields ..).1

theorem State.sampledFront_pointer (s : State) (h : Fin 4) (v : Nat) :
    (s.sampledFront h v).pointer = s.gas.pointer :=
  (GasFront.restTest_fields ..).2

theorem State.sampledFront_get_self (s : State) (h : Fin 4) (v : Nat) :
    (s.sampledFront h v).heads.get h =
      if s.dueForRest h 0 then
        { s.gas.heads.get h with latest := some ⟨v, 0⟩, state := .zeroing, settle := .running 2000 }
      else { s.gas.heads.get h with latest := some ⟨v, 0⟩ } := by
  rw [State.sampledFront, GasFront.restTest_get_self, s.mayRest_takeValue, GasFront.takeValue_get_self]
  rfl

theorem State.sampledFront_get_ne (s : State) {h k : Fin 4} (v : Nat) (hk : k ≠ h) :
    (s.sampledFront h v).heads.get k = s.gas.heads.get k := by
  rw [State.sampledFront, GasFront.restTest_get_ne _ _ _ _ hk, GasFront.takeValue_get_ne _ _ hk]

/-! ## The command -/

theorem openCode_eq_false {code : BitVec 12} (hlow : 8 < code.toNat) (hhigh : code.toNat < 4087) :
    openCode code = false := by
  simp [openCode, hlow, hhigh]

/-- The concentration that a code gives head `h` (R18). -/
def State.sampleOf (s : State) (h : Fin 4) (code : BitVec 12) : Sampled :=
  concentration (fullScale (gasOf h)) (s.gas.heads.get h).zr (s.settings.heads.get h).span code.toNat

/-- A good code moves the gas front end and the fume unit only: the head takes the value, the gas the flags (R7, R18). -/
theorem State.sampleResult_of_good (s : State) (h : Fin 4) {code : BitVec 12} (hgood : openCode code = false) :
    s.sampleResult h code =
      { s with
        gas := (s.sampledFront h (s.sampleOf h code).value).arbitrate s.settings
        fume := s.fume.takeSample (gasOf h) (s.sampleOf h code) } := by
  rw [State.sampleResult, if_neg (by simp [hgood])]
  rfl

/-- SAMPLE_CONVERSION_COMPLETE with a good code, on a station at rest (R5, R7, R9, R18). -/
theorem exec_sampleConversionComplete_of_good {s : State} {h : Fin 4} {left : Nat} {code : BitVec 12}
    (hrest : s.atRest = true) (hc : s.gas.converter = .sample h left) (hgood : openCode code = false) :
    exec (.sampleConversionComplete code) s = .next
      { s with
        gas := (s.sampledFront h (s.sampleOf h code).value).arbitrate s.settings
        fume := s.fume.takeSample (gasOf h) (s.sampleOf h code)
        moment := s.moment + 1 } := by
  have hrun : exec (.sampleConversionComplete code) s = done (s.sampleResult h code) := by
    simp only [exec, execSampleConversionComplete, hc]
  rw [hrun, s.sampleResult_of_good h hgood, done_of_atRest]
  rw [s.atRest_withGasFume, hrest]

/-- Settles O11: the arbiter finds the converter free and the head with its value and its rest test made, and leaves
every head as it finds it. -/
theorem sampleGivesAConcentration : Obligations.SampleGivesAConcentration := by
  intro h left code s hrest hc hlow hhigh
  have hfree := s.sampledFront_converter h (s.sampleOf h code).value
  have hheads := GasFront.arbitrate_idle_heads s.settings hfree
  have hself := s.sampledFront_get_self h (s.sampleOf h code).value
  rw [← hheads] at hself
  refine ⟨_, (s.sampleOf h code).value, (s.sampleOf h code).low, (s.sampleOf h code).high,
    exec_sampleConversionComplete_of_good hrest hc (openCode_eq_false hlow hhigh), rfl, ?low, ?high, ?value,
    ?latest, ?zr, ?backlog, hself, ?idle, fun _ => GasFront.arbitrate_idle_samples hfree,
    fun _ => GasFront.arbitrate_idle_zeroes hfree, ?others, rfl, ?low_flag, ?high_flag, ?acc,
    fun _ => s.fume.takeSample_get_ne _, rfl⟩
  case low | high | value => simp [State.sampleOf, concentration_eq]
  case latest | zr | backlog => rw [hself]; split <;> rfl
  case idle =>
    intro hidle
    rw [← s.sampledFront_pointer h (s.sampleOf h code).value]
    exact GasFront.arbitrate_stays_idle hfree hidle
  case others =>
    intro k hk
    rw [hheads, s.sampledFront_get_ne _ hk]
  case low_flag | high_flag => rw [Fume.takeSample_get_self, RangeFlag.isSet_raise]
  case acc => rw [Fume.takeSample_get_self]

end Sys2Proof.Machine
end

section
/-! The score demand by its thresholds (R36), and O28. -/

namespace Sys2Proof.Machine

/-- The highest stage from 1 to 3 whose entry threshold ES reaches, 0 where it reaches none (R36). -/
def stageReached (cfg : Settings) (es : Nat) : Nat :=
  if cfg.entry.get 2 ≤ es then 3 else if cfg.entry.get 1 ≤ es then 2 else if cfg.entry.get 0 ≤ es then 1 else 0

/-- The thresholds are tested from the top, so that the first one reached is the highest, in whatever order they lie. -/
theorem stageReached_is_highest {cfg : Settings} {es : Nat} {S : Fin 3} (hS : cfg.entry.get S ≤ es) :
    ∃ k : Fin 3, stageReached cfg es = k.val + 1 ∧ cfg.entry.get k ≤ es ∧ ∀ j : Fin 3, cfg.entry.get j ≤ es → j ≤ k := by
  by_cases h2 : cfg.entry.get 2 ≤ es
  · exact ⟨2, if_pos h2, h2, fun j _ => Fin.le_last j⟩
  by_cases h1 : cfg.entry.get 1 ≤ es
  · refine ⟨1, by simp [stageReached, h2, h1], h1, fun j hj => ?_⟩
    match j with
    | 0 | 1 => decide
    | 2 => exact absurd hj h2
  match S with
  | 0 =>
    refine ⟨0, by simp [stageReached, h2, h1, hS], hS, fun j hj => ?_⟩
    match j with
    | 0 => decide
    | 1 => exact absurd hj h1
    | 2 => exact absurd hj h2
  | 1 => exact absurd hS h1
  | 2 => exact absurd hS h2

/-- The first rule of R36: below stage 3, with the next entry threshold reached. -/
theorem scoreDemand_of_entry_reached {cfg : Settings} {es : Nat} :
    ∀ {S : Fin 3}, cfg.entry.get S ≤ es → scoreDemand cfg es S.val = stageReached cfg es
  | 0, hS | 1, hS | 2, hS => if_pos hS

/-- The other rules of R36 for stages 1 to 3: stage 3 has no next entry threshold, so that its premise always holds. -/
theorem scoreDemand_of_entry_not_reached {cfg : Settings} {es : Nat} {S : Fin 3}
    (hnext : ∀ k : Fin 3, k.val = S.val + 1 → es < cfg.entry.get k) :
    scoreDemand cfg es (S.val + 1) = if es < cfg.exit.get S then S.val else S.val + 1 := by
  match S with
  | 0 => exact if_neg (hnext 1 rfl).not_ge
  | 1 => exact if_neg (hnext 2 rfl).not_ge
  | 2 => rfl

theorem scoreDemand_zero_of_entry_not_reached {cfg : Settings} {es : Nat} (h : es < cfg.entry.get 0) :
    scoreDemand cfg es 0 = 0 :=
  if_neg h.not_ge

/-- An ES below the exit threshold of a stage has not reached the next entry threshold: the one place where R36 rests on
the order of the thresholds (R171). -/
theorem exit_lt_next_entry {cfg : Settings} (hord : thresholdsOrdered cfg) {S k : Fin 3} (hk : k.val = S.val + 1) :
    cfg.exit.get S < cfg.entry.get k := by
  obtain ⟨h01, h12, hexit⟩ := hord
  match S, k with
  | 0, 1 => exact (hexit 0).trans h01
  | 1, 2 => exact (hexit 1).trans h12

/-- Settles O28, rule by rule of R36; the exit rule needs the order of the thresholds, the others do not. -/
theorem scoreDemandFollowsTheThresholds : Obligations.ScoreDemandFollowsTheThresholds := by
  intro cfg es hord
  refine ⟨?rise, ?fall, ?stay, scoreDemand_zero_of_entry_not_reached, rfl⟩
  case rise =>
    intro S hentry
    rw [scoreDemand_of_entry_reached hentry]
    exact stageReached_is_highest hentry
  case fall =>
    intro S hexit
    rw [scoreDemand_of_entry_not_reached fun k hk => hexit.trans (exit_lt_next_entry hord hk), if_pos hexit]
  case stay =>
    intro S hexit hnext
    rw [scoreDemand_of_entry_not_reached hnext, if_neg hexit.not_gt]

end Sys2Proof.Machine
end

section
/-! A TRANSIT NOTICE at the arrival tracker: report events on a queue with room, hold rounds, releases, the lead-in
demands (R88, R107, R117 to R127, R146), and O41. -/

namespace Sys2Proof.Machine

/-! ## Report events on a queue that has room (R84, R85, R88) -/

/-- A report event finds a place in the queue, or a ZONE REPORT that it is folded into: it displaces no frame and none
is refused. -/
def Link.takesReports (l : Link) : Prop := l.queue.length < Config.queuePlaces ∨ l.hasReport = true

/-- The bus side has moved by report events alone. -/
def Comms.Reported : Comms → Comms → Prop := Relation.ReflTransGen fun c d => ∃ e, d = reportEvent e c

theorem Comms.Reported.refl {c : Comms} : c.Reported c := Relation.ReflTransGen.refl

/-- What report events on a queue with room leave: everything outside the link, and of the link what an arrival's
notice is read by. -/
structure Comms.OnlyReports (c d : Comms) : Prop where
  fan : d.fan = c.fan
  service : d.service = c.service
  notices : d.notices = c.notices
  counters : d.link.counters = c.link.counters
  busFree : d.link.busFreeCount = c.link.busFreeCount
  transits : d.link.peer.transitsTaken = c.link.peer.transitsTaken
  room : d.link.takesReports

theorem any_enqueue (grave : Bool) (p : Frame → Bool) (f : Frame) :
    ∀ q : List Frame, (enqueue grave f q).any p = (p f || q.any p)
  | [] => rfl
  | g :: rest => by
    unfold enqueue
    split
    · rfl
    · simp [any_enqueue grave p f rest, Bool.or_left_comm]

/-- With a place in the queue a report joins it, and displaces nothing (R85, R88). -/
theorem offerReport_of_place {e : Env} {c : Comms} (hs : c.link.state ≠ .silent)
    (hq : c.link.queue.length < Config.queuePlaces) :
    offerReport e c = { c.join e .report with
      link := { ((c.join e .report).link.countPeer fun k => { k with reportsQueued := bump k.reportsQueued }) with
        spacing := .running Config.spacingMs } } := by
  simp [offerReport, offerFrame, hs, hq, dropEnds]

theorem offerReport_onlyReports {e : Env} {c : Comms} (hs : c.link.state ≠ .silent)
    (hq : c.link.queue.length < Config.queuePlaces) : c.OnlyReports (offerReport e c) := by
  rw [offerReport_of_place hs hq]
  refine ⟨rfl, rfl, rfl, rfl, rfl, rfl, .inr ?_⟩
  exact (any_enqueue _ _ _ _).trans rfl

theorem foldReport_onlyReports {c : Comms} (hc : c.link.takesReports) : c.OnlyReports (foldReport c) := by
  unfold foldReport
  split <;> exact ⟨rfl, rfl, rfl, rfl, rfl, rfl, hc⟩

/-- The cases of R88, each on a queue with room. -/
theorem reportEvent_onlyReports (e : Env) {c : Comms} (hc : c.link.takesReports) :
    c.OnlyReports (reportEvent e c) := by
  unfold reportEvent
  split
  next => exact ⟨rfl, rfl, rfl, rfl, rfl, rfl, hc⟩
  next hlink =>
    split
    next => exact foldReport_onlyReports hc
    next hnone =>
      split
      next => exact ⟨rfl, rfl, rfl, rfl, rfl, rfl, hc⟩
      next => exact offerReport_onlyReports (fun hs => hlink (.inr hs)) (hc.resolve_right hnone)

theorem Comms.OnlyReports.trans {b c d : Comms} (h : b.OnlyReports c) (k : c.OnlyReports d) : b.OnlyReports d :=
  ⟨k.fan.trans h.fan, k.service.trans h.service, k.notices.trans h.notices, k.counters.trans h.counters,
    k.busFree.trans h.busFree, k.transits.trans h.transits, k.room⟩

theorem Comms.Reported.onlyReports {c d : Comms} (h : c.Reported d) (hc : c.link.takesReports) :
    c.OnlyReports d := by
  induction h with
  | refl => exact ⟨rfl, rfl, rfl, rfl, rfl, rfl, hc⟩
  | tail _ hlast ih =>
    obtain ⟨e, rfl⟩ := hlast
    exact ih.trans (reportEvent_onlyReports e ih.room)

/-- Re-forming the guidance presents at most one report event (R134, R135). -/
theorem State.reformGuide_reported (s : State) : s.comms.Reported s.reformGuide.comms := by
  unfold State.reformGuide State.reformAdvert
  dsimp only
  split
  · exact .single ⟨_, rfl⟩
  · exact .refl

theorem State.changeBay_reported (s : State) (i : Fin 48) (f : Bay → Bay) :
    s.comms.Reported (s.changeBay i f).comms := by
  unfold State.changeBay
  dsimp only
  split
  · exact .refl
  · exact State.reformGuide_reported { s.setBay i f with guide := { (s.setBay i f).guide with own := _ } }

theorem State.changeBay_polls (s : State) (i : Fin 48) (f : Bay → Bay) :
    (s.changeBay i f).scanner.polls = s.scanner.polls := by
  unfold State.changeBay
  dsimp only
  split <;> simp

/-! ## Lead-in demands (R127, R146) -/

/-- Each lamp channel holds the demand as the tracker has it (R146). -/
def State.leadInShown (s : State) : Prop :=
  ∀ k : Fin 8, (s.lamps.channels.get k).leadIn = s.tracker.leadIn.get k

/-- Each demand stands as the arrival list and the configuration give it (R127). -/
def State.leadInFormed (s : State) : Prop :=
  ∀ k : Fin 8, s.tracker.leadIn.get k = s.tracker.list.any (Arrival.names s.settings k)

theorem State.leadInSound_iff (s : State) : s.leadInSound ↔ s.leadInFormed ∧ s.leadInShown :=
  forall_and

/-- Soundness of the lead-in reads the settings, the tracker and the lamps only. -/
theorem State.leadInSound_congr {s t : State} (hset : t.settings = s.settings) (htr : t.tracker = s.tracker)
    (hlamps : t.lamps = s.lamps) : t.leadInSound ↔ s.leadInSound := by
  unfold State.leadInSound
  rw [hset, htr, hlamps]

theorem State.presentLeadIn_leadIn (s : State) (k j : Fin 8) (d : Bool) :
    ((s.presentLeadIn k d).lamps.channels.get j).leadIn = if j = k then d else (s.lamps.channels.get j).leadIn := by
  have hchan : (s.presentLeadIn k d).lamps.channels =
      (s.onChannel k fun ch => { ch with leadIn := d }).lamps.channels := by
    unfold State.presentLeadIn
    dsimp only
    split <;> rfl
  rw [hchan]
  split
  next h => subst h; exact congrArg Channel.leadIn (Tbl.get_modify_self ..)
  next h => exact congrArg Channel.leadIn (Tbl.get_modify_ne _ _ h)

@[simp] theorem State.reformLeadInOf_tracker (s : State) (k : Fin 8) :
    (s.reformLeadInOf k).tracker.list = s.tracker.list ∧
    (s.reformLeadInOf k).tracker.counters = s.tracker.counters := by
  unfold State.reformLeadInOf
  dsimp only
  split <;> simp

theorem State.reformLeadInOf_leadIn (s : State) (k j : Fin 8) :
    (s.reformLeadInOf k).tracker.leadIn.get j =
      if j = k then s.tracker.list.any (Arrival.names s.settings k) else s.tracker.leadIn.get j := by
  unfold State.reformLeadInOf
  dsimp only
  split
  next hsame => split <;> simp_all
  next =>
    simp only [State.presentLeadIn_frame]
    split
    next h => subst h; exact Tbl.get_set_self ..
    next h => exact Tbl.get_set_ne _ _ h

/-- A demand that changes is presented, so that the lamps stay in step with the tracker. -/
theorem State.reformLeadInOf_shown {s : State} (hs : s.leadInShown) (k : Fin 8) :
    (s.reformLeadInOf k).leadInShown := by
  intro j
  rw [s.reformLeadInOf_leadIn]
  unfold State.reformLeadInOf
  dsimp only
  split
  next hsame =>
    rw [hs j]
    split <;> simp_all
  next =>
    rw [State.presentLeadIn_leadIn]
    split
    · rfl
    · exact hs j

@[simp] theorem State.reformLeadIn_tracker (s : State) :
    s.reformLeadIn.tracker.list = s.tracker.list ∧ s.reformLeadIn.tracker.counters = s.tracker.counters := by
  unfold State.reformLeadIn
  exact ⟨foldl_keeps (fun s => s.tracker.list) _ (fun s k => (s.reformLeadInOf_tracker k).1) _ _,
    foldl_keeps (fun s => s.tracker.counters) _ (fun s k => (s.reformLeadInOf_tracker k).2) _ _⟩

/-- Re-forming demands one after another: each stands formed from its own pass on. -/
theorem foldl_reformLeadInOf_leadIn (j : Fin 8) : ∀ (ks : List (Fin 8)) (s : State),
    (ks.foldl State.reformLeadInOf s).tracker.leadIn.get j =
      if j ∈ ks then s.tracker.list.any (Arrival.names s.settings j) else s.tracker.leadIn.get j
  | [], s => by simp
  | k :: ks, s => by
    rw [List.foldl_cons, foldl_reformLeadInOf_leadIn j ks, s.reformLeadInOf_leadIn]
    by_cases hk : j = k <;> simp [hk]

theorem foldl_reformLeadInOf_shown : ∀ (ks : List (Fin 8)) {s : State}, s.leadInShown →
    (ks.foldl State.reformLeadInOf s).leadInShown
  | [], _, hs => hs
  | k :: ks, _, hs => foldl_reformLeadInOf_shown ks (State.reformLeadInOf_shown hs k)

/-- Re-forming the lead-in needs nothing of the demands as they stand, only that the lamps know them. -/
theorem State.reformLeadIn_sound {s : State} (hs : s.leadInShown) : s.reformLeadIn.leadInSound := by
  have hshown : s.reformLeadIn.leadInShown := by
    unfold State.reformLeadIn
    exact foldl_reformLeadInOf_shown _ hs
  refine s.reformLeadIn.leadInSound_iff.mpr ⟨fun k => ?_, hshown⟩
  simp only [State.reformLeadIn_tracker, State.reformLeadIn_frame]
  rw [State.reformLeadIn, foldl_reformLeadInOf_leadIn, if_pos (List.mem_finRange k)]

/-! ## Bays given and released (R107, R120, R121, R123) -/

/-- What an arrival is beside the bay it holds. -/
def Arrival.stamp (a : Arrival) : Nat × Source × Nat := (a.recordedAt, a.source, a.expiresAt)

/-- From `s` to `t` bays have been given to the entries of the arrival list or released: no entry has come or left, the
bus side has moved by report events, and the lead-in is sound where it was. -/
structure State.Rebayed (s t : State) : Prop where
  reported : s.comms.Reported t.comms
  polls : t.scanner.polls = s.scanner.polls
  stamps : t.tracker.list.map Arrival.stamp = s.tracker.list.map Arrival.stamp
  counters : t.tracker.counters = s.tracker.counters
  sound : s.leadInSound → t.leadInSound

theorem State.Rebayed.refl (s : State) : s.Rebayed s := ⟨.refl, rfl, rfl, rfl, id⟩

theorem State.Rebayed.trans {s t u : State} (h : s.Rebayed t) (k : t.Rebayed u) : s.Rebayed u :=
  ⟨h.reported.trans k.reported, k.polls.trans h.polls, k.stamps.trans h.stamps, k.counters.trans h.counters,
    k.sound ∘ h.sound⟩

theorem State.changeBay_rebayed (s : State) (b : Fin 48) (f : Bay → Bay) : s.Rebayed (s.changeBay b f) where
  reported := s.changeBay_reported b f
  polls := s.changeBay_polls b f
  stamps := by simp
  counters := by simp
  sound := (State.leadInSound_congr (by simp) (by simp) (by simp)).mpr

theorem State.countBay_rebayed (s : State) (f : BayCounters → BayCounters) : s.Rebayed (s.countBay f) :=
  ⟨.refl, rfl, rfl, rfl, id⟩

theorem giveBay_stamps (b : Fin 48) :
    ∀ l : List Arrival, (giveBay b l).map Arrival.stamp = l.map Arrival.stamp
  | [] => rfl
  | a :: rest => by
    unfold giveBay
    split
    · rfl
    · rw [List.map_cons, giveBay_stamps b rest, List.map_cons]

theorem State.holdRequest_rebayed (s : State) (b : Fin 48) : s.Rebayed (s.holdRequest b).state := by
  unfold State.holdRequest
  split
  · dsimp only
    exact (s.changeBay_rebayed b _).trans (State.countBay_rebayed _ _)
  · dsimp only
    exact s.countBay_rebayed _

/-- An entry takes a bay and the lead-in is re-formed after it (R121, R127). -/
theorem State.giveBay_rebayed (s : State) (b : Fin 48) :
    s.Rebayed (s.setList (giveBay b s.tracker.list)).reformLeadIn where
  reported := by simpa using Comms.Reported.refl (c := s.comms)
  polls := by simp
  stamps := by simp [giveBay_stamps]
  counters := by simp
  sound hs := State.reformLeadIn_sound (s.leadInSound_iff.mp hs).2

theorem State.holdPass_rebayed (s : State) (b : Fin 48) : s.Rebayed (s.holdPass b) := by
  unfold State.holdPass
  dsimp only
  split
  · exact (s.holdRequest_rebayed b).trans (State.giveBay_rebayed _ b)
  · exact s.holdRequest_rebayed b

theorem holdPasses_rebayed : ∀ (n : Nat) (s : State), s.Rebayed (holdPasses n s)
  | 0, s => .refl s
  | n + 1, s => by
    unfold holdPasses
    split
    · exact .refl s
    · split
      · exact .refl s
      · exact (s.holdPass_rebayed _).trans (holdPasses_rebayed n _)

theorem State.holdRound_rebayed (s : State) : s.Rebayed s.holdRound := holdPasses_rebayed _ s

theorem State.release_rebayed (s : State) (b : Fin 48) : s.Rebayed (s.release b) := by
  unfold State.release
  split
  · exact (s.changeBay_rebayed b _).trans (State.holdRound_rebayed _)
  · exact .refl s

/-! ## Entries that leave and come (R119, R124, R125) -/

/-- What follows when an entry has left keeps the list and its counters. It is not `Rebayed`: until the lead-in is
re-formed, a demand may still stand for the entry that has left. -/
theorem State.endHold_moves (s : State) (a : Arrival) :
    s.comms.Reported (s.endHold a).comms ∧ (s.endHold a).scanner.polls = s.scanner.polls ∧
    (s.endHold a).tracker.list.map Arrival.stamp = s.tracker.list.map Arrival.stamp ∧
    (s.endHold a).tracker.counters = s.tracker.counters := by
  unfold State.endHold
  split
  next => exact ⟨.refl, rfl, rfl, rfl⟩
  next b _ =>
    obtain ⟨hreported, hpolls, hstamps, hcounters, -⟩ := s.reformLeadIn.release_rebayed b
    simp only [State.reformLeadIn_frame, State.reformLeadIn_tracker] at hreported hpolls hstamps hcounters
    exact ⟨hreported, hpolls, hstamps, hcounters⟩

/-- An entry that held no bay set no demand; for one that did the demands are re-formed before its bay is released. -/
theorem State.endHold_sound {s : State} {a : Arrival} (hshown : s.leadInShown)
    (hformed : a.bay = none → s.leadInFormed) : (s.endHold a).leadInSound := by
  unfold State.endHold
  split
  next hbay => exact s.leadInSound_iff.mpr ⟨hformed hbay, hshown⟩
  next b _ => exact (s.reformLeadIn.release_rebayed b).sound (State.reformLeadIn_sound hshown)

theorem Arrival.names_of_unheld {a : Arrival} (h : a.bay = none) (cfg : Settings) (k : Fin 8) :
    a.names cfg k = false := by
  simp [Arrival.names, h]

/-- What the removal of the oldest entry, counted by `f`, does to the parts that an arrival moves (R122, R124, R125). -/
theorem State.removeOldest_moves (s : State) (f : ArrivalCounters → ArrivalCounters) :
    s.comms.Reported (s.removeOldest f).comms ∧ (s.removeOldest f).scanner.polls = s.scanner.polls ∧
    (s.removeOldest f).tracker.list.map Arrival.stamp = (s.tracker.list.drop 1).map Arrival.stamp ∧
    (s.removeOldest f).tracker.counters =
      if s.tracker.list = [] then s.tracker.counters else f s.tracker.counters := by
  unfold State.removeOldest
  split
  next hnil => exact ⟨.refl, rfl, by simp [hnil], by simp [hnil]⟩
  next a rest hcons =>
    simpa [hcons] using ((s.setList rest).countArrival f).endHold_moves a

theorem State.removeOldest_sound {s : State} (hs : s.leadInSound) (f : ArrivalCounters → ArrivalCounters) :
    (s.removeOldest f).leadInSound := by
  obtain ⟨hformed, hshown⟩ := s.leadInSound_iff.mp hs
  unfold State.removeOldest
  split
  next => exact hs
  next a rest hcons =>
    refine State.endHold_sound hshown fun hbay k => ?_
    have hk := hformed k
    rw [hcons, List.any_cons, Arrival.names_of_unheld hbay, Bool.false_or] at hk
    exact hk

theorem State.evict_moves (s : State) :
    s.comms.Reported s.evict.comms ∧ s.evict.scanner.polls = s.scanner.polls ∧
    s.evict.tracker.list.length =
      (if 16 ≤ s.tracker.list.length then s.tracker.list.length - 1 else s.tracker.list.length) ∧
    s.evict.tracker.counters.added = s.tracker.counters.added := by
  unfold State.evict Config.arrivalPlaces
  split
  next =>
    obtain ⟨hreported, hpolls, hstamps, hcounters⟩ :=
      s.removeOldest_moves fun k => { k with evicted := bump k.evicted }
    refine ⟨hreported, hpolls, ?_, ?_⟩
    · simpa using congrArg List.length hstamps
    · rw [hcounters]; split <;> rfl
  next => exact ⟨.refl, rfl, rfl, rfl⟩

theorem State.evict_sound {s : State} (hs : s.leadInSound) : s.evict.leadInSound := by
  unfold State.evict
  split
  · exact State.removeOldest_sound hs _
  · exact hs

/-- The station with a new entry at the end of its list, before the hold round that follows (R119, step 2). -/
def State.appendArrival (s : State) (src : Source) : State :=
  (s.setList (s.tracker.list ++ [⟨s.now, src, s.now + 1000 * s.settings.lifetime, none⟩])).countArrival fun k =>
    { k with added := bump k.added }

theorem State.addArrival_eq (s : State) (src : Source) :
    s.addArrival src = (s.evict.appendArrival src).holdRound := rfl

/-- A new entry holds no bay, so that it sets no demand. -/
theorem State.appendArrival_sound {s : State} (hs : s.leadInSound) (src : Source) :
    (s.appendArrival src).leadInSound := by
  obtain ⟨hformed, hshown⟩ := s.leadInSound_iff.mp hs
  refine (State.leadInSound_iff _).mpr ⟨fun k => ?_, hshown⟩
  refine (hformed k).trans (.symm ?_)
  exact List.any_append.trans (by simp [Arrival.names, State.appendArrival])

theorem State.addArrival_moves (s : State) (src : Source) :
    s.comms.Reported (s.addArrival src).comms ∧ (s.addArrival src).scanner.polls = s.scanner.polls ∧
    (s.addArrival src).tracker.list.map Arrival.stamp =
      s.evict.tracker.list.map Arrival.stamp ++ [(s.now, src, s.now + 1000 * s.settings.lifetime)] ∧
    (s.addArrival src).tracker.counters.added = bump s.tracker.counters.added := by
  obtain ⟨hreported, hpolls, -, hadded⟩ := s.evict_moves
  have hround := (s.evict.appendArrival src).holdRound_rebayed
  refine ⟨hreported.trans hround.reported, hround.polls.trans hpolls, hround.stamps.trans ?_, ?_⟩
  · simp [State.appendArrival, Arrival.stamp]
  · rw [s.addArrival_eq, hround.counters, ← hadded]
    rfl

theorem State.addArrival_sound {s : State} (hs : s.leadInSound) (src : Source) : (s.addArrival src).leadInSound :=
  (State.holdRound_rebayed _).sound (State.appendArrival_sound (State.evict_sound hs) src)

theorem State.addArrival_length (s : State) (src : Source) :
    (s.addArrival src).tracker.list.length =
      if 16 ≤ s.tracker.list.length then s.tracker.list.length else s.tracker.list.length + 1 := by
  obtain ⟨-, -, hlength, -⟩ := s.evict_moves
  obtain ⟨-, -, hstamps, -⟩ := s.addArrival_moves src
  have hone := congrArg List.length hstamps
  simp only [List.length_map, List.length_append, List.length_singleton, hlength] at hone
  rw [hone]
  split <;> omega

/-! ## The notice (R69, R89, R90) -/

/-- A TRANSIT NOTICE is counted as taken (R90). -/
def PeerCounters.transit (k : PeerCounters) : PeerCounters := { k with transitsTaken := bump k.transitsTaken }

theorem State.transitReceived_into {s : State} {target direction : Nat} (sender : Nat)
    (ht : target = s.settings.unit) (hd : direction = 1) :
    s.transitReceived sender target direction = (s.countPeer .transit).addArrival (.transit sender) := by
  subst hd
  exact if_pos ht

theorem State.transitReceived_outOf {s : State} {target direction : Nat} (sender : Nat)
    (ht : target = s.settings.unit) (hd : direction = 2) :
    s.transitReceived sender target direction = (s.countPeer .transit).passOn := by
  subst hd
  exact if_pos ht

theorem State.transitReceived_undirected {s : State} {target direction : Nat} (sender : Nat)
    (ht : target = s.settings.unit) (hinto : direction ≠ 1) (hout : direction ≠ 2) :
    s.transitReceived sender target direction = s.countPeer .ignored := by
  rw [State.transitReceived, if_pos ht, directionOfCode, if_neg hinto, if_neg hout]

theorem State.transitReceived_elsewhere {s : State} {target : Nat} (sender direction : Nat)
    (ht : target ≠ s.settings.unit) : s.transitReceived sender target direction = s :=
  if_neg ht

/-- What every TRANSIT NOTICE passed by reception does to the bus side, the polls and the lead-in: it counts itself in
group PEER, and what follows reaches the bus as report events. -/
theorem State.transitReceived_moves (s : State) (sender target direction : Nat) :
    (∃ f, (s.comms.countPeer f).Reported (s.transitReceived sender target direction).comms) ∧
    (s.transitReceived sender target direction).scanner.polls = s.scanner.polls ∧
    (s.leadInSound → (s.transitReceived sender target direction).leadInSound) := by
  by_cases ht : target = s.settings.unit
  case neg =>
    rw [State.transitReceived_elsewhere sender direction ht]
    exact ⟨⟨id, .refl⟩, rfl, id⟩
  by_cases hinto : direction = 1
  · rw [State.transitReceived_into sender ht hinto]
    obtain ⟨hreported, hpolls, -, -⟩ := (s.countPeer .transit).addArrival_moves (.transit sender)
    exact ⟨⟨_, hreported⟩, hpolls, fun hs => State.addArrival_sound (s := s.countPeer .transit) hs _⟩
  by_cases hout : direction = 2
  · rw [State.transitReceived_outOf sender ht hout]
    obtain ⟨hreported, hpolls, -, -⟩ :=
      (s.countPeer .transit).removeOldest_moves fun k => { k with passed := bump k.passed }
    exact ⟨⟨_, hreported⟩, hpolls, fun hs => State.removeOldest_sound (s := s.countPeer .transit) hs _⟩
  · rw [State.transitReceived_undirected sender ht hinto hout]
    exact ⟨⟨_, .refl⟩, rfl, id⟩

/-- The station that has counted a frame of another party, which reception passes on (R71, R89). -/
def State.counted (s : State) : State := s.otherFrame.countLink .taken

theorem State.taken_of_passed {s : State} {sender : Nat} (pass : State → State) (ho : s.operating = true)
    (hu : sender ≠ s.settings.unit) : s.taken sender pass = pass s.counted := by
  simp only [State.taken, State.isClash, ho, hu, decide_false, Bool.and_false, if_true]
  rfl

/-- After a frame of another party the bus is not free, so that a station that was quiet stays so while report events
alone move its bus side. -/
theorem State.quiet_of_onlyReports {s t : State} {f : PeerCounters → PeerCounters} (hq : s.quiet = true)
    (hmode : t.mode = s.mode) (hzone : t.zone = s.zone)
    (hcomms : (s.counted.comms.countPeer f).OnlyReports t.comms) : t.quiet = true := by
  have hfan : t.comms.fan = s.comms.fan := hcomms.fan
  have hserve : t.comms.service = s.comms.service := hcomms.service
  have hbus : t.comms.link.busFreeCount = 0 := hcomms.busFree
  simp only [State.quiet, State.ventTold, State.operating, Bool.and_eq_true] at hq ⊢
  obtain ⟨⟨htold, hempty⟩, -⟩ := hq
  rw [hmode, hzone, hfan, hserve, hbus]
  exact ⟨⟨htold, hempty⟩, rfl⟩

/-- The station after the notice, before the moment that goes by. -/
def State.noticed (s : State) (sender : BitVec 6) (target direction : Byte) : State :=
  s.counted.transitReceived sender.toNat target.toNat direction.toNat

section
variable {s : State} {sender : BitVec 6} {target direction : Byte}

theorem State.noticed_onlyReports (hqueue : s.comms.link.queue.length < Config.queuePlaces) :
    ∃ f, (s.counted.comms.countPeer f).OnlyReports (s.noticed sender target direction).comms := by
  obtain ⟨⟨f, hreported⟩, -, -⟩ := s.counted.transitReceived_moves sender.toNat target.toNat direction.toNat
  exact ⟨f, hreported.onlyReports (.inl hqueue)⟩

theorem State.noticed_frame :
    (s.noticed sender target direction).mode = s.mode ∧ (s.noticed sender target direction).settings = s.settings ∧
    (s.noticed sender target direction).now = s.now ∧ (s.noticed sender target direction).moment = s.moment ∧
    (s.noticed sender target direction).gas = s.gas ∧ (s.noticed sender target direction).fume = s.fume ∧
    (s.noticed sender target direction).peers = s.peers ∧ (s.noticed sender target direction).zone = s.zone ∧
    (s.noticed sender target direction).store = s.store ∧
    (s.noticed sender target direction).pending = s.pending := by
  simp [State.noticed, State.counted]

theorem State.noticed_scanner : (s.noticed sender target direction).scanner = { s.scanner with
    bays := (s.noticed sender target direction).scanner.bays
    counters := (s.noticed sender target direction).scanner.counters } := by
  obtain ⟨-, hpolls, -⟩ := s.counted.transitReceived_moves sender.toNat target.toNat direction.toNat
  obtain ⟨-, -, -, -, -, -, -, -, -, -, hlanes, hscan, hflash, hon⟩ :=
    s.counted.transitReceived_frame sender.toNat target.toNat direction.toNat
  rw [Scanner.mk.injEq]
  exact ⟨rfl, hlanes, hscan, hpolls, hflash, hon, rfl⟩

/-- TRANSIT_NOTICE_TAKEN on a quiet station, from another unit. -/
theorem exec_transitNoticeTaken (port : Byte) (hq : s.quiet = true) (ho : s.operating = true)
    (hu : sender.toNat ≠ s.settings.unit) (hqueue : s.comms.link.queue.length < Config.queuePlaces) :
    exec (.transitNoticeTaken sender target direction port) s =
      .next { s.noticed sender target direction with moment := (s.noticed sender target direction).moment + 1 } := by
  have hrun : exec (.transitNoticeTaken sender target direction port) s = done (s.noticed sender target direction) :=
    congrArg done (State.taken_of_passed _ ho hu)
  obtain ⟨hmode, -, -, -, -, -, -, hzone, -, -⟩ := s.noticed_frame (sender := sender) (target := target)
    (direction := direction)
  obtain ⟨f, honly⟩ :=
    State.noticed_onlyReports (sender := sender) (target := target) (direction := direction) hqueue
  rw [hrun, done_of_quiet (State.quiet_of_onlyReports hq hmode hzone honly)]

/-- One INTO for this station (R90, R117, R119). -/
theorem State.noticed_into (hqueue : s.comms.link.queue.length < Config.queuePlaces)
    (ht : target.toNat = s.settings.unit) (hd : direction = 1) :
    (s.noticed sender target direction).comms.link.peer.transitsTaken = bump s.comms.link.peer.transitsTaken ∧
    (s.noticed sender target direction).tracker.counters.added = bump s.tracker.counters.added ∧
    (s.noticed sender target direction).tracker.list.length =
      (if 16 ≤ s.tracker.list.length then s.tracker.list.length else s.tracker.list.length + 1) ∧
    (s.noticed sender target direction).tracker.list.getLast?.map Arrival.stamp =
      some (s.now, .transit sender.toNat, s.now + 1000 * s.settings.lifetime) := by
  have hnoticed : s.noticed sender target direction =
      (s.counted.countPeer .transit).addArrival (.transit sender.toNat) :=
    State.transitReceived_into sender.toNat ht (congrArg BitVec.toNat hd)
  rw [hnoticed]
  obtain ⟨hreported, -, hstamps, hadded⟩ := (s.counted.countPeer .transit).addArrival_moves (.transit sender.toNat)
  refine ⟨(hreported.onlyReports (.inl hqueue)).transits, hadded, State.addArrival_length .., ?_⟩
  rw [← List.getLast?_map, hstamps, List.getLast?_concat]
  rfl

/-- One OUT OF for this station (R90, R124). -/
theorem State.noticed_outOf (hqueue : s.comms.link.queue.length < Config.queuePlaces)
    (ht : target.toNat = s.settings.unit) (hd : direction = 2) :
    (s.noticed sender target direction).comms.link.peer.transitsTaken = bump s.comms.link.peer.transitsTaken ∧
    (s.noticed sender target direction).tracker.list.map Arrival.stamp =
      (s.tracker.list.drop 1).map Arrival.stamp ∧
    (s.noticed sender target direction).tracker.counters.passed =
      (if s.tracker.list = [] then s.tracker.counters.passed else bump s.tracker.counters.passed) := by
  have hnoticed : s.noticed sender target direction = (s.counted.countPeer .transit).passOn :=
    State.transitReceived_outOf sender.toNat ht (congrArg BitVec.toNat hd)
  rw [hnoticed]
  obtain ⟨hreported, -, hstamps, hcounters⟩ :=
    (s.counted.countPeer .transit).removeOldest_moves fun k => { k with passed := bump k.passed }
  refine ⟨(hreported.onlyReports (.inl hqueue)).transits, hstamps, ?_⟩
  exact (congrArg ArrivalCounters.passed hcounters).trans (apply_ite ArrivalCounters.passed ..)

end

/-- Lists of arrivals that agree in their stamps agree in time and source. -/
theorem map_recorded_of_stamps {l m : List Arrival} (h : l.map Arrival.stamp = m.map Arrival.stamp) :
    l.map (fun a => (a.recordedAt, a.source)) = m.map fun a => (a.recordedAt, a.source) := by
  simpa [Function.comp_def, Arrival.stamp] using congrArg (List.map fun x : Nat × Source × Nat => (x.1, x.2.1)) h

/-- Settles O41: whatever the notice does at the tracker, the hold round or release that follows keeps the entries and
the lead-in, and reaches the bus side as report events, for which the queue has room. -/
theorem transitNoticeAddsOrPassesAnArrival : Obligations.TransitNoticeAddsOrPassesAnArrival := by
  intro sender target direction port s hquiet hoperating hsender hqueue
  obtain ⟨-, -, hsound⟩ := s.counted.transitReceived_moves sender.toNat target.toNat direction.toNat
  refine ⟨_, exec_transitNoticeTaken port hquiet hoperating hsender hqueue, ?frame, ?counters, ?into, ?outOf,
    ?undirected, ?elsewhere, hsound⟩
  case frame =>
    obtain ⟨hmode, hset, hnow, hmoment, hgas, hfume, hpeers, hzone, hstore, hpending⟩ :=
      s.noticed_frame (sender := sender) (target := target) (direction := direction)
    obtain ⟨f, honly⟩ :=
      State.noticed_onlyReports (sender := sender) (target := target) (direction := direction) hqueue
    have hcomms : (s.noticed sender target direction).comms = { s.comms with
        link := (s.noticed sender target direction).comms.link
        draws := (s.noticed sender target direction).comms.draws } := by
      rw [Comms.mk.injEq]
      exact ⟨honly.fan, rfl, honly.service, honly.notices, rfl⟩
    rw [State.mk.injEq]
    exact ⟨hmode, hset, hnow, congrArg (· + 1) hmoment, hgas, hfume, hcomms, hpeers, s.noticed_scanner, rfl, rfl,
      rfl, hzone, hstore, hpending⟩
  case counters =>
    obtain ⟨f, honly⟩ :=
      State.noticed_onlyReports (sender := sender) (target := target) (direction := direction) hqueue
    exact honly.counters
  case into => exact State.noticed_into hqueue
  case outOf =>
    intro ht hd
    obtain ⟨htransits, hstamps, hpassed⟩ := State.noticed_outOf (sender := sender) hqueue ht hd
    exact ⟨htransits, map_recorded_of_stamps hstamps, hpassed⟩
  case undirected =>
    intro ht hinto hout
    have hnoticed : s.noticed sender target direction = s.counted.countPeer .ignored :=
      State.transitReceived_undirected sender.toNat ht (fun h => hinto (BitVec.eq_of_toNat_eq h))
        fun h => hout (BitVec.eq_of_toNat_eq h)
    rw [hnoticed]
    exact ⟨rfl, rfl⟩
  case elsewhere =>
    intro ht
    have hnoticed : s.noticed sender target direction = s.counted :=
      State.transitReceived_elsewhere sender.toNat direction.toNat ht
    rw [hnoticed]
    exact ⟨rfl, rfl, rfl⟩

end Sys2Proof.Machine
end

section
/-! What the bus side and the fan controller can do, as chains of six kinds of move (R39 to R46, R84 to R88). The rules
that hold of every step are checked against the moves, and each operation is shown once to be a chain of them. -/

namespace Sys2Proof.Machine

/-! ## The moves -/

/-- What the place of a frame in the queue rests on (R84); its attempts leave it alone. -/
def Frame.key (f : Frame) : Payload × Nat := (f.payload, f.queuedAt)

/-- A turning fan has the duty of the stage in force and every other fan duty 0 (R39, R54). -/
def FanCtl.dutiesMet (cfg : Settings) (fc : FanCtl) : Prop :=
  ∀ i, (fc.fans.get i).duty = if (fc.fans.get i).driveOn then stageDuty cfg fc.stage else 0

/-- The stage in force is at least what the demand comes to at any stage (R36, R37). -/
def FanCtl.stageMet (e : Env) (fc : FanCtl) : Prop :=
  e.operating = true → thresholdsOrdered e.settings →
    (e.grave = true → 4 ≤ fc.stage) ∧
    (e.grave = false →
      (e.invalid = true → e.settings.failSafe ≤ fc.stage) ∧ (∀ b, fc.boost = some b → b.stage ≤ fc.stage) ∧
      ∀ k : Fin 3, e.settings.entry.get k ≤ e.es → k.val + 1 ≤ fc.stage)

/-- One move of the bus side: of the fan controller, of the link with every frame in its place, of frames that leave
the queue, of a frame that is offered, of the responder, of the start-notice list. -/
inductive Comms.Move (e : Env) (c : Comms) : Comms → Prop
  | fans (fc : FanCtl) (duties : c.fan.dutiesMet e.settings → fc.dutiesMet e.settings)
      (stage : c.fan.stageMet e → fc.stageMet e) : Move e c { c with fan := fc }
  | link (l : Link) (queue : l.queue.map Frame.key = c.link.queue.map Frame.key) : Move e c { c with link := l }
  | leave (q : List Frame) (queue : q.Sublist c.link.queue) :
      Move e c { c with link := { c.link with queue := q } }
  | offer (p : Payload) (report : p.isReport = true → c.link.hasReport = false)
      (notice : p.isStartNotice = true → c.hasNotice = false) : Move e c (offerFrame e p c).comms
  | service (v : Service) (places : c.service.queue.length ≤ 2 → v.queue.length ≤ 2) : Move e c { c with service := v }
  | notices (n : List Notice) (places : c.notices.length ≤ 16 → n.length ≤ 16) : Move e c { c with notices := n }

/-- A chain of moves of the bus side. -/
def Comms.Path (e : Env) : Comms → Comms → Prop := Relation.ReflTransGen (Comms.Move e)

namespace Comms.Path

variable {e : Env} {b c d : Comms}

theorem refl : c.Path e c := Relation.ReflTransGen.refl

theorem trans (h : b.Path e c) (k : c.Path e d) : b.Path e d := Relation.ReflTransGen.trans h k

theorem of_move (h : Comms.Move e c d) : c.Path e d := Relation.ReflTransGen.single h

theorem link (l : Link) (h : l.queue.map Frame.key = c.link.queue.map Frame.key) : c.Path e { c with link := l } :=
  of_move (.link l h)

theorem countLink (f : LinkCounters → LinkCounters) : c.Path e (c.countLink f) := link _ rfl

theorem countPeer (f : PeerCounters → PeerCounters) : c.Path e (c.countPeer f) := link _ rfl

/-- The fan controller moves without its stage, and each fan keeps its duty and whether it turns. -/
theorem fans_of_same (fc : FanCtl) (hstage : fc.stage = c.fan.stage)
    (hboost : ∀ b, fc.boost = some b → c.fan.boost = some b)
    (hfans : ∀ i, (fc.fans.get i).driveOn = (c.fanAt i).driveOn ∧ (fc.fans.get i).duty = (c.fanAt i).duty) :
    c.Path e { c with fan := fc } := by
  refine of_move (.fans fc (fun h i => ?_) fun h ho ht => ?_)
  · rw [(hfans i).1, (hfans i).2, hstage]; exact h i
  · obtain ⟨hgrave, hcalm⟩ := h ho ht
    refine ⟨fun hg => hstage ▸ hgrave hg, fun hg => ?_⟩
    obtain ⟨hinvalid, hb, hentry⟩ := hcalm hg
    rw [hstage]
    exact ⟨hinvalid, fun b hfb => hb b (hboost b hfb), hentry⟩

/-- The fan controller moves, and its fans, its stage and its boost override stay. -/
theorem fanCtl (fc : FanCtl) (hfans : fc.fans = c.fan.fans) (hstage : fc.stage = c.fan.stage)
    (hboost : fc.boost = c.fan.boost) : c.Path e { c with fan := fc } :=
  fans_of_same fc hstage (fun _ h => hboost ▸ h) fun i => by rw [hfans]; exact ⟨rfl, rfl⟩

theorem countFan (f : FanCounters → FanCounters) : c.Path e (c.countFan f) := fanCtl _ rfl rfl rfl

/-- One fan's record moves: it keeps its duty and whether it turns, it has the duty of the stage and turns, or it stands
at duty 0. -/
theorem setFan (i : Fin 4) (f : Fan)
    (h : (f.driveOn = (c.fanAt i).driveOn ∧ f.duty = (c.fanAt i).duty) ∨
      f.duty = if f.driveOn then stageDuty e.settings c.fan.stage else 0) :
    c.Path e (c.setFan i f) := by
  refine of_move (.fans _ (fun hd j => ?_) id)
  by_cases hj : j = i
  · subst hj
    simp only [Tbl.get_set_self]
    obtain ⟨hon, hduty⟩ | hsound := h
    · rw [hon, hduty]; exact hd j
    · exact hsound
  · simp only [Tbl.get_set_ne _ _ hj]; exact hd j

theorem service (v : Service) (h : c.service.queue.length ≤ 2 → v.queue.length ≤ 2) :
    c.Path e { c with service := v } :=
  of_move (.service v h)

/-- The responder has no request any more. -/
theorem freeService : c.Path e { c with service := { c.service with current := none } } := service _ id

end Comms.Path

/-! ## Fan starts (R42 to R46) -/

section
variable (e : Env) (c : Comms)

theorem startFan_path (i : Fin 4) : c.Path e (startFan e i c) :=
  (Comms.Path.setFan i _ (.inr rfl)).trans (.fanCtl _ rfl rfl rfl)

theorem startLocally_path (i : Fin 4) : c.Path e (startLocally e i c) :=
  (startFan_path e c i).trans (.countFan _)

theorem clearRelease_path : c.Path e (clearRelease c) := by
  unfold clearRelease
  split
  · exact .refl
  · split
    · exact .refl
    · exact .fanCtl _ rfl rfl rfl

theorem localStarts_path : c.Path e (localStarts e c) := by
  unfold localStarts
  refine (clearRelease_path e c).trans ?_
  dsimp only
  split
  · exact .refl
  · split
    · exact (startLocally_path e _ _).trans (.fanCtl _ rfl rfl rfl)
    · split
      · split
        · exact startLocally_path e _ _
        · exact .refl
      · exact .refl

theorem releaseFan_path (i : Fin 4) : c.Path e (releaseFan i c) := by
  have hcount (f : FanCounters → FanCounters) : c.Path e (c.countFan f) := .countFan f
  unfold releaseFan
  dsimp only
  split
  · exact (hcount _).trans (.fanCtl _ rfl rfl rfl)
  · exact hcount _

end

/-- A notice is offered only where none of this station's is queued (R42). -/
theorem offerNotice_path {e : Env} {c : Comms} (i : Fin 4) (h : c.mayNotify e = true) :
    c.Path e (offerFrame e (.startNotice i) c).comms := by
  simp only [Comms.mayNotify, Bool.and_eq_true, Bool.not_eq_true'] at h
  exact .of_move (.offer _ (fun hr => nomatch hr) fun _ => h.1.2)

theorem tryNotice_path (e : Env) : ∀ (n : Nat) (c : Comms), c.Path e (tryNotice n e c)
  | 0, _ => .refl
  | n + 1, c => by
    unfold tryNotice
    split
    · next hmay =>
      split
      · exact .refl
      · split
        · have hoffer := offerNotice_path (e := e) (c := c)
          dsimp only
          split
          · exact (hoffer _ hmay).trans (.countPeer _)
          · exact (hoffer _ hmay).trans .freeService
          · exact hoffer _ hmay
          · exact (((hoffer _ hmay).trans (releaseFan_path e _ _)).trans (localStarts_path e _)).trans
              (tryNotice_path e n _)
        · exact .countFan _
    · exact .refl

theorem resumeStarts_path (e : Env) (c : Comms) : c.Path e (resumeStarts e c) :=
  (localStarts_path e c).trans (tryNotice_path e 3 _)

theorem noticeDropped_path (e : Env) (i : Fin 4) (c : Comms) : c.Path e (noticeDropped e i c) :=
  (releaseFan_path e c i).trans (resumeStarts_path e _)

theorem withdrawNotice_path (e : Env) (c : Comms) : c.Path e (withdrawNotice c) :=
  .of_move (.leave _ (List.eraseP_sublist ..))

theorem tryTimes_path (e : Env) : ∀ (k : Nat) (c : Comms), c.Path e (tryTimes k e c)
  | 0, _ => .refl
  | k + 1, c => (tryNotice_path e 3 c).trans (tryTimes_path e k _)

theorem afterFanChange_path (e : Env) (old c : Comms) : c.Path e (afterFanChange e old c) := by
  unfold afterFanChange
  dsimp only
  split
  · exact ((withdrawNotice_path e c).trans (localStarts_path e _)).trans (tryTimes_path e _ _)
  · exact (localStarts_path e c).trans (tryTimes_path e _ _)

/-! ## Drops and reports (R85 to R88) -/

theorem dropEnd_path (e : Env) (p : Payload) (c : Comms) : c.Path e (dropEnd e p c) := by
  cases p with
  | report => exact .refl
  | startNotice i => exact noticeDropped_path e i c
  | transit _ _ _ => exact .countPeer _
  | reply _ => exact .freeService

theorem dropEnds_path (e : Env) (p : Option Payload) (c : Comms) : c.Path e (dropEnds e p c) := by
  cases p with
  | none => exact .refl
  | some p => exact dropEnd_path e p c

/-- A frame that is neither a ZONE REPORT nor a START NOTICE may be offered at any time (R85). -/
theorem offer_path (e : Env) {p : Payload} (c : Comms) (hr : p.isReport = false) (hn : p.isStartNotice = false) :
    c.Path e (offer e p c) :=
  (Comms.Path.of_move (.offer p (fun h => absurd h (by simp [hr])) fun h => absurd h (by simp [hn]))).trans
    (dropEnds_path e _ _)

/-- A new ZONE REPORT is offered where none stands in the queue (R88). -/
theorem offerReport_path {e : Env} {c : Comms} (h : c.link.hasReport = false) : c.Path e (offerReport e c) := by
  unfold offerReport
  have hoffer : c.Path e (offerFrame e .report c).comms := .of_move (.offer _ (fun _ => h) (fun hn => nomatch hn))
  dsimp only
  split
  · refine Comms.Path.trans ?_ (dropEnds_path e _ _)
    exact hoffer.trans (.link _ rfl)
  · exact hoffer.trans (dropEnds_path e _ _)

theorem foldReport_path (e : Env) (c : Comms) : c.Path e (foldReport c) := by
  unfold foldReport
  split
  · exact .link _ rfl
  · exact .countPeer _

theorem reportEvent_path (e : Env) (c : Comms) : c.Path e (reportEvent e c) := by
  unfold reportEvent
  split
  · exact .refl
  · split
    · exact foldReport_path e c
    · next hr =>
      split
      · exact .link _ rfl
      · exact offerReport_path (by simpa using hr)

theorem periodicReport_path (e : Env) (c : Comms) : c.Path e (periodicReport e c) := by
  unfold periodicReport
  dsimp only
  split
  · exact (foldReport_path e c).trans (.link _ rfl)
  · next hr => exact (offerReport_path (by simpa using hr)).trans (.link _ rfl)

/-! ## Selection and the stage (R35 to R41) -/

theorem Fan.select_driveOn {d : Nat} {w : Bool} {f : Fan} (h : f.driveOn = false → f.duty = 0) :
    (f.select d w).duty = if (f.select d w).driveOn then d else 0 := by
  unfold Fan.select
  split
  case h_1 hs | h_2 hs => split <;> simp_all [Fan.driveOn]
  case h_3 hs | h_4 hs =>
    split
    · unfold Fan.setDuty; split <;> simp [Fan.driveOn, hs]
    · rfl
  case h_5 hs | h_6 hs => simp_all [Fan.driveOn]

/-- Selection gives every fan the duty of the stage in force, whatever stage the duties were for, as long as the fans
that stood had duty 0 (R41). -/
theorem applyWanted_dutiesMet (cfg : Settings) (w : List (Fin 4)) {fc : FanCtl}
    (h : ∀ i, (fc.fans.get i).driveOn = false → (fc.fans.get i).duty = 0) :
    (applyWanted cfg w fc).dutiesMet cfg := by
  intro i
  simp only [applyWanted, Tbl.get_mapIdx]
  exact Fan.select_driveOn (h i)

theorem FanCtl.dutiesMet.idle {cfg : Settings} {fc : FanCtl} (h : fc.dutiesMet cfg) (i : Fin 4)
    (hi : (fc.fans.get i).driveOn = false) : (fc.fans.get i).duty = 0 := by
  simpa [hi] using h i

@[simp] theorem settleMarks_get (w : List (Fin 4)) (fc : FanCtl) (i : Fin 4) :
    ((settleMarks w fc).fans.get i).driveOn = (fc.fans.get i).driveOn ∧
    ((settleMarks w fc).fans.get i).duty = (fc.fans.get i).duty := by
  simp [settleMarks, Fan.driveOn]

@[simp] theorem markOutgoing_get (b w : List (Fin 4)) (fc : FanCtl) (i : Fin 4) :
    ((markOutgoing b w fc).fans.get i).driveOn = (fc.fans.get i).driveOn ∧
    ((markOutgoing b w fc).fans.get i).duty = (fc.fans.get i).duty := by
  simp [markOutgoing, Fan.driveOn]

/-- The stage in force meets what is asked of it as long as stage and override stay. -/
theorem FanCtl.stageMet.congr {e : Env} {fc fd : FanCtl} (h : fc.stageMet e) (hs : fd.stage = fc.stage)
    (hb : fd.boost = fc.boost) : fd.stageMet e := by
  unfold FanCtl.stageMet at *
  rw [hs, hb]
  exact h

theorem selectRotated_path (e : Env) (w : List (Fin 4)) (c : Comms) : c.Path e (selectRotated e w c) := by
  refine Comms.Path.trans (.of_move (.fans _ (fun h => ?_) fun h => ?_)) (afterFanChange_path e c _)
  · exact applyWanted_dutiesMet _ _ fun i => by simpa using h.idle i
  · exact h.congr (by simp) (by simp)

/-- The fan controller with a new stage in force, before the fans' states have changed (R35, R41). -/
def FanCtl.atStage (e : Env) (n : Nat) (fc : FanCtl) : FanCtl :=
  { fc with stage := n, dwell := .running (1000 * e.settings.dwell) }

/-- The fan controller after a run of selection (R40, R41, R53). -/
def FanCtl.selected (e : Env) (fc : FanCtl) : FanCtl :=
  applyWanted e.settings (wantedSet e.settings fc) (settleMarks (wantedSet e.settings fc) fc)

/-- A run of selection leaves every fan with the duty of the stage in force, as long as the fans that stood had duty 0. -/
theorem FanCtl.selected_dutiesMet (e : Env) {fc : FanCtl}
    (h : ∀ i, (fc.fans.get i).driveOn = false → (fc.fans.get i).duty = 0) : (fc.selected e).dutiesMet e.settings :=
  applyWanted_dutiesMet _ _ fun i => by simpa using h i

theorem FanCtl.selected_stageMet {e : Env} {fc : FanCtl} (h : fc.stageMet e) : (fc.selected e).stageMet e :=
  h.congr (by simp [FanCtl.selected]) (by simp [FanCtl.selected])

theorem select_eq (e : Env) (c : Comms) : select e c = afterFanChange e c { c with fan := c.fan.selected e } := rfl

theorem select_path (e : Env) (c : Comms) : c.Path e (select e c) := by
  rw [select_eq]
  exact Comms.Path.trans (.of_move (.fans _ (fun h => FanCtl.selected_dutiesMet e h.idle) FanCtl.selected_stageMet))
    (afterFanChange_path e c _)

/-- A change of the stage in force is a selection at the new stage, then what follows the fans' changes and the report
event (R35). -/
theorem setStage_eq (e : Env) (n : Nat) (c : Comms) :
    setStage e n c = reportEvent e (afterFanChange e { c with fan := c.fan.atStage e n }
      { c with fan := (c.fan.atStage e n).selected e }) := rfl

/-- What follows the fans' changes in a change of the stage in force. -/
theorem selected_setStage_path (e : Env) (n : Nat) (c : Comms) :
    Comms.Path e { c with fan := (c.fan.atStage e n).selected e } (setStage e n c) := by
  rw [setStage_eq]
  exact (afterFanChange_path e _ _).trans (reportEvent_path e _)

/-- A new stage in force that meets what is asked of it. -/
theorem setStage_path {e : Env} {n : Nat} {c : Comms} (hn : c.fan.stageMet e → (c.fan.atStage e n).stageMet e) :
    c.Path e (setStage e n c) := by
  have hselect : Comms.Move e c { c with fan := (c.fan.atStage e n).selected e } :=
    .fans _ (fun h => FanCtl.selected_dutiesMet e h.idle) fun h => FanCtl.selected_stageMet (hn h)
  exact (Comms.Path.of_move hselect).trans (selected_setStage_path e n c)

/-- The score demand reaches every stage whose entry threshold ES reaches, at whatever stage it is worked out (R36). -/
theorem le_scoreDemand {cfg : Settings} (hord : thresholdsOrdered cfg) {es : Nat} {k : Fin 3}
    (hk : cfg.entry.get k ≤ es) (stage : Nat) (hlow : stage ≤ 4 ∨ k.val + 1 ≤ stage) :
    k.val + 1 ≤ scoreDemand cfg es stage := by
  obtain ⟨h01, h12, hexit⟩ := hord
  have hx0 := hexit 0
  have hx1 := hexit 1
  have hx2 := hexit 2
  have hreach : cfg.entry.get 0 ≤ es ∧ (1 ≤ k.val → cfg.entry.get 1 ≤ es) ∧ (2 ≤ k.val → cfg.entry.get 2 ≤ es) := by
    match k with
    | 0 => exact ⟨hk, by simp, by simp⟩
    | 1 => exact ⟨by omega, fun _ => hk, by simp⟩
    | 2 => exact ⟨by omega, fun _ => by omega, fun _ => hk⟩
  have hk3 := k.isLt
  match stage with
  | 0 | 1 | 2 | 3 => simp only [scoreDemand]; split_ifs <;> omega
  | 4 => exact hk3
  | n + 5 => simp only [scoreDemand]; omega

/-- Whatever the stage in force is, one of at least the demand worked out there is enough (R36, R37). -/
theorem stageMet_of_demand_le {e : Env} {fc fd : FanCtl} (hb : fd.boost = fc.boost) (h : demand e fc ≤ fd.stage) :
    fd.stageMet e := by
  intro _ hord
  unfold demand at h
  refine ⟨fun hg => by simpa [hg] using h, fun hg => ?_⟩
  simp only [hg, Bool.false_eq_true, if_false, max_le_iff] at h
  obtain ⟨⟨hscore, hfail⟩, hboost⟩ := h
  refine ⟨fun hi => by simpa [hi] using hfail, fun b hfb => ?_, fun k hk => ?_⟩
  · simpa [boostStageOf, ← hb, hfb] using hboost
  · by_cases hs : fc.stage ≤ 4
    · exact (le_scoreDemand hord hk _ (.inl hs)).trans hscore
    · exact (le_scoreDemand hord hk _ (.inr (by omega))).trans hscore

theorem reworkDemand_path (e : Env) (c : Comms) : c.Path e (reworkDemand e c) := by
  unfold reworkDemand
  split
  · exact .refl
  · split
    · exact setStage_path fun _ => stageMet_of_demand_le (fc := c.fan) rfl (Nat.le_refl _)
    · split
      · next hfall => exact setStage_path fun _ => stageMet_of_demand_le (fc := c.fan) rfl (Nat.le_sub_one_of_lt hfall.1)
      · exact .refl

/-! ## Supervision, rotation, locks, boost (R47 to R56) -/

/-- A fan's record changed and selection run: the record keeps its duty and whether the fan turns, or the fan stands at
duty 0. -/
theorem changeFan_path (e : Env) {i : Fin 4} {f : Fan → Fan} {c : Comms}
    (h : ((f (c.fanAt i)).driveOn = (c.fanAt i).driveOn ∧ (f (c.fanAt i)).duty = (c.fanAt i).duty) ∨
      (f (c.fanAt i)).duty = if (f (c.fanAt i)).driveOn then stageDuty e.settings c.fan.stage else 0) :
    c.Path e (changeFan e i f c) :=
  (Comms.Path.setFan i _ h).trans (select_path e _)

theorem enterFault_path (e : Env) (i : Fin 4) (k : FaultCause) (c : Comms) : c.Path e (enterFault e i k c) :=
  Comms.Path.trans (.countFan _) (changeFan_path e (.inr rfl))

/-- A spin-up check is one of a fan in SPINUP (R48). -/
theorem spinUpCheck_path (e : Env) {i : Fin 4} {c : Comms} (hs : (c.fanAt i).state = .spinup) :
    c.Path e (spinUpCheck e i c) := by
  have hrun : (c.fanAt i).run.driveOn = (c.fanAt i).driveOn ∧ (c.fanAt i).run.duty = (c.fanAt i).duty := by
    simp [Fan.run, Fan.driveOn, hs]
  unfold spinUpCheck
  split
  · split
    · exact changeFan_path e (.inl hrun)
    · exact .setFan i _ (.inl hrun)
  · exact enterFault_path e i _ c

theorem spinUpExpiry_path (e : Env) (i : Fin 4) (c : Comms) : c.Path e (spinUpExpiry e i c) := by
  unfold spinUpExpiry
  dsimp only
  split
  · next hs =>
    split
    · exact .setFan i _ (.inl ⟨rfl, rfl⟩)
    · exact spinUpCheck_path e hs.1
  · exact .refl

theorem failingCheck_path (e : Env) (i : Fin 4) (c : Comms) : c.Path e (failingCheck e i c) := by
  unfold failingCheck
  dsimp only
  split
  · refine Comms.Path.trans ?_ (enterFault_path e i _ _)
    exact .setFan i _ (.inl ⟨rfl, rfl⟩)
  · exact .setFan i _ (.inl ⟨rfl, rfl⟩)

theorem runningCheck_path (e : Env) (i : Fin 4) (c : Comms) : c.Path e (runningCheck e i c) := by
  unfold runningCheck
  dsimp only
  split
  · split
    · exact .setFan i _ (.inl ⟨rfl, rfl⟩)
    · exact failingCheck_path e i c
  · exact .refl

theorem Comms.fanAt_setFan_self (c : Comms) (i : Fin 4) (f : Fan) : (c.setFan i f).fanAt i = f := by
  simp [Comms.fanAt, Comms.setFan]

theorem holdExpiry_path (e : Env) (i : Fin 4) (c : Comms) : c.Path e (holdExpiry e i c) := by
  unfold holdExpiry
  dsimp only
  split
  · split
    · exact .setFan i _ (.inl ⟨rfl, rfl⟩)
    · next hs =>
      split
      · refine Comms.Path.trans (.setFan i _ ?_) (spinUpCheck_path e ?_)
        · exact .inl ⟨rfl, rfl⟩
        · rw [Comms.fanAt_setFan_self]; exact hs
      · exact .setFan i _ (.inl ⟨rfl, rfl⟩)
    · exact .setFan i _ (.inl ⟨rfl, rfl⟩)
  · exact .refl

theorem measure_path (e : Env) (i : Fin 4) (v : Nat) (c : Comms) :
    c.Path e (c.setFan i ((c.fanAt i).measure v)) := by
  refine .setFan i _ (.inl ?_)
  unfold Fan.measure
  split <;> exact ⟨rfl, rfl⟩

theorem dwellExpiry_path (e : Env) (c : Comms) : c.Path e (dwellExpiry e c) := by
  unfold dwellExpiry
  split
  · refine Comms.Path.trans ?_ (reworkDemand_path e _)
    exact .fanCtl _ rfl rfl rfl
  · exact .refl

theorem spacingExpiry_path (e : Env) (c : Comms) : c.Path e (spacingExpiry e c) := by
  have hstop : c.Path e { c with fan := { c.fan with spacing := .stopped } } := .fanCtl _ rfl rfl rfl
  unfold spacingExpiry
  dsimp only
  split
  · split
    · exact hstop.trans (localStarts_path e _)
    · exact (hstop.trans (localStarts_path e _)).trans (tryNotice_path e 3 _)
  · exact .refl

theorem rotate_path (e : Env) (c : Comms) : c.Path e (rotate e c) := by
  refine Comms.Path.trans ?_ (selectRotated_path e _ _)
  refine Comms.Path.trans ?_ (.countFan _)
  exact .fanCtl _ rfl rfl rfl

theorem rotationExpiry_path (e : Env) (c : Comms) : c.Path e (rotationExpiry e c) := by
  unfold rotationExpiry
  dsimp only
  split
  · split
    · refine Comms.Path.trans ?_ (rotate_path e _)
      exact .fanCtl _ rfl rfl rfl
    · exact .fanCtl _ rfl rfl rfl
  · exact .refl

theorem boostExpiry_path (e : Env) (c : Comms) : c.Path e (boostExpiry e c) := by
  unfold boostExpiry
  split
  · exact .refl
  · refine Comms.Path.trans ?_ (reworkDemand_path e _)
    refine Comms.Path.trans ?_ (.countFan _)
    exact .fans_of_same _ rfl (fun _ h => nomatch h) fun _ => ⟨rfl, rfl⟩

/-- The demand worked out again after a change of the fan controller that leaves its fans in step: a stage that the
change asks for is in force at once (R37, R38). -/
theorem reworkDemand_after_path (e : Env) {c : Comms} {fc : FanCtl}
    (hd : c.fan.dutiesMet e.settings → fc.dutiesMet e.settings) :
    c.Path e (reworkDemand e { c with fan := fc }) := by
  by_cases h : e.operating = true ∧ fc.stage < demand e fc
  · have hselect : Comms.Move e c { c with fan := (fc.atStage e (demand e fc)).selected e } :=
      .fans _ (fun hc => FanCtl.selected_dutiesMet e (hd hc).idle) fun _ =>
        FanCtl.selected_stageMet (stageMet_of_demand_le (fc := fc) rfl (Nat.le_refl _))
    have hraise : reworkDemand e { c with fan := fc } = setStage e (demand e fc) { c with fan := fc } := by
      unfold reworkDemand
      rw [if_neg (by simp [h.1]), if_pos h.2]
    rw [hraise]
    exact (Comms.Path.of_move hselect).trans (selected_setStage_path e (demand e fc) { c with fan := fc })
  · have hmove : Comms.Move e c { c with fan := fc } := by
      refine .fans _ hd fun _ ho => ?_
      have hle : demand e fc ≤ fc.stage := by simpa [ho] using h
      exact stageMet_of_demand_le (fc := fc) rfl hle ho
    exact (Comms.Path.of_move hmove).trans (reworkDemand_path e _)

theorem setBoost_path (e : Env) (stage minutes : Nat) (c : Comms) : c.Path e (setBoost e stage minutes c) :=
  reworkDemand_after_path e id

theorem lockFan_path (e : Env) (i : Fin 4) (c : Comms) : c.Path e (lockFan e i c) :=
  Comms.Path.trans (.countFan _) (changeFan_path e (.inr rfl))

/-- A lock or a fault ends of a fan that does not turn (R51, R55). -/
theorem freeFan_path (e : Env) {i : Fin 4} {c : Comms} (h : (c.fanAt i).driveOn = false) : c.Path e (freeFan e i c) :=
  changeFan_path e (.inl ⟨by rw [h]; rfl, rfl⟩)

end Sys2Proof.Machine
end

section
/-! The outcomes of a frame, the states of the link, the lists and the responder, as chains of moves of the bus side (R61
to R81, R95 to R97, R175). -/

namespace Sys2Proof.Machine

/-! ## Frames and their ends (R66 to R72, R86) -/

@[simp] theorem Link.onFlight_key (l : Link) {f : Frame → Frame} (h : ∀ x, (f x).key = x.key) :
    (l.onFlight f).queue.map Frame.key = l.queue.map Frame.key := by
  simp only [Link.onFlight, List.map_map]
  refine List.map_congr_left fun x _ => ?_
  simp only [Function.comp_apply]
  split
  · exact h x
  · rfl

theorem Comms.Path.removeFlight {e : Env} {c : Comms} (l : Link)
    (h : l.queue = c.link.queue.filter fun x => !x.inFlight) : c.Path e { c with link := l } := by
  have hleave : c.Path e { c with link := { c.link with queue := l.queue } } :=
    .of_move (.leave _ (h ▸ List.filter_sublist))
  exact hleave.trans (.link l rfl)

section
variable (e : Env) (c : Comms)

theorem presentFirst_path : c.Path e (presentFirst e c) := by
  unfold presentFirst
  split
  · refine Comms.Path.trans ?_ (.countFan _)
    exact .of_move (.leave _ (List.tail_sublist _))
  · exact .refl

theorem takeUpMark_path (p : Payload) : c.Path e (takeUpMark e p c) := by
  unfold takeUpMark
  split
  · refine Comms.Path.trans ?_ (reportEvent_path e _)
    exact .link _ rfl
  · exact .refl

theorem isolate_path : c.Path e (isolate e c) := by
  unfold isolate
  refine Comms.Path.trans ?_ (localStarts_path e _)
  refine Comms.Path.trans ?_ (.countLink _)
  refine Comms.Path.trans ?_ (withdrawNotice_path e _)
  exact .link _ rfl

theorem dropFlight_path (f : Frame) : c.Path e (dropFlight e f c) := by
  have hdrop : c.Path e (takeUpMark e f.payload (dropEnd e f.payload
      ((c.onLink fun l => { l.removeFlight with unheardDrops := nextUnheard f.unheard l.unheardDrops }).countLink fun k =>
        { k with framesDropped := bump k.framesDropped }))) := by
    refine Comms.Path.trans ?_ (takeUpMark_path e _ _)
    refine Comms.Path.trans ?_ (dropEnd_path e _ _)
    refine Comms.Path.trans ?_ (.countLink _)
    exact .removeFlight _ rfl
  unfold dropFlight
  dsimp only
  split
  · exact hdrop.trans (isolate_path e _)
  · exact hdrop

theorem Link.staysQueued_queue (f : Frame) (l : Link) : (l.staysQueued f).queue = l.queue := by
  unfold Link.staysQueued
  split <;> rfl

theorem failAttempt_path (u : Bool) : c.Path e (failAttempt e u c) := by
  unfold failAttempt
  split
  · exact .refl
  · dsimp only
    split
    · refine Comms.Path.trans ?_ (dropFlight_path e _ _)
      exact .link _ rfl
    · refine .link _ ?_
      rw [Link.staysQueued_queue]
      exact Link.onFlight_key _ fun _ => rfl

theorem countedFailure_path (u : Bool) (k : LinkCounters → LinkCounters) : c.Path e (countedFailure e u k c) := by
  unfold countedFailure
  split
  · exact Comms.Path.trans (.countLink _) (failAttempt_path e _ u)
  · exact .refl

theorem loseArbitration_path : c.Path e (loseArbitration c) := by
  unfold loseArbitration
  split
  · exact .refl
  · refine .link _ ?_
    simp only [Comms.onLink, Link.count, Link.staysQueued_queue]
    exact Link.onFlight_key _ fun _ => rfl

theorem dropOnSilent_path (f : Frame) : c.Path e (dropOnSilent e c f) :=
  Comms.Path.trans (.countLink _) (dropEnd_path e _ _)

end

theorem dropsOnSilent_path (e : Env) : ∀ (fs : List Frame) (c : Comms), c.Path e (fs.foldl (dropOnSilent e) c)
  | [], _ => .refl
  | f :: fs, c => (dropOnSilent_path e c f).trans (dropsOnSilent_path e fs _)

section
variable (e : Env) (c : Comms)

theorem enterSilent_path : c.Path e (enterSilent e c) := by
  unfold enterSilent
  refine Comms.Path.trans ?_ (localStarts_path e _)
  refine Comms.Path.trans ?_ (dropsOnSilent_path e _ _)
  have hempty : c.Path e { c with link := { c.link with queue := [] } } := .of_move (.leave _ (List.nil_sublist _))
  exact hempty.trans (.link _ rfl)

theorem lateCollision_path : c.Path e (lateCollision e c) := by
  unfold lateCollision
  split
  · exact .refl
  · refine Comms.Path.trans (.countLink fun k => { k with lateCollisions := bump k.lateCollisions }) ?_
    dsimp only
    split
    · exact failAttempt_path e _ false
    · split
      · refine Comms.Path.trans ?_ (enterSilent_path e _)
        exact .link _ rfl
      · refine Comms.Path.trans ?_ (failAttempt_path e _ false)
        exact .link _ rfl

theorem permitted_path (i : Fin 4) : c.Path e (permitted e i c) := by
  unfold permitted
  split
  · exact (startFan_path e c i).trans (.countFan _)
  · exact .refl

/-! ## The start-notice list (R95 to R97) -/

theorem enterNotice_path (now u f w : Nat) : c.Path e (enterNotice now u f w c) := by
  unfold enterNotice
  dsimp only
  split
  · next hany =>
    refine .of_move (.notices _ fun h => ?_)
    obtain ⟨n, hn, hof⟩ := List.any_eq_true.mp hany
    have : (c.notices.filter fun n => !n.isOf u f).length < c.notices.length :=
      List.length_filter_lt_length_iff_exists.mpr ⟨n, hn, by simp [hof]⟩
    simp only [List.length_append, List.length_singleton]
    omega
  · split
    · next hroom =>
      refine .of_move (.notices _ fun _ => ?_)
      simpa [Config.noticePlaces] using hroom
    · refine Comms.Path.trans (.of_move (.notices _ fun h => ?_)) (.countPeer _)
      simp only [List.length_append, List.length_singleton, List.length_drop]
      next hfull => simp only [Config.noticePlaces] at hfull; omega

theorem noticeTaken_path (now u f w : Nat) : c.Path e (noticeTaken now u f w c) :=
  Comms.Path.trans (.countPeer _) (enterNotice_path e _ _ _ _ _)

theorem noticeExpiry_path (u f : Nat) : c.Path e (noticeExpiry e u f c) := by
  unfold noticeExpiry
  split
  · refine Comms.Path.trans ?_ (tryNotice_path e 3 _)
    exact .of_move (.notices _ fun h => (List.length_filter_le ..).trans h)
  · exact .refl

/-! ## Deliveries (R44, R71, R80) -/

theorem deliveredEnd_path (p : Payload) : c.Path e (deliveredEnd e p c) := by
  cases p with
  | report => exact takeUpMark_path e c _
  | startNotice i =>
    refine Comms.Path.trans ?_ (resumeStarts_path e _)
    refine Comms.Path.trans ?_ (permitted_path e _ i)
    exact enterNotice_path e c ..
  | transit _ _ _ => exact .countPeer _
  | reply _ => exact .freeService

theorem delivered_path (f : Frame) : c.Path e (delivered e f c) := by
  have hend : c.Path e (deliveredEnd e f.payload ((c.onLink Link.afterDelivery).countLink fun k =>
      { k with framesDelivered := bump k.framesDelivered })) := by
    refine Comms.Path.trans ?_ (deliveredEnd_path e _ _)
    refine Comms.Path.trans ?_ (.countLink _)
    exact .removeFlight _ rfl
  unfold delivered
  dsimp only
  split
  · exact hend.trans (resumeStarts_path e _)
  · exact hend

/-! ## The bus, the timers and the states of the link (R61, R73 to R79, R87, R88) -/

theorem busBecomesFree_path : c.Path e (busBecomesFree c) := by
  unfold busBecomesFree
  split
  · exact .link _ rfl
  · exact .refl

theorem beginStretch_path : c.Path e (beginStretch c) := by
  unfold beginStretch
  split
  · exact .refl
  · exact .link _ rfl

theorem stretchExpiry_path : c.Path e (stretchExpiry c) := by
  unfold stretchExpiry
  split
  · exact .link _ rfl
  · exact .refl

theorem Link.pretendFlight_key (l : Link) : l.pretendFlight.queue.map Frame.key = l.queue.map Frame.key := by
  unfold Link.pretendFlight
  split
  · rfl
  · next hq => rw [hq]; rfl

theorem stuckAgain_path : c.Path e (stuckAgain e c) := by
  unfold stuckAgain
  split
  · exact .refl
  · split
    · exact presentFirst_path e c
    · exact Comms.Path.trans (.link _ (Link.pretendFlight_key _)) (failAttempt_path e _ true)

theorem lineReset_path : c.Path e (lineReset e c) := by
  have hreset : c.Path e (c.onLink Link.resetLine) := .link _ rfl
  unfold lineReset
  split
  · exact .link _ rfl
  · split
    · exact hreset.trans (failAttempt_path e _ true)
    · split
      · exact hreset.trans (stuckAgain_path e _)
      · exact hreset

theorem stuckExpiry_path : c.Path e (stuckExpiry e c) := by
  unfold stuckExpiry
  refine Comms.Path.trans (Comms.Path.trans ?_ (lineReset_path e _)) (.link _ rfl)
  exact .countLink _

theorem joinExpiry_path : c.Path e (joinExpiry e c) := by
  unfold joinExpiry
  split
  · refine Comms.Path.trans (Comms.Path.trans ?_ (periodicReport_path e _)) (resumeStarts_path e _)
    exact .link _ rfl
  · exact .refl

theorem reportExpiry_path : c.Path e (reportExpiry e c) := by
  unfold reportExpiry
  split
  · refine Comms.Path.trans ?_ (periodicReport_path e _)
    exact .link _ rfl
  · exact .refl

theorem reportSpacingExpiry_path : c.Path e (reportSpacingExpiry e c) := by
  have hstop : c.Path e (c.onLink fun l => { l with spacing := .stopped, eventPending := false }) := .link _ rfl
  unfold reportSpacingExpiry
  dsimp only
  split
  · split
    · next h =>
      simp only [Bool.and_eq_true, Bool.not_eq_true'] at h
      exact hstop.trans (offerReport_path h.2)
    · exact hstop
  · exact .refl

theorem lapseLate_path (now : Nat) : c.Path e (c.onLink (Link.lapseLate now)) := .link _ rfl

/-! ## The responder (R175) -/

theorem enterRequest_path (r : Request) : c.Path e (c.enterRequest r) := by
  unfold Comms.enterRequest
  split
  · next h =>
    refine .service _ fun _ => ?_
    simp only [Service.hasPlace, Config.servicePlaces] at h
    simpa using h
  · exact .countLink _

end

end Sys2Proof.Machine
end

section
/-! What the station can do, as chains of moves of its blocks. The rules that hold of every step are checked against the
moves; an operation that breaks such a rule on its way and mends it again is one move. -/

namespace Sys2Proof.Machine

/-! ## The moves -/

/-- The fume unit keeps its scores and sums, as far as ES rests on them (R28 to R32). -/
def Fume.Agrees (f g : Fume) : Prop :=
  f.fs = g.fs ∧ f.terms = g.terms ∧ f.es0 = g.es0 ∧ f.es = g.es ∧ f.movement = g.movement ∧ f.q = g.q

/-- Each gas's scores lie in 0 to 1023 (R28). -/
def Fume.gasesInRange (f : Fume) : Prop :=
  ∀ g : Gas, (f.gases.get g).shortScore ≤ 1023 ∧ (f.gases.get g).exposureScore ≤ 1023

/-- One plain move of the station: each keeps every rule that holds of every step. -/
inductive State.PlainMove (s : State) : State → Prop
  | tick : PlainMove s s.tick
  | moment (n : Nat) (q : List Instr) : PlainMove s { s with moment := n, pending := q }
  | heads (g : GasFront) (sound : s.headsSound → ({ s with gas := g } : State).headsSound) :
      PlainMove s { s with gas := g }
  | comms (c : Comms) (path : s.comms.Path s.env c) : PlainMove s { s with comms := c }
  | fume (f : Fume) (same : f.Agrees s.fume) (valid : ∀ g, (f.gases.get g).valid = (s.fume.gases.get g).valid)
      (scores : s.fume.gasesInRange → f.gasesInRange) : PlainMove s { s with fume := f }
  | scanner (x : Scanner) (queues : ({ s with scanner := x } : State).queueLanes = s.queueLanes) :
      PlainMove s { s with scanner := x }
  | tracker (x : Tracker) : PlainMove s { s with tracker := x }
  | zone (z : ZoneCtl) (state : z.state = s.zone.state) : PlainMove s { s with zone := z }
  | guide (g : Guide) (advert : g.advGeneral = s.guide.advGeneral ∧ g.advAccessible = s.guide.advAccessible ∧
      g.advOffer = s.guide.advOffer) : PlainMove s { s with guide := g }
  | advert (g : Guide) (advert : g.advGeneral = s.advert.general ∧ g.advAccessible = s.advert.accessible ∧
      g.advOffer = s.advert.offer) : PlainMove s { s with guide := g }
  | lamps (x : Lamps) (sound : s.lampsSound → ({ s with lamps := x } : State).lampsSound) :
      PlainMove s { s with lamps := x }
  | peers (x : Tbl 8 Neighbour) : PlainMove s { s with peers := x }
  | store (x : Store) : PlainMove s { s with store := x }

/-- One move of the station; `full` says whether the moves are allowed that break a rule on their way and mend it. -/
inductive State.Move (full : Bool) (s : State) : State → Prop
  | plain {t : State} (h : s.PlainMove t) : Move full s t
  /-- the validity of a gas changes, and the demand is worked out again -/
  | validity (hf : full = true) (f : Fume) (same : f.Agrees s.fume) (scores : s.fume.gasesInRange → f.gasesInRange) :
      Move full s ({ s with fume := f } : State).reworkDemand
  /-- an addend of ES changes, and ES is recomputed -/
  | effective (hf : full = true) (f : Fume) (gases : f.gases = s.fume.gases) (fs : f.fs = s.fume.fs)
      (q : f.q = s.fume.q) : Move full s ({ s with fume := f } : State).reformEs
  | fumeScore (hf : full = true) : Move full s s.reformFs
  /-- a lane's QUEUE flag changes, and is presented -/
  | queues (hf : full = true) (x : Scanner) : Move full s ({ s with scanner := x } : State).presentQueue
  | setZone (hf : full = true) (st : ZoneState) : Move full s (s.setZone st)

/-- A chain of moves of the station. -/
def State.Path (full : Bool) : State → State → Prop := Relation.ReflTransGen (State.Move full)

namespace State.Path

variable {full : Bool} {s t u : State}

theorem refl : s.Path full s := Relation.ReflTransGen.refl

theorem trans (h : s.Path full t) (k : t.Path full u) : s.Path full u := Relation.ReflTransGen.trans h k

/-- The last part of a chain, and what goes before it. -/
theorem after (k : t.Path full u) (h : s.Path full t) : s.Path full u := h.trans k

theorem of_move (h : State.Move full s t) : s.Path full t := Relation.ReflTransGen.single h

theorem of_plain (h : s.PlainMove t) : s.Path full t := of_move (.plain h)

/-- What every move keeps, every chain keeps. -/
theorem keeps {P : State → Prop} (hP : ∀ {s t : State}, State.Move full s t → P s → P t) (h : s.Path full t)
    (hs : P s) : P t := by
  induction h with
  | refl => exact hs
  | tail _ hmove ih => exact hP hmove ih

/-- What every plain move keeps, every chain of plain moves keeps. -/
theorem keeps_plain {P : State → Prop} (hP : ∀ {s t : State}, s.PlainMove t → P s → P t) (h : s.Path false t)
    (hs : P s) : P t :=
  h.keeps (fun hmove => match hmove with
    | .plain h => hP h) hs

theorem onComms (f : Env → Comms → Comms) (h : s.comms.Path s.env (f s.env s.comms)) : s.Path full (s.onComms f) :=
  of_plain (.comms _ h)

theorem foldl {α : Type} {f : State → α → State} (h : ∀ (s : State) a, s.Path full (f s a)) :
    ∀ (l : List α) (s : State), s.Path full (l.foldl f s)
  | [], _ => refl
  | a :: l, s => (h s a).trans (foldl h l _)

end State.Path

/-! ## Lamps (R144 to R148) -/

section
variable {full : Bool} (s : State)

theorem State.forced_iff : s.forced = true ↔ s.operating = false ∨ s.zone.state = .alarm ∨ s.zone.state = .purge := by
  simp only [State.forced, State.grave, Bool.or_eq_true, Bool.not_eq_true']
  cases s.zone.state <;> simp [ZoneState.grave]

/-- Every target is as the model's own targetOf forms it (R147). -/
theorem State.lampsSound_iff : s.lampsSound ↔ ∀ k, (s.lamps.channels.get k).target =
    targetOf s.forced (s.settings.lamps.get k) (s.lamps.channels.get k) := by
  have hlive (x : PresenceTimer) : (x.isLive = true) = (x ≠ .stopped) := by cases x <;> simp [PresenceTimer.isLive]
  unfold State.lampsSound targetOf freeTarget
  simp only [← State.forced_iff, Bool.and_eq_true, hlive, Config.top]

variable {s} in
/-- A channel whose target is re-formed has the target that R147 gives it. -/
theorem State.lampsSound_of_retarget {x : Lamps} (hs : s.lampsSound)
    (h : ∀ k, x.channels.get k = (x.channels.get k).retarget s.forced (s.settings.lamps.get k) ∨
      x.channels.get k = s.lamps.channels.get k) :
    ({ s with lamps := x } : State).lampsSound := by
  rw [State.lampsSound_iff] at hs ⊢
  intro k
  obtain hk | hk := h k
  · rw [show (x.channels.get k).target = _ from congrArg Channel.target hk]
    rfl
  · rw [show ({ s with lamps := x } : State).lamps.channels.get k = _ from hk]
    exact hs k

theorem State.onChannel_path (k : Fin 8) (f : Channel → Channel) : s.Path full (s.onChannel k f) := by
  refine .of_plain (.lamps _ fun hs => State.lampsSound_of_retarget hs fun j => ?_)
  by_cases hj : j = k
  · subst hj; left; simp [Channel.retarget, targetOf, freeTarget]
  · right; exact Tbl.get_modify_ne _ _ hj

theorem State.countLamp_path (f : LampCounters → LampCounters) : s.Path full (s.countLamp f) :=
  .of_plain (.lamps _ id)

theorem State.presenceStart_path (k : Option (Fin 8)) : s.Path full (s.presenceStart k) := by
  cases k with
  | none => exact .refl
  | some k => exact (s.onChannel_path k _).trans (countLamp_path _ _)

theorem State.presenceEnd_path (k : Option (Fin 8)) : s.Path full (s.presenceEnd k) := by
  cases k with
  | none => exact .refl
  | some k => exact (s.onChannel_path k _).trans (countLamp_path _ _)

theorem State.bayPresence_path (k : Option (Fin 8)) : s.Path full (s.bayPresence k) := by
  cases k with
  | none => exact .refl
  | some k => exact (s.onChannel_path k _).trans (countLamp_path _ _)

theorem State.presentLeadIn_path (k : Fin 8) (d : Bool) : s.Path full (s.presentLeadIn k d) := by
  unfold State.presentLeadIn
  dsimp only
  split
  · exact (s.onChannel_path k _).trans (countLamp_path _ _)
  · exact s.onChannel_path k _

/-! ## Guidance (R130 to R139) -/

theorem State.reworkDemand_path : s.Path full s.reworkDemand := .onComms _ (Machine.reworkDemand_path _ _)

theorem State.reportEvent_path : s.Path full s.reportEvent := .onComms _ (Machine.reportEvent_path _ _)

theorem State.reformCandidate_path (p : Fin 4) : s.Path full (s.reformCandidate p) := by
  unfold State.reformCandidate
  split
  · exact .of_plain (.guide _ ⟨rfl, rfl, rfl⟩)
  · dsimp only
    split <;> exact .of_plain (.guide _ ⟨rfl, rfl, rfl⟩)

@[simp] theorem Guide.startRecord_advert (g : Guide) :
    g.startRecord.advGeneral = g.advGeneral ∧ g.startRecord.advAccessible = g.advAccessible ∧
    g.startRecord.advOffer = g.advOffer := by
  unfold Guide.startRecord
  split <;> exact ⟨rfl, rfl, rfl⟩

theorem State.reformSigns_path : s.Path full s.reformSigns := .of_plain (.guide _ (Guide.startRecord_advert _))

theorem State.reformAdvert_path : s.Path full s.reformAdvert := by
  unfold State.reformAdvert
  dsimp only
  split
  · exact State.Path.trans (.of_plain (.advert _ ⟨rfl, rfl, rfl⟩)) (State.reportEvent_path _)
  · exact .of_plain (.advert _ ⟨rfl, rfl, rfl⟩)

theorem State.reformGuide_path : s.Path full s.reformGuide :=
  (reformAdvert_path _).after ((reformSigns_path _).after (.of_plain (.guide _ ⟨rfl, rfl, rfl⟩)))

theorem State.presentCounts_path : s.Path full s.presentCounts :=
  (reformGuide_path _).after (.of_plain (.guide _ ⟨rfl, rfl, rfl⟩))

theorem State.presentEntry_path (n : Fin 8) : s.Path full (s.presentEntry n) := by
  unfold State.presentEntry
  split
  · exact .refl
  · exact (s.reformCandidate_path _).trans (reformGuide_path _)

/-! ## Bays and arrivals (R107, R119 to R127) -/

/-- A move of the bay string that leaves the lanes. -/
theorem State.Path.bays (x : Scanner) (h : x.lanes = s.scanner.lanes) : s.Path full { s with scanner := x } :=
  .of_plain (.scanner x (by simp [State.queueLanes, h]))

theorem State.countBay_path (f : BayCounters → BayCounters) : s.Path full (s.countBay f) := .bays s _ rfl

theorem State.setBay_path (b : Fin 48) (f : Bay → Bay) : s.Path full (s.setBay b f) := .bays s _ rfl

theorem State.changeBay_path (b : Fin 48) (f : Bay → Bay) : s.Path full (s.changeBay b f) := by
  unfold State.changeBay
  dsimp only
  split
  · exact s.setBay_path b f
  · exact (s.setBay_path b f).trans (presentCounts_path _)

theorem State.setList_path (l : List Arrival) : s.Path full (s.setList l) := .of_plain (.tracker _)

theorem State.countArrival_path (f : ArrivalCounters → ArrivalCounters) : s.Path full (s.countArrival f) :=
  .of_plain (.tracker _)

theorem State.reformLeadInOf_path (k : Fin 8) : s.Path full (s.reformLeadInOf k) := by
  unfold State.reformLeadInOf
  dsimp only
  split
  · exact .refl
  · exact (State.presentLeadIn_path _ k _).after (.of_plain (.tracker _))

theorem State.reformLeadIn_path : s.Path full s.reformLeadIn := .foldl State.reformLeadInOf_path _ s

theorem State.holdRequest_path (b : Fin 48) : s.Path full (s.holdRequest b).state := by
  unfold State.holdRequest
  split <;> dsimp only
  · exact (countBay_path _ _).after (s.changeBay_path b _)
  · exact s.countBay_path _

theorem State.holdPass_path (b : Fin 48) : s.Path full (s.holdPass b) := by
  unfold State.holdPass
  dsimp only
  split
  · exact (reformLeadIn_path _).after ((setList_path _ _).after (s.holdRequest_path b))
  · exact s.holdRequest_path b

theorem holdPasses_path : ∀ (n : Nat) (s : State), s.Path full (holdPasses n s)
  | 0, _ => .refl
  | n + 1, s => by
    unfold holdPasses
    split
    · exact .refl
    · split
      · exact .refl
      · exact (s.holdPass_path _).trans (holdPasses_path n _)

theorem State.holdRound_path : s.Path full s.holdRound := holdPasses_path _ s

theorem State.release_path (b : Fin 48) : s.Path full (s.release b) := by
  unfold State.release
  split
  · exact (s.changeBay_path b _).trans (holdRound_path _)
  · exact .refl

theorem State.endHold_path (a : Arrival) : s.Path full (s.endHold a) := by
  unfold State.endHold
  split
  · exact .refl
  · exact s.reformLeadIn_path.trans (release_path _ _)

theorem State.removeOldest_path (f : ArrivalCounters → ArrivalCounters) : s.Path full (s.removeOldest f) := by
  unfold State.removeOldest
  split
  · exact .refl
  · exact (endHold_path _ _).after ((countArrival_path _ _).after (s.setList_path _))

theorem State.evict_path : s.Path full s.evict := by
  unfold State.evict
  split
  · exact s.removeOldest_path _
  · exact .refl

theorem State.addArrival_path (src : Source) : s.Path full (s.addArrival src) :=
  (holdRound_path _).after ((countArrival_path _ _).after ((setList_path _ _).after s.evict_path))

theorem State.passOn_path : s.Path full s.passOn := s.removeOldest_path _

theorem State.parking_path (b : Fin 48) : s.Path full (s.parking b) := by
  unfold State.parking
  split
  · exact (reformLeadIn_path _).after ((countArrival_path _ _).after (s.setList_path _))
  · exact s.removeOldest_path _

theorem State.holdLost_path (b : Fin 48) : s.Path full (s.holdLost b) :=
  (holdRound_path _).after ((reformLeadIn_path _).after ((countArrival_path _ _).after (s.setList_path _)))

theorem State.arrivalsZoneChange_path (w : Bool) : s.Path full (s.arrivalsZoneChange w) := by
  unfold State.arrivalsZoneChange
  split
  · exact .refl
  · split
    · exact (State.Path.foldl State.release_path _ _).after ((reformLeadIn_path _).after
        ((countArrival_path _ _).after (s.setList_path _)))
    · exact s.holdRound_path

/-! ## Zone state and scores (R156 to R159, R20 to R32) -/

theorem State.Path.zone (z : ZoneCtl) (h : z.state = s.zone.state) : s.Path full { s with zone := z } := .of_plain (.zone z h)

theorem State.evaluate_path : s.Path true s.evaluate := by
  unfold State.evaluate
  split
  · exact .refl
  · exact .of_move (.setZone rfl _)

theorem State.zoneTakesFs_path : s.Path true s.zoneTakesFs := (evaluate_path _).after (.zone s _ rfl)

theorem State.zoneTakesGas_path (g : Gas) : s.Path true (s.zoneTakesGas g) := (evaluate_path _).after (.zone s _ rfl)

theorem State.ventSettle_path : s.Path true s.ventSettle := by
  unfold State.ventSettle
  split
  · exact (evaluate_path _).after (.zone s _ rfl)
  · exact .refl

theorem State.movementEvent_path : s.Path true s.movementEvent := .of_move (.effective rfl _ rfl rfl rfl)

theorem State.presentTerm_path (n : Fin 8) : s.Path true (s.presentTerm n) := .of_move (.effective rfl _ rfl rfl rfl)

theorem State.presentNeighbour_path (n : Fin 8) : s.Path true (s.presentNeighbour n) :=
  (presentEntry_path _ n).after (s.presentTerm_path n)

theorem State.presentValidity_path (g : Gas) (was : Bool) : s.Path true (s.presentValidity g was) := by
  unfold State.presentValidity
  split
  · exact .refl
  · exact (zoneTakesGas_path _ g).after s.reworkDemand_path

theorem scoreOf_le (index limit : Nat) : scoreOf index limit ≤ 1023 := Nat.min_le_left ..

theorem Fume.gasesInRange.set {f : Fume} (h : f.gasesInRange) (g : Gas) {y : GasFume}
    (hy : y.shortScore ≤ 1023 ∧ y.exposureScore ≤ 1023) :
    ({ f with gases := f.gases.set g y } : Fume).gasesInRange := by
  intro k
  by_cases hk : k = g
  · subst hk; rw [PerGas.get_set_self]; exact hy
  · rw [PerGas.get_set_ne _ _ hk]; exact h k

/-- One gas at a gas update: its scores stay in range, and the fume unit's own figures stay (R22 to R24). -/
theorem State.updateGas_fume (g : Gas) : (s.updateGas g).fume.Agrees s.fume ∧
    (s.fume.gasesInRange → (s.updateGas g).fume.gasesInRange) ∧ s.updateGas g = { s with fume := (s.updateGas g).fume } := by
  unfold State.updateGas
  split
  · dsimp only
    split
    · refine ⟨⟨rfl, rfl, rfl, rfl, rfl, rfl⟩, fun h => h.set g ⟨scoreOf_le .., (h g).2⟩, rfl⟩
    · refine ⟨⟨rfl, rfl, rfl, rfl, rfl, rfl⟩, fun h => h.set g ?_, rfl⟩
      unfold GasFume.skippedUpdate
      split <;> exact h g
  · exact ⟨⟨rfl, rfl, rfl, rfl, rfl, rfl⟩, id, rfl⟩

theorem Fume.Agrees.trans {f g h : Fume} (k : f.Agrees g) (l : g.Agrees h) : f.Agrees h := by
  obtain ⟨a, b, c, d, e, m⟩ := k
  obtain ⟨a', b', c', d', e', m'⟩ := l
  exact ⟨a.trans a', b.trans b', c.trans c', d.trans d', e.trans e', m.trans m'⟩

/-- A gas update: both gases updated, and the changes of validity presented one after the other (R20, R22, R28). -/
theorem State.gasUpdate_path : s.Path true s.gasUpdate := by
  obtain ⟨hagree1, hrange1, heq1⟩ := s.updateGas_fume .co
  obtain ⟨hagree2, hrange2, heq2⟩ := (s.updateGas .co).updateGas_fume .no2
  have heq : (s.updateGas .co).updateGas .no2 = { s with fume := ((s.updateGas .co).updateGas .no2).fume } := by
    rw [heq2, heq1]
  have hagree := hagree2.trans hagree1
  have hrange := hrange2 ∘ hrange1
  unfold State.gasUpdate
  refine (State.Path.of_move (.fumeScore rfl)).after ?_
  by_cases hco : (((s.updateGas .co).updateGas .no2).fume.gases.get .co).valid = s.fume.gases.co.valid
  · have hskip : ((s.updateGas .co).updateGas .no2).presentValidity .co s.fume.gases.co.valid =
        (s.updateGas .co).updateGas .no2 := if_pos hco
    rw [hskip]
    by_cases hno2 : (((s.updateGas .co).updateGas .no2).fume.gases.get .no2).valid = s.fume.gases.no2.valid
    · refine (State.presentValidity_path _ _ _).after ?_
      rw [heq]
      refine .of_plain (.fume _ hagree (fun g => ?_) hrange)
      cases g
      · exact hco
      · exact hno2
    · rw [State.presentValidity, if_neg hno2]
      refine (State.zoneTakesGas_path _ _).after ?_
      rw [heq]
      exact .of_move (.validity rfl _ hagree hrange)
  · rw [State.presentValidity.eq_1 _ .co, if_neg hco]
    refine (State.presentValidity_path _ _ _).after ((State.zoneTakesGas_path _ _).after ?_)
    rw [heq]
    exact .of_move (.validity rfl _ hagree hrange)

theorem State.closeGas_path (g : Gas) : s.Path true (s.closeGas g) := by
  unfold State.closeGas
  split
  · refine .of_plain (.fume _ ⟨rfl, rfl, rfl, rfl, rfl, rfl⟩ (fun k => ?_) fun h => h.set g ⟨(h g).1, ?_⟩)
    · by_cases hk : k = g
      · subst hk; simp [Fume.count, PerGas.get_set_self, GasFume.closeMinute]
      · simp [Fume.count, PerGas.get_set_ne _ _ hk]
    · unfold GasFume.closeMinute
      dsimp only
      split
      · exact scoreOf_le ..
      · exact Nat.zero_le _
  · exact .refl

theorem State.closeMinute_path : s.Path true s.closeMinute :=
  (State.Path.of_move (.fumeScore rfl)).after ((closeGas_path _ .no2).after (s.closeGas_path .co))

end

end Sys2Proof.Machine
end

section
/-! The heads at rest and their cover through every change of the gas front end (R1, R9 to R16). -/

namespace Sys2Proof.Machine

/-! ## What holds of the heads -/

/-- A head configured absent is ABSENT and is not converted (R1), and a head under a zero conversion is at rest (R10). -/
def GasFront.Fits (cfg : Settings) (g : GasFront) : Prop :=
  ∀ h, ((cfg.heads.get h).present = false → (g.heads.get h).state = .absent ∧
      g.converter.samples h = false ∧ g.converter.zeroes h = false) ∧
    (g.converter.zeroes h = true → (g.heads.get h).state = .zeroing)

/-- Every head at rest is covered, and the zone is in NORMAL or DIVERT; `low` says that FS lets the one head of a gas
rest (R9, R13, R14). -/
def GasFront.RestsCovered (cfg : Settings) (grave : Bool) (low : Prop) (g : GasFront) : Prop :=
  ∀ h, (g.heads.get h).state = .zeroing → grave = false ∧
    ((g.heads.get (partner h)).state = .active ∨
      (cfg.heads.get h).present = true ∧ (cfg.heads.get (partner h)).present = false ∧ low)

/-- What holds of the heads, with `low` in the place of FS below 128. -/
def GasFront.Sound (cfg : Settings) (grave : Bool) (low : Prop) (g : GasFront) : Prop :=
  g.Fits cfg ∧ g.RestsCovered cfg grave low

theorem State.headsSound_iff (s : State) :
    s.headsSound ↔ s.gas.Sound s.settings s.grave (s.fume.fs < 128) := by
  constructor
  · intro h
    exact ⟨fun k => ⟨(h k).1, (h k).2.1⟩, fun k => (h k).2.2⟩
  · intro h k
    exact ⟨(h.1 k).1, (h.1 k).2, h.2 k⟩

theorem partner_partner (h : Fin 4) : partner (partner h) = h := by
  revert h; decide

/-! ## Changes of one head and of the converter -/

section
variable {cfg : Settings} {grave : Bool} {low : Prop} {g : GasFront}

theorem GasFront.Fits.present (hg : g.Fits cfg) {h : Fin 4} (hs : (g.heads.get h).state ≠ .absent) :
    (cfg.heads.get h).present = true := by
  by_contra hp
  exact hs ((hg h).1 (by simpa using hp)).1

theorem GasFront.setHead_get_self (h : Fin 4) (x : Head) : (g.setHead h x).heads.get h = x := Tbl.get_set_self ..

theorem GasFront.setHead_get_ne {h k : Fin 4} (x : Head) (hk : k ≠ h) : (g.setHead h x).heads.get k = g.heads.get k :=
  Tbl.get_set_ne _ _ hk

/-- Only the states of the heads and the head under conversion matter. -/
theorem GasFront.Sound.congr {g' : GasFront} (hg : g.Sound cfg grave low)
    (hstate : ∀ k, (g'.heads.get k).state = (g.heads.get k).state) (hconv : g'.converter = g.converter) :
    g'.Sound cfg grave low := by
  obtain ⟨hfits, hrest⟩ := hg
  refine ⟨fun k => ?_, fun k => ?_⟩
  · rw [hstate, hconv]; exact hfits k
  · rw [hstate, hstate]; exact hrest k

/-- A head's record moves and its state stays. -/
theorem GasFront.Sound.setHead_same (hg : g.Sound cfg grave low) {h : Fin 4} {x : Head}
    (hx : x.state = (g.heads.get h).state) : (g.setHead h x).Sound cfg grave low := by
  refine hg.congr (fun k => ?_) rfl
  by_cases hk : k = h
  · subst hk; rw [setHead_get_self, hx]
  · rw [setHead_get_ne _ hk]

theorem GasFront.Sound.idle (hg : g.Sound cfg grave low) : ({ g with converter := .idle } : GasFront).Sound cfg grave low :=
  ⟨fun h => ⟨fun hp => ⟨((hg.1 h).1 hp).1, rfl, rfl⟩, fun hz => nomatch hz⟩, hg.2⟩

/-- A present head that is not under a zero conversion enters a state other than rest; where it leaves ACTIVE, its
partner is not at rest. -/
theorem GasFront.Sound.setHead (hg : g.Sound cfg grave low) {h : Fin 4} {x : Head}
    (hold : (g.heads.get h).state ≠ .absent) (hx : x.state ≠ .zeroing) (hz : g.converter.zeroes h = false)
    (hcover : x.state = .active ∨ (g.heads.get h).state ≠ .active ∨ (g.heads.get (partner h)).state ≠ .zeroing) :
    (g.setHead h x).Sound cfg grave low := by
  obtain ⟨hfits, hrest⟩ := hg
  have hpresent := hfits.present hold
  refine ⟨fun k => ?_, fun k hk => ?_⟩
  · by_cases hkh : k = h
    · subst hkh
      exact ⟨fun hp => absurd hpresent (by simp [hp]), fun hzero => absurd hz (ne_of_eq_of_ne hzero (by decide))⟩
    · rw [setHead_get_ne _ hkh]; exact hfits k
  · have hkh : k ≠ h := by
      rintro rfl; rw [setHead_get_self] at hk; exact hx hk
    rw [setHead_get_ne _ hkh] at hk
    obtain ⟨hgrave, hpartner⟩ := hrest k hk
    refine ⟨hgrave, ?_⟩
    by_cases hph : partner k = h
    · subst hph
      rw [partner_partner] at hcover
      rw [setHead_get_self]
      obtain hactive | ⟨-, habsent, -⟩ := hpartner
      · obtain hxa | hna | hnz := hcover
        · exact .inl hxa
        · exact absurd hactive hna
        · exact absurd hk hnz
      · exact absurd hpresent (by simp [habsent])
    · rw [setHead_get_ne _ hph]; exact hpartner

/-! ## The arbiter (R5, R11) -/

theorem requestOf_active {h : Fin 4} {l : Level} (hr : requestOf cfg g h = some l) (hl : l ≠ .zero) :
    (g.heads.get h).state = .active := by
  unfold requestOf at hr
  dsimp only at hr
  split at hr
  · assumption
  · split at hr
    · exact absurd (Option.some.inj hr).symm hl
    · cases hr
  all_goals cases hr

theorem requestOf_zero {h : Fin 4} (hr : requestOf cfg g h = some .zero) : (g.heads.get h).state = .zeroing := by
  unfold requestOf at hr
  dsimp only at hr
  split at hr
  · split at hr
    · cases hr
    · split at hr
      · cases hr
      · split_ifs at hr <;> cases hr
  · assumption
  all_goals cases hr

theorem GasFront.requestOf_of_firstAt {l : Level} {h : Fin 4} (hf : g.firstAt cfg l = some h) :
    requestOf cfg g h = some l := by
  simpa using List.find?_some hf

/-- A grant is of a head that stands a request at the level granted (R5). -/
theorem GasFront.requestOf_of_nextGrant {l : Level} {h : Fin 4} (hn : g.nextGrant cfg = some (l, h)) :
    requestOf cfg g h = some l := by
  unfold nextGrant at hn
  split at hn
  next hf => cases hn; exact requestOf_of_firstAt hf
  next =>
    split at hn
    next hf => cases hn; exact requestOf_of_firstAt hf
    next =>
      split at hn
      next hf => cases hn; exact requestOf_of_firstAt hf
      next => cases hn

/-- A conversion granted to a head that asks for it: a sample to one in service, a zero conversion to one at rest. -/
theorem GasFront.Sound.converts (hg : g.Sound cfg grave low) {l : Level} {h : Fin 4}
    (hr : requestOf cfg g h = some l) :
    ({ g with converter := conversionFor l h, pointer := h } : GasFront).Sound cfg grave low := by
  have hstate : (g.heads.get h).state ≠ .absent := by
    cases l with
    | zero => simp [requestOf_zero hr]
    | urgent | normal => simp [requestOf_active hr (by decide)]
  have hpresent := hg.1.present hstate
  refine ⟨fun k => ⟨fun hp => ?_, fun hz => ?_⟩, hg.2⟩
  · have hkh : h ≠ k := by rintro rfl; exact absurd hpresent (by simp [hp])
    refine ⟨((hg.1 k).1 hp).1, ?_⟩
    cases l <;> simp [conversionFor, Converter.samples, Converter.zeroes, hkh]
  · cases l with
    | zero =>
      have : h = k := by simpa [conversionFor, Converter.zeroes] using hz
      exact this ▸ requestOf_zero (g := g) hr
    | urgent | normal => cases hz

theorem GasFront.Sound.arbitrate (hg : g.Sound cfg grave low) : (g.arbitrate cfg).Sound cfg grave low := by
  have habort : (g.abortZero cfg).Sound cfg grave low := by
    unfold GasFront.abortZero
    split
    · split
      · exact hg.idle
      · exact hg
    · exact hg
  unfold GasFront.arbitrate GasFront.grant
  split
  next hn => exact habort.converts (GasFront.requestOf_of_nextGrant hn)
  next => exact habort

/-! ## Rest tests and withdrawals (R9, R13, R14) -/

/-- A head goes to rest under cover, and it covered no partner at rest (R9). -/
theorem GasFront.Sound.restTest (hg : g.Sound cfg grave low) {fs : Nat} (hlow : fs < 128 → low) (h : Fin 4) :
    (g.restTest cfg grave fs h).Sound cfg grave low := by
  unfold GasFront.restTest
  split
  next hmay =>
    simp only [GasFront.mayRest, GasFront.covered, oneHead, Bool.and_eq_true, Bool.or_eq_true, Bool.not_eq_true',
      decide_eq_true_eq] at hmay
    obtain ⟨⟨⟨⟨⟨hactive, -⟩, -⟩, -⟩, hgrave⟩, hcover⟩ := hmay
    obtain ⟨hfits, hrest⟩ := hg
    have hpresent := hfits.present (h := h) (by simp [hactive])
    have hcover' : (g.heads.get (partner h)).state = .active ∨
        (cfg.heads.get h).present = true ∧ (cfg.heads.get (partner h)).present = false ∧ low :=
      hcover.imp id fun ⟨⟨hp, ha⟩, hfs⟩ => ⟨hp, ha, hlow hfs⟩
    have hpartner : (g.heads.get (partner h)).state ≠ .zeroing := by
      obtain ha | ⟨-, ha, -⟩ := hcover'
      · simp [ha]
      · simp [((hfits _).1 ha).1]
    refine ⟨fun k => ?_, fun k hk => ?_⟩
    · by_cases hkh : k = h
      · subst hkh
        refine ⟨fun hp => absurd hpresent (by simp [hp]), fun _ => ?_⟩
        rw [setHead_get_self]
      · rw [setHead_get_ne _ hkh]; exact hfits k
    · by_cases hkh : k = h
      · subst hkh
        rw [setHead_get_ne _ (partner_ne k)]
        exact ⟨hgrave, hcover'⟩
      · rw [setHead_get_ne _ hkh] at hk
        have hph : partner k ≠ h := by
          rintro rfl; rw [partner_partner] at hpartner; exact hpartner hk
        rw [setHead_get_ne _ hph]
        exact hrest k hk
  next => exact hg

theorem Converter.stopZero_zeroes (c : Converter) (h : Fin 4) : (c.stopZero h).zeroes h = false := by
  unfold Converter.stopZero
  split
  · rfl
  next hz => simpa using hz

/-- A withdrawal puts the head back into service and frees the converter of it, whatever covered it (R13, R14). -/
theorem GasFront.Fits.withdraw (hg : g.Fits cfg) (h : Fin 4) : (g.withdraw h).Fits cfg := by
  unfold GasFront.withdraw
  dsimp only
  split
  next hz =>
    have hpresent := hg.present (h := h) (by simp [hz])
    have hconv (k : Fin 4) : (g.converter.stopZero h).samples k = true → g.converter.samples k = true := by
      unfold Converter.stopZero; split
      · intro hs; cases hs
      · exact id
    have hconv' (k : Fin 4) : (g.converter.stopZero h).zeroes k = true → g.converter.zeroes k = true := by
      unfold Converter.stopZero; split
      · intro hs; cases hs
      · exact id
    intro k
    by_cases hkh : k = h
    · subst hkh
      refine ⟨fun hp => absurd hpresent (by simp [hp]), fun hzero => ?_⟩
      exact absurd (Converter.stopZero_zeroes g.converter k) (ne_of_eq_of_ne hzero (by decide))
    · have hget : (g.setHead h { g.heads.get h with state := .active, settle := .stopped }).heads.get k = g.heads.get k :=
        setHead_get_ne _ hkh
      refine ⟨fun hp => ?_, fun hzero => hget ▸ (hg k).2 (hconv' k hzero)⟩
      obtain ⟨habsent, hsample, hzero⟩ := (hg k).1 hp
      exact ⟨(congrArg Head.state hget).trans habsent, Bool.eq_false_iff.mpr fun hs => by simp [hconv k hs] at hsample,
        Bool.eq_false_iff.mpr fun hs => by simp [hconv' k hs] at hzero⟩
  next => exact hg

theorem GasFront.withdraw_state (h k : Fin 4) : ((g.withdraw h).heads.get k).state =
    if k = h ∧ (g.heads.get h).state = .zeroing then .active else (g.heads.get k).state := by
  unfold GasFront.withdraw
  dsimp only
  by_cases hz : (g.heads.get h).state = .zeroing
  · rw [if_pos hz]
    by_cases hkh : k = h
    · subst hkh; simp [hz]
    · simp [hkh, Tbl.get_set_ne]
  · rw [if_neg hz]; simp [hz]

/-- After a withdrawal a head is at rest exactly where it was and is another. -/
theorem GasFront.withdraw_zeroing (h k : Fin 4) : ((g.withdraw h).heads.get k).state = .zeroing ↔
    k ≠ h ∧ (g.heads.get k).state = .zeroing := by
  rw [withdraw_state]
  by_cases hk : k = h
  · subst hk; split <;> simp_all
  · simp [hk]

theorem GasFront.withdraw_active {k : Fin 4} (h : Fin 4) (hk : (g.heads.get k).state = .active) :
    ((g.withdraw h).heads.get k).state = .active := by
  rw [withdraw_state]
  split
  · rfl
  · exact hk

theorem GasFront.Sound.withdraw (hg : g.Sound cfg grave low) (h : Fin 4) : (g.withdraw h).Sound cfg grave low := by
  refine ⟨hg.1.withdraw h, fun k hk => ?_⟩
  obtain ⟨hgrave, hcover⟩ := hg.2 k ((GasFront.withdraw_zeroing h k).mp hk).2
  exact ⟨hgrave, hcover.imp_left (GasFront.withdraw_active h)⟩

end

/-- After the withdrawals of a list of heads, a head at rest is none of them and was at rest, and a head in service is
in service still. -/
theorem GasFront.withdraws (cfg : Settings) : ∀ (hs : List (Fin 4)) (g : GasFront), g.Fits cfg →
    (hs.foldl GasFront.withdraw g).Fits cfg ∧
    (∀ k, ((hs.foldl GasFront.withdraw g).heads.get k).state = .zeroing →
      k ∉ hs ∧ (g.heads.get k).state = .zeroing) ∧
    ∀ k, (g.heads.get k).state = .active → ((hs.foldl GasFront.withdraw g).heads.get k).state = .active
  | [], _, hg => ⟨hg, fun _ hk => ⟨List.not_mem_nil, hk⟩, fun _ hk => hk⟩
  | h :: hs, g, hg => by
    obtain ⟨hfits, hzero, hactive⟩ := withdraws cfg hs (g.withdraw h) (hg.withdraw h)
    refine ⟨hfits, fun k hk => ?_, fun k hk => hactive k (withdraw_active h hk)⟩
    obtain ⟨hmem, hz⟩ := hzero k hk
    obtain ⟨hne, hz⟩ := (withdraw_zeroing h k).mp hz
    exact ⟨by simp [hne, hmem], hz⟩

theorem GasFront.Sound.restTests {cfg : Settings} {grave : Bool} {low : Prop} {fs : Nat} (hlow : fs < 128 → low) :
    ∀ (hs : List (Fin 4)) {g : GasFront}, g.Sound cfg grave low →
      (hs.foldl (GasFront.restTest cfg grave fs) g).Sound cfg grave low
  | [], _, hg => hg
  | h :: hs, _, hg => Sound.restTests hlow hs (hg.restTest hlow h)

/-- The front end after a change of zone state (R9, R13): on entry to ALARM or PURGE every head leaves rest; within them
none is at rest; in NORMAL and DIVERT the rest tests keep what holds. -/
theorem State.gasZoneChange_sound {s : State} {was : Bool} {low : Prop} (hlow : s.fume.fs < 128 → low)
    (hs : s.gas.Sound s.settings was low) :
    (s.gasZoneChange was).gas.Sound s.settings s.grave low := by
  unfold State.gasZoneChange
  cases hgrave : s.grave with
  | false =>
    have hcalm : s.gas.Sound s.settings false low := ⟨hs.1, fun k hk => ⟨rfl, (hs.2 k hk).2⟩⟩
    simpa [hgrave, State.restTests] using (hcalm.restTests hlow (List.finRange 4)).arbitrate
  | true =>
    cases was with
    | true => exact hs
    | false =>
      obtain ⟨hfits, hnone, -⟩ := GasFront.withdraws s.settings (List.finRange 4) s.gas hs.1
      have hsound : ((List.finRange 4).foldl GasFront.withdraw s.gas).Sound s.settings true low :=
        ⟨hfits, fun k hk => absurd (List.mem_finRange k) (hnone k hk).1⟩
      simpa using hsound.arbitrate

/-- The front end after a new FS (R9, R14): below 128 every one head may rest; at 128 or more each is withdrawn. -/
theorem State.gasTakesFs_sound {s : State} (hs : s.gas.Sound s.settings s.grave True) :
    s.gasTakesFs.gas.Sound s.settings s.grave (s.fume.fs < 128) := by
  simp only [State.gasTakesFs, State.onGas_fields, Config.oneHeadFsLimit]
  refine GasFront.Sound.arbitrate ?_
  by_cases hfs : s.fume.fs < 128
  · simp only [hfs, if_true]
    exact GasFront.Sound.restTests (fun _ => trivial) _ hs
  · simp only [hfs, if_false]
    obtain ⟨hfits, hzero, hactive⟩ := GasFront.withdraws s.settings ((List.finRange 4).filter (oneHead s.settings)) _ hs.1
    refine ⟨hfits, fun k hk => ?_⟩
    obtain ⟨hmem, hz⟩ := hzero k hk
    obtain ⟨hgrave, hcover⟩ := hs.2 k hz
    refine ⟨hgrave, hcover.imp (hactive _) fun ⟨hp, ha, _⟩ => ?_⟩
    exact absurd (by simp [oneHead, hp, ha]) hmem

/-! ## The commands of the heads -/

section
variable (s : State)

/-- The front end changed and the arbiter run, where the change keeps what holds of the heads. -/
theorem State.onGas_path {f : GasFront → GasFront}
    (h : ∀ low, s.gas.Sound s.settings s.grave low → (f s.gas).Sound s.settings s.grave low) :
    s.Path true (s.onGas f) := by
  refine .of_plain (.heads _ fun hs => ?_)
  rw [State.headsSound_iff] at hs ⊢
  exact (h _ hs).arbitrate

variable {s}

theorem Head.warmed_path {h : Fin 4} (hw : (s.gas.heads.get h).state = .warming) :
    s.Path true (s.onGas fun g => s.restTests [partner h] (g.setHead h ((s.gas.heads.get h).warmed s.settings))) := by
  refine .of_plain (.heads _ fun hs => ?_)
  rw [State.headsSound_iff] at hs ⊢
  have hz : s.gas.converter.zeroes h = false := Bool.eq_false_iff.mpr fun hz => by simpa [hw] using (hs.1 h).2 hz
  exact ((hs.setHead (by simp [hw]) (by simp [Head.warmed]) hz (.inl rfl)).restTest id (partner h)).arbitrate

theorem Head.aged_state (age : Nat) (x : Head) : (x.aged age).state = x.state := by
  unfold Head.aged
  split <;> rfl

theorem headAged_path (h : Fin 4) (age : Nat) : s.Path true (s.onGas fun g => g.setHead h ((g.heads.get h).aged age)) :=
  s.onGas_path fun _ hs => hs.setHead_same (Head.aged_state age _)

theorem settleExpired_path (h : Fin 4) :
    s.Path true (s.onGas fun g => g.setHead h { s.gas.heads.get h with settle := .expired }) :=
  s.onGas_path fun _ hs => hs.setHead_same rfl

theorem zeroIntervalExpired_path (h : Fin 4) : s.Path true (s.onGas fun g =>
    if (s.gas.heads.get h).backlog < 3 then s.restTests [h] (g.setHead h ((s.gas.heads.get h).checkDue s.settings))
    else g.setHead h ((s.gas.heads.get h).checkDue s.settings)) := by
  refine .of_plain (.heads _ fun hs => ?_)
  rw [State.headsSound_iff] at hs ⊢
  refine GasFront.Sound.arbitrate ?_
  have hset := hs.setHead_same (h := h) (x := (s.gas.heads.get h).checkDue s.settings) rfl
  dsimp only
  split
  · exact hset.restTest id h
  · exact hset

/-- A head enters OPEN: its partner, where it is at rest, loses its cover and returns (R7, R14, R15). -/
theorem GasFront.Sound.enterOpen {cfg : Settings} {grave : Bool} {low : Prop} {g : GasFront}
    (hg : g.Sound cfg grave low) {h : Fin 4} (hpresent : (cfg.heads.get h).present = true)
    (hz : g.converter.zeroes h = false) : (g.enterOpen h).Sound cfg grave low := by
  have hself : (g.setHead h ((g.heads.get h).fail .openCircuit)).heads.get h = (g.heads.get h).fail .openCircuit :=
    setHead_get_self ..
  have hfits : (g.setHead h ((g.heads.get h).fail .openCircuit)).Fits cfg := by
    intro k
    by_cases hkh : k = h
    · subst hkh
      exact ⟨fun hp => absurd hpresent (by simp [hp]), fun hzero => absurd hz (ne_of_eq_of_ne hzero (by decide))⟩
    · rw [setHead_get_ne _ hkh]; exact hg.1 k
  refine ⟨Fits.withdraw (g := (g.setHead h _).count _) hfits _, fun k hk => ?_⟩
  obtain ⟨hkp, hk⟩ := (withdraw_zeroing (partner h) k).mp hk
  have hkh : k ≠ h := by
    rintro rfl
    rw [show ((g.setHead k _).count _).heads = (g.setHead k _).heads from rfl, hself] at hk
    cases hk
  have hk' : (g.heads.get k).state = .zeroing := (congrArg Head.state (setHead_get_ne _ hkh)).symm.trans hk
  have hpk : partner k ≠ h := by
    rintro rfl; exact hkp (partner_partner k).symm
  obtain ⟨hgrave, hcover⟩ := hg.2 k hk'
  refine ⟨hgrave, hcover.imp_left fun ha => withdraw_active _ ?_⟩
  exact (congrArg Head.state (setHead_get_ne _ hpk)).trans ha

theorem sampleResult_path {h : Fin 4} {left : Nat} (hc : s.gas.converter = .sample h left) (code : BitVec 12) :
    s.Path true (s.sampleResult h code) := by
  cases hopen : openCode code with
  | true =>
    rw [State.sampleResult, if_pos hopen]
    refine s.onGas_path fun _ hs => hs.idle.enterOpen ?_ rfl
    by_contra hp
    have := ((hs.1 h).1 (by simpa using hp)).2.1
    simp [hc, Converter.samples] at this
  | false =>
    rw [s.sampleResult_of_good h hopen]
    have hflags : s.Path true { s with fume := s.fume.takeSample (gasOf h) (s.sampleOf h code) } := by
      have hkeep (g : Gas) : ((s.fume.takeSample (gasOf h) (s.sampleOf h code)).gases.get g).valid =
          (s.fume.gases.get g).valid ∧ ((s.fume.takeSample (gasOf h) (s.sampleOf h code)).gases.get g).shortScore =
          (s.fume.gases.get g).shortScore ∧ ((s.fume.takeSample (gasOf h) (s.sampleOf h code)).gases.get g).exposureScore =
          (s.fume.gases.get g).exposureScore := by
        by_cases hg : g = gasOf h
        · subst hg; rw [Fume.takeSample_get_self]; exact ⟨rfl, rfl, rfl⟩
        · rw [Fume.takeSample_get_ne _ _ hg]; exact ⟨rfl, rfl, rfl⟩
      refine .of_plain (.fume _ ⟨rfl, rfl, rfl, rfl, rfl, rfl⟩ (fun g => (hkeep g).1) fun hr g => ?_)
      rw [(hkeep g).2.1, (hkeep g).2.2]
      exact hr g
    refine hflags.trans (.of_plain (.heads _ fun hs => ?_))
    rw [State.headsSound_iff] at hs ⊢
    refine GasFront.Sound.arbitrate (GasFront.Sound.restTest ?_ id h)
    exact hs.idle.setHead_same rfl

theorem zeroResult_path {h : Fin 4} {guarded : Bool} {left : Nat} (hc : s.gas.converter = .zero h guarded left)
    (code : BitVec 12) :
    s.Path true (s.onGas fun g => s.restTests [partner h] (({ g with converter := .idle }).zeroResult s.settings h code)) := by
  refine .of_plain (.heads _ fun hs => ?_)
  rw [State.headsSound_iff] at hs ⊢
  have hrests : (s.gas.heads.get h).state = .zeroing := (hs.1 h).2 (by simp [hc, Converter.zeroes])
  have hold : (s.gas.heads.get h).state ≠ .absent := by simp [hrests]
  refine GasFront.Sound.arbitrate (GasFront.Sound.restTest ?_ id (partner h))
  unfold GasFront.zeroResult
  split
  · exact hs.idle.enterOpen (hs.1.present hold) rfl
  · split
    · exact hs.idle.setHead hold (by simp [Head.passZero]) rfl (.inl rfl)
    · exact hs.idle.setHead hold (by simp [Head.fail]) rfl (.inr (.inl (by simp [hrests])))

theorem zeroUnguarded_path {h : Fin 4} {left : Nat} (hc : s.gas.converter = .zero h true left) :
    s.Path true { s with gas := { s.gas with converter := .zero h false left } } := by
  refine .of_plain (.heads _ fun hs => ?_)
  have hsame (k : Fin 4) : (Converter.zero h false left).samples k = s.gas.converter.samples k ∧
      (Converter.zero h false left).zeroes k = s.gas.converter.zeroes k := by
    rw [hc]; exact ⟨rfl, rfl⟩
  intro k
  have hk := hs k
  rw [← (hsame k).1, ← (hsame k).2] at hk
  exact hk

theorem clearHead_path {h : Fin 4} (hf : (s.gas.heads.get h).faulted = true) (zc : Nat) :
    s.Path true (s.onGas fun g => g.setHead h ((g.heads.get h).clear zc)) := by
  refine s.onGas_path fun _ hs => ?_
  have hstate : (s.gas.heads.get h).state = .drift ∨ (s.gas.heads.get h).state = .openCircuit := by
    unfold Head.faulted at hf
    split at hf <;> simp_all
  have hz : s.gas.converter.zeroes h = false :=
    Bool.eq_false_iff.mpr fun hz => by have := (hs.1 h).2 hz; simp [this] at hstate
  refine hs.setHead ?_ (by simp [Head.clear]) hz (.inr (.inl ?_)) <;> obtain hd | hd := hstate <;> simp [hd]

end

end Sys2Proof.Machine
end

section
/-! Every command and the end of every step as a chain of moves; what a move keeps, a step keeps. -/

namespace Sys2Proof.Machine

section
variable (s : State)

/-! ## Bays (R102 to R105) -/

theorem State.beginScan_path : s.Path true s.beginScan := .bays s _ rfl

theorem State.polled_path (b : Fin 48) : s.Path true (s.polled b) := .bays s _ rfl

theorem State.toggleFlash_path : s.Path true s.toggleFlash := .bays s _ rfl

theorem State.bayMovement_path (b : Fin 48) : s.Path true (s.bayMovement b) :=
  (bayPresence_path _ _).after s.movementEvent_path

theorem State.confirmReading_path (b : Fin 48) (r : Reading) : s.Path true (s.confirmReading b r) := by
  have hconfirm : s.Path true ((s.changeBay b (Bay.confirm r)).countBay fun k => { k with bayConfirms := bump k.bayConfirms }) :=
    (countBay_path _ _).after (s.changeBay_path b _)
  unfold State.confirmReading
  dsimp only
  split
  · exact (holdRound_path _).after hconfirm
  · exact hconfirm
  · exact (holdRound_path _).after ((bayMovement_path _ b).after hconfirm)
  · exact (parking_path _ b).after ((bayMovement_path _ b).after hconfirm)

theorem State.bayAnswers_path (b : Fin 48) (r : Reading) : s.Path true (s.bayAnswers b r) := by
  have hread : s.Path true ((s.setBay b (Bay.takeReading r)).polled b) := (polled_path _ b).after (s.setBay_path b _)
  unfold State.bayAnswers
  dsimp only
  split
  · exact (confirmReading_path _ b r).after hread
  · exact hread

theorem State.bayFails_path (b : Fin 48) : s.Path true (s.bayFails b) := by
  have hfault : s.Path true ((s.changeBay b Bay.fault).countBay fun k => { k with bayFaults := bump k.bayFaults }) :=
    (countBay_path _ _).after (s.changeBay_path b _)
  unfold State.bayFails
  dsimp only
  split
  · exact (holdLost_path _ b).after hfault
  · exact hfault

theorem State.bayNoAnswers_path (b : Fin 48) : s.Path true (s.bayNoAnswers b) := by
  unfold State.bayNoAnswers
  dsimp only
  split
  · refine (bayFails_path _ b).after ((countBay_path _ _).after ((polled_path _ b).after (s.setBay_path b _)))
  · exact (countBay_path _ _).after ((polled_path _ b).after (s.setBay_path b _))

/-! ## Lanes (R110 to R114) -/

/-- A lane counts as a queue (R31). -/
def Lane.counts (l : Lane) : Bool := l.queue && decide (l.state ≠ .fault)

/-- A lane's record moves and whether it counts as a queue stays. -/
theorem State.setLane_path {p : Fin 4} {l : Lane} (h : l.counts = (s.laneAt p).counts) : s.Path true (s.setLane p l) := by
  refine .of_plain (.scanner _ ?_)
  have hsame (q : Fin 4) : ((s.scanner.lanes.set p l).get q).counts = (s.scanner.lanes.get q).counts := by
    by_cases hq : q = p
    · subst hq; rw [Tbl.get_set_self]; exact h
    · rw [Tbl.get_set_ne _ _ hq]
  exact congrArg List.length (List.filter_congr fun q _ => hsame q)

theorem State.presenceBegins_path (p : Fin 4) : s.Path true (s.presenceBegins p) :=
  (presenceStart_path _ _).after (s.setLane_path rfl)

theorem State.dropQueue_path (p : Fin 4) : s.Path true (s.dropQueue p) := by
  unfold State.dropQueue
  split
  · exact .of_move (.queues rfl _)
  · exact .refl

theorem State.presenceEnds_path (p : Fin 4) : s.Path true (s.presenceEnds p) :=
  (presenceEnd_path _ _).after ((dropQueue_path _ p).after (s.setLane_path rfl))

theorem State.offerTransit_path (p : Fin 4) (d : Direction) : s.Path true (s.offerTransit p d) := by
  unfold State.offerTransit
  split
  · exact .refl
  · exact .onComms _ (offer_path _ _ rfl rfl)

theorem State.passageEffects_path (p : Fin 4) (x : Passage) : s.Path true (s.passageEffects p x) := by
  cases x with
  | none => exact .refl
  | aborted =>
    unfold State.passageEffects
    exact s.countBay_path _
  | inward =>
    exact (offerTransit_path _ p _).after ((addArrival_path _ _).after ((movementEvent_path _).after (s.countBay_path _)))
  | outward =>
    exact (offerTransit_path _ p _).after ((passOn_path _).after ((movementEvent_path _).after (s.countBay_path _)))

theorem decodeLane_fault_iff (st : LaneState) (l : Loops) (x : Loop) (on : Bool) :
    (decodeLane st l x on).state = .fault ↔ st = .fault := by
  unfold decodeLane
  split <;> (try split) <;> simp

theorem Lane.counts_setStuck (l : Lane) (x : Loop) (t : Timer) : (l.setStuck x t).counts = l.counts := by
  cases x <;> rfl

theorem State.laneMoves_path (p : Fin 4) (x : Loop) (on : Bool) : s.Path true (s.laneMoves p x on) := by
  have hset : s.Path true (s.setLane p ({ s.laneAt p with
      loops := setLevel (s.laneAt p).loops x on
      state := (decodeLane (s.laneAt p).state (setLevel (s.laneAt p).loops x on) x on).state }.setStuck x
        (stuckTimer on))) := by
    refine s.setLane_path ?_
    rw [Lane.counts_setStuck]
    simp [Lane.counts, decodeLane_fault_iff]
  unfold State.laneMoves
  dsimp only
  split
  · refine (presenceEnds_path _ p).after ((passageEffects_path _ p _).after ?_)
    split
    · exact (presenceBegins_path _ p).after hset
    · exact hset
  · refine (passageEffects_path _ p _).after ?_
    split
    · exact (presenceBegins_path _ p).after hset
    · exact hset

theorem State.loopChanges_path (p : Fin 4) (x : Loop) (on : Bool) : s.Path true (s.loopChanges p x on) := by
  unfold State.loopChanges
  dsimp only
  split
  · exact .refl
  · split
    · exact s.setLane_path rfl
    · exact s.laneMoves_path p x on

theorem State.laneQueues_path (p : Fin 4) : s.Path true (s.laneQueues p) := by
  unfold State.laneQueues
  dsimp only
  split
  · exact .of_move (.queues rfl _)
  · exact .refl

/-- A lane that enters FAULT no longer counts as a queue: a QUEUE flag that was set is cleared and presented at once. -/
theorem State.laneFails_path (p : Fin 4) : s.Path true (s.laneFails p) := by
  have hfail : s.Path true (((s.setLane p { s.laneAt p with
      state := .fault, presence := .stopped, stuckA := .stopped, stuckB := .stopped }).countBay fun k =>
        { k with laneFaults := bump k.laneFaults }).dropQueue p) := by
    unfold State.dropQueue
    split
    · exact .of_move (.queues rfl _)
    · next hq =>
      refine (countBay_path _ _).after (s.setLane_path ?_)
      simp only [State.laneAt, State.countBay, State.setLane, Tbl.get_set_self] at hq
      simp [Lane.counts, State.laneAt, hq]
  unfold State.laneFails
  dsimp only
  split
  · exact (presenceEnd_path _ _).after hfail
  · exact hfail

theorem State.startLane_path {p : Fin 4} (h : (s.laneAt p).counts = false) (loops : Loops) :
    s.Path true (s.startLane p loops) := by
  unfold State.startLane
  dsimp only
  split
  · exact (presenceBegins_path _ p).after (s.setLane_path h.symm)
  · exact s.setLane_path h.symm

/-! ## Peers and frames of other parties (R69, R71, R89 to R94) -/

theorem State.countPeer_path (f : PeerCounters → PeerCounters) : s.Path true (s.countPeer f) :=
  .of_plain (.comms _ (.countPeer f))

theorem State.countLink_path (f : LinkCounters → LinkCounters) : s.Path true (s.countLink f) :=
  .of_plain (.comms _ (.countLink f))

theorem State.setPeer_path (n : Fin 8) (x : Neighbour) : s.Path true (s.setPeer n x) := .of_plain (.peers _)

theorem State.takeReport_path (n : Fin 8) (r : Report) : s.Path true (s.takeReport n r) := by
  unfold State.takeReport
  dsimp only
  split
  · exact (presentNeighbour_path _ n).after ((countPeer_path _ _).after (s.setPeer_path n _))
  · exact (countPeer_path _ _).after (s.setPeer_path n _)

theorem State.reportReceived_path (sender : Nat) (r : Report) : s.Path true (s.reportReceived sender r) := by
  unfold State.reportReceived
  split
  · exact s.takeReport_path _ r
  · exact s.countPeer_path _

theorem State.staleExpiry_path (n : Fin 8) : s.Path true (s.staleExpiry n) := by
  unfold State.staleExpiry
  dsimp only
  split
  · exact (presentNeighbour_path _ n).after (s.setPeer_path n _)
  · exact .refl

theorem State.lostExpiry_path (n : Fin 8) : s.Path true (s.lostExpiry n) := by
  unfold State.lostExpiry
  dsimp only
  split
  · exact (presentNeighbour_path _ n).after ((countPeer_path _ _).after (s.setPeer_path n _))
  · exact .refl

theorem State.otherFrame_path : s.Path true s.otherFrame := .of_plain (.comms _ (.link _ rfl))

theorem State.taken_path (sender : Nat) {pass : State → State} (h : ∀ t : State, t.Path true (pass t)) :
    s.Path true (s.taken sender pass) := by
  unfold State.taken
  dsimp only
  split
  · split
    · exact (countLink_path _ _).after ((countLink_path _ _).after s.otherFrame_path)
    · exact (h _).after ((countLink_path _ _).after s.otherFrame_path)
  · exact s.otherFrame_path

theorem State.transitReceived_path (sender target direction : Nat) :
    s.Path true (s.transitReceived sender target direction) := by
  unfold State.transitReceived
  split
  · split
    · dsimp only
      split
      · exact (addArrival_path _ _).after (s.countPeer_path _)
      · exact (passOn_path _).after (s.countPeer_path _)
    · exact s.countPeer_path _
  · exact .refl

theorem State.requestReceived_path (sender target : Nat) (r : Request) : s.Path true (s.requestReceived sender target r) := by
  have hcount : s.Path true (s.otherFrame.countLink LinkCounters.taken) := (countLink_path _ _).after s.otherFrame_path
  unfold State.requestReceived
  dsimp only
  split
  · split
    · exact (countLink_path _ _).after hcount
    · split
      · exact (State.Path.of_plain (.comms _ (enterRequest_path _ _ r))).after hcount
      · exact hcount
  · exact s.otherFrame_path

/-! ## This station's frames (R61, R66, R71) -/

/-- Every range flag changed: neither a score nor a validity is. -/
theorem State.onFlags_path (h : RangeFlag → RangeFlag) : s.Path true { s with fume := s.fume.onFlags h } :=
  .of_plain (.fume _ ⟨rfl, rfl, rfl, rfl, rfl, rfl⟩ (fun | .co | .no2 => rfl) fun hr => fun
    | .co => hr .co
    | .no2 => hr .no2)

theorem State.launch_path : s.Path true s.launch := by
  unfold State.launch
  split
  · exact .refl
  next f rest hq =>
    dsimp only
    have hlink : s.Path true { s with comms := { s.comms with link := { s.comms.link with
        queue := { f with inFlight := true } :: rest
        wire := s.buildFrame f
        busFreeCount := 0
        stuck := .running Config.stuckMs } } } :=
      .of_plain (.comms _ (.link _ (by rw [hq]; rfl)))
    split
    · exact (onFlags_path _ RangeFlag.carry).after hlink
    · exact hlink

theorem State.startFirst_path : s.Path true s.startFirst := by
  unfold State.startFirst
  split
  · exact (launch_path _).after (.onComms _ (presentFirst_path _ _))
  · exact .refl

theorem State.linkSettle_path : s.Path true s.linkSettle := by
  obtain h | h := s.linkSettle_cases <;> rw [h]
  · exact s.startFirst_path
  · exact .of_plain (.comms _ (.link _ rfl))

theorem State.frameDelivered_path : s.Path true s.frameDelivered := by
  unfold State.frameDelivered
  split
  · exact .refl
  · dsimp only
    split
    · exact (State.Path.onComms _ (delivered_path _ _ _)).after (s.onFlags_path RangeFlag.delivered)
    · exact .onComms _ (delivered_path _ _ _)

/-! ## The responder (R175) -/

theorem State.beginLockWrite_path : s.Path true s.beginLockWrite := .of_plain (.store _)

theorem driveOn_of_state {f : Fan} {st : FanState} (h : f.state = st) (hne : st ≠ .spinup ∧ st ≠ .running) :
    f.driveOn = false := by
  subst h
  unfold Fan.driveOn
  split
  next h => exact absurd h hne.1
  next h => exact absurd h hne.2
  next => rfl

theorem State.answerLock_path (lock : Bool) (x : Byte) : s.Path true (s.answerLock lock x).state := by
  unfold State.answerLock
  split
  · exact .refl
  · split
    · exact .refl
    next i _ =>
      split
      · exact .refl
      next hlocked =>
        split
        · exact .refl
        · have hmove : s.Path true (s.onComms fun e c => if lock then lockFan e i c else freeFan e i c) := by
            refine .onComms _ ?_
            cases lock with
            | true => exact lockFan_path _ i _
            | false =>
              have hl : (s.comms.fanAt i).state = .locked := by simpa [State.fanLocked] using hlocked
              exact freeFan_path _ (driveOn_of_state hl (by decide))
          dsimp only
          split
          · exact hmove
          · exact (beginLockWrite_path _).after hmove

theorem State.answerClearFan_path (x : Byte) : s.Path true (s.answerClearFan x).state := by
  unfold State.answerClearFan
  split
  · exact .refl
  · split
    · exact .refl
    · split
      next i _ hf => exact .onComms (fun e c => freeFan e i c) (freeFan_path _ (driveOn_of_state hf (by decide)))
      · exact .refl

theorem State.answerClearHead_path (x : Byte) : s.Path true (s.answerClearHead x).state := by
  unfold State.answerClearHead
  split
  · exact .refl
  · split
    · exact .refl
    · split
      next hf => exact clearHead_path hf _
      · exact .refl

theorem State.answerClearDetector_path (x y : Byte) : s.Path true (s.answerClearDetector x y).state := by
  unfold State.answerClearDetector State.answerClearBay State.answerClearLane
  split
  · exact .refl
  · split
    · split
      · exact .refl
      · split
        · exact s.setBay_path _ _
        · exact .refl
    · split
      · split
        · exact .refl
        · split
          next hf => exact s.startLane_path (by simp [Lane.counts, hf]) _
          · exact .refl
      · exact .refl

theorem State.answerClearStore_path : s.Path true s.answerClearStore.state := by
  unfold State.answerClearStore
  split
  · exact .refl
  · split
    · exact .of_plain (.store _)
    · exact .refl

theorem State.answerBoost_path (x y : Byte) : s.Path true (s.answerBoost x y).state := by
  unfold State.answerBoost
  split
  · exact .refl
  · split
    · exact .onComms (fun e c => setBoost e x.toNat y.toNat c) (setBoost_path _ _ _ _)
    · exact .refl

theorem State.answerConfig_path (x : Byte) (d : List Byte) :
    s.Path true (s.answerWrite x d).state ∧ s.Path true (s.answerRead x).state ∧ s.Path true s.answerCommit.state := by
  unfold State.answerWrite State.answerRead State.answerCommit
  refine ⟨?_, ?_, ?_⟩ <;> split_ifs <;> try split
  all_goals first | exact .refl | exact .of_plain (.store _)

theorem State.answerData_path (d : Option (List Byte)) : s.Path true (s.answerData d).state := by
  cases d <;> exact .refl

theorem State.answer_path (r : Request) : s.Path true (s.answer r).state := by
  unfold State.answer
  split
  · exact s.answerData_path _
  · exact s.answerData_path _
  · exact s.answerLock_path _ _
  · exact s.answerLock_path _ _
  · exact s.answerClearFan_path _
  · exact s.answerClearHead_path _
  · exact s.answerClearDetector_path _ _
  · exact s.answerClearStore_path
  · exact s.answerBoost_path _ _
  · exact .of_plain (.comms _ (.service _ id))
  · exact (s.answerConfig_path _ _).1
  · exact (s.answerConfig_path _ []).2.1
  · exact (s.answerConfig_path 0 []).2.2
  · exact .refl

/-- The oldest request leaves the queue as it is served. -/
theorem State.popRequest_path {r : Request} {rest : List Request} (hq : s.comms.service.queue = r :: rest) :
    s.Path true (s.popRequest rest) := by
  refine .of_plain (.comms _ ?_)
  refine Comms.Path.trans (.service { s.comms.service with queue := rest } fun h => ?_) (.link _ rfl)
  rw [hq, List.length_cons] at h
  exact Nat.le_of_succ_le h

theorem State.serve_path {r : Request} {rest : List Request} (hq : s.comms.service.queue = r :: rest) :
    s.Path true (s.serve r rest) := by
  have hkeep (t : State) (reply : Reply) : t.Path true ((t.keepCurrent r reply).onComms fun e c => offer e (.reply reply) c) :=
    (State.Path.onComms _ (offer_path _ _ rfl rfl)).after (.of_plain (.comms _ (.service _ id)))
  exact (hkeep _ _).after ((ventSettle_path _).after ((answer_path _ r).after (s.popRequest_path hq)))

end

theorem pump_path : ∀ (n : Nat) (s : State), s.Path true (pump n s)
  | 0, _ => .refl
  | n + 1, s => by
    unfold pump
    split
    · split
      · exact .refl
      next hq => exact (s.serve_path hq).trans (pump_path n _)
    · exact .refl

theorem State.settle_path (s : State) : s.Path true s.settle :=
  (linkSettle_path _).after ((pump_path _ _).after s.ventSettle_path)

/-! ## Commands -/

theorem done_path {s u t : State} (hd : done u = .next t) (h : s.Path true u) : s.Path true t := by
  cases hd
  exact (State.Path.of_plain (.moment _ _)).after (u.settle_path.after h)

/-- A command that acts where its condition holds, and else changes nothing (log 2). -/
theorem ite_path {s u : State} {c : Prop} [Decidable c] (h : c → s.Path true u) : s.Path true (if c then u else s) := by
  split
  next hc => exact h hc
  next => exact .refl

theorem requested_path (s : State) (kind argument : Byte) (data : List Byte) :
    s.Path true (s.requested kind argument data) :=
  .of_plain (.comms _ (enterRequest_path _ _ _))

theorem sampleConversionComplete_path {s t : State} {code : BitVec 12}
    (h : execSampleConversionComplete code s = .next t) : s.Path true t := by
  unfold execSampleConversionComplete at h
  split at h
  next hc => exact done_path h (sampleResult_path hc code)
  next => exact done_path h .refl

theorem zeroConversionComplete_path {s t : State} {code : BitVec 12}
    (h : execZeroConversionComplete code s = .next t) : s.Path true t := by
  unfold execZeroConversionComplete at h
  split at h
  next hc => exact done_path h (zeroResult_path hc code)
  next => exact done_path h .refl

theorem zeroProtectedPartEnd_path {s t : State} (h : execZeroProtectedPartEnd s = .next t) : s.Path true t := by
  unfold execZeroProtectedPartEnd at h
  split at h
  next hc => exact done_path h (zeroUnguarded_path hc)
  next => exact done_path h .refl

/-- The three timers of the fume unit restart, and its figures stay. -/
theorem fumeTimers_path (s : State) {f : Fume} (hg : f.gases = s.fume.gases) (h : f.Agrees s.fume) :
    s.Path true { s with fume := f } :=
  .of_plain (.fume f h (fun g => by rw [hg]) fun hr g => by rw [hg]; exact hr g)

theorem whenOperating_path {s u : State} (h : s.Path true u) : s.Path true (s.whenOperating u) := ite_path fun _ => h

theorem alarmHoldTimerExpiry_path {s t : State} (h : execAlarmHoldTimerExpiry s = .next t) : s.Path true t := by
  refine done_path h (ite_path fun _ => ?_)
  split
  · exact .zone s _ rfl
  · exact .of_move (.setZone rfl _)

theorem lampPresenceTimerExpiry_path {s t : State} {k : Fin 8} (h : execLampPresenceTimerExpiry k s = .next t) :
    s.Path true t :=
  done_path h (ite_path fun _ => (State.countLamp_path _ _).after (s.onChannel_path k _))

/-- The levels and the windows of the channels move, and what their targets rest on stays (R149, R150). -/
theorem lampLevels_path {s : State} {x : Lamps}
    (h : ∀ k, (x.channels.get k).target = (s.lamps.channels.get k).target ∧
      (x.channels.get k).presence = (s.lamps.channels.get k).presence ∧
      (x.channels.get k).leadIn = (s.lamps.channels.get k).leadIn) : s.Path true { s with lamps := x } := by
  refine .of_plain (.lamps _ fun hs k => ?_)
  obtain ⟨htarget, hpresence, hlead⟩ := h k
  rw [htarget, hpresence, hlead]
  exact hs k

theorem rampTick_path {s t : State} (h : execRampTick s = .next t) : s.Path true t := by
  refine done_path h (ite_path fun _ => lampLevels_path fun k => ?_)
  simp only [Tbl.get_mapIdx, Channel.ramp]
  split <;> exact ⟨rfl, rfl, rfl⟩

theorem pwmPeriodStart_path {s t : State} (h : execPwmPeriodStart s = .next t) : s.Path true t := by
  refine done_path h (ite_path fun _ => lampLevels_path fun k => ?_)
  simp only [Tbl.get_mapIdx]
  exact ⟨trivial, trivial, trivial⟩

theorem gasUpdateTimerExpiry_path {s t : State} (h : execGasUpdateTimerExpiry s = .next t) : s.Path true t :=
  done_path h (ite_path fun _ =>
    (State.gasUpdate_path _).after (fumeTimers_path s rfl ⟨rfl, rfl, rfl, rfl, rfl, rfl⟩))

theorem minuteBoundary_path {s t : State} (h : execMinuteBoundary s = .next t) : s.Path true t :=
  done_path h (ite_path fun _ =>
    (State.closeMinute_path _).after (fumeTimers_path s rfl ⟨rfl, rfl, rfl, rfl, rfl, rfl⟩))

theorem signRefreshTimerExpiry_path {s t : State} (h : execSignRefreshTimerExpiry s = .next t) : s.Path true t :=
  done_path h (ite_path fun _ => .of_plain (.guide _ (Guide.startRecord_advert _)))

/-- A command that is neither a reset nor a restart. -/
def Instr.runs : Instr → Bool
  | .powerOnReset _ | .restartTaken _ => false
  | _ => true

/-- Every command but the two that start the station anew answers a state at the end of a chain of moves. -/
theorem exec_path {c : Instr} {s t : State} (hc : Instr.runs c = true) (h : exec c s = .next t) : s.Path true t := by
  match c with
  | .warmUpTimerExpiry _ => exact done_path h (ite_path fun hw => Head.warmed_path hw.1)
  | .headValueAgesTs i => exact done_path h (headAged_path i _)
  | .headValueAges2Ts i => exact done_path h (headAged_path i _)
  | .sampleConversionComplete _ => exact sampleConversionComplete_path h
  | .zeroConversionComplete _ => exact zeroConversionComplete_path h
  | .zeroProtectedPartEnd => exact zeroProtectedPartEnd_path h
  | .settleTimerExpiry i => exact done_path h (ite_path fun _ => settleExpired_path i)
  | .zeroIntervalTimerExpiry i => exact done_path h (ite_path fun _ => zeroIntervalExpired_path i)
  | .gasUpdateTimerExpiry => exact gasUpdateTimerExpiry_path h
  | .minuteBoundary => exact minuteBoundary_path h
  | .movementRoll => exact done_path h (ite_path fun _ => .of_move (.effective rfl _ rfl rfl rfl))
  | .dwellTimerExpiry => exact done_path h (.onComms _ (dwellExpiry_path _ _))
  | .localSpacingTimerExpiry => exact done_path h (.onComms _ (spacingExpiry_path _ _))
  | .tachPulse i _ => exact done_path h (.onComms _ (measure_path _ i _ _))
  | .tachTimeout i => exact done_path h (.onComms _ (measure_path _ i _ _))
  | .spinUpTimerExpiry i => exact done_path h (.onComms _ (spinUpExpiry_path _ i _))
  | .runningCheck i => exact done_path h (.onComms _ (runningCheck_path _ i _))
  | .checkHoldTimerExpiry i => exact done_path h (.onComms _ (holdExpiry_path _ i _))
  | .rotationTimerExpiry => exact done_path h (.onComms _ (rotationExpiry_path _ _))
  | .boostTimerExpiry => exact done_path h (.onComms _ (boostExpiry_path _ _))
  | .busFree =>
    exact done_path h ((State.startFirst_path _).after (.onComms _ (busBecomesFree_path _ _)))
  | .arbitrationLost => exact done_path h (.onComms _ (loseArbitration_path _ _))
  | .lateCollision => exact done_path h (.onComms _ (lateCollision_path _ _))
  | .frameDelivered => exact done_path h s.frameDelivered_path
  | .attemptVoided => exact done_path h (.onComms _ (countedFailure_path _ _ _ _))
  | .attemptUnheard => exact done_path h (.onComms _ (countedFailure_path _ _ _ _))
  | .zoneReportTaken _ _ => exact done_path h (s.taken_path _ fun t => t.reportReceived_path _ _)
  | .startNoticeTaken _ _ _ =>
    exact done_path h (s.taken_path _ fun t => .onComms _ (noticeTaken_path _ _ _ _ _ _))
  | .transitNoticeTaken _ _ _ _ => exact done_path h (s.taken_path _ fun t => t.transitReceived_path _ _ _)
  | .serviceRequestTaken _ _ _ _ _ => exact done_path h (s.requestReceived_path _ _ _)
  | .unpassedFrameTaken _ _ => exact done_path h (s.taken_path _ fun _ => .refl)
  | .receivedFrameDiscarded true => exact done_path h ((State.countLink_path _ _).after s.otherFrame_path)
  | .receivedFrameDiscarded false => exact done_path h s.otherFrame_path
  | .brokenFrame => exact done_path h ((State.countLink_path _ _).after s.otherFrame_path)
  | .stretchBegin => exact done_path h (.onComms _ (beginStretch_path _ _))
  | .stretchTimerExpiry => exact done_path h (.onComms _ (stretchExpiry_path _ _))
  | .stuckTimerExpiry => exact done_path h (.onComms _ (stuckExpiry_path _ _))
  | .joinTimerExpiry => exact done_path h (.onComms _ (joinExpiry_path _ _))
  | .lateCollisionRecordLapse => exact done_path h (.onComms _ (lapseLate_path _ _ _))
  | .periodicRequest => exact done_path h (.onComms _ (reportExpiry_path _ _))
  | .spacingTimerExpiry => exact done_path h (.onComms _ (reportSpacingExpiry_path _ _))
  | .staleTimerExpiry n => exact done_path h (s.staleExpiry_path n)
  | .lostTimerExpiry n => exact done_path h (s.lostExpiry_path n)
  | .startNoticeEntryExpiry _ _ => exact done_path h (.onComms _ (noticeExpiry_path _ _ _ _))
  | .scanTimerExpiry => exact done_path h (ite_path fun _ => s.beginScan_path)
  | .bayPollAnswer b r => exact done_path h (ite_path fun _ => s.bayAnswers_path b r)
  | .bayNoAnswer b => exact done_path h (ite_path fun _ => s.bayNoAnswers_path b)
  | .flashTimerExpiry => exact done_path h (ite_path fun _ => s.toggleFlash_path)
  | .loopChange p x on => exact done_path h (ite_path fun _ => s.loopChanges_path p x on)
  | .lanePresenceTimerExpiry p => exact done_path h (s.laneQueues_path p)
  | .loopStuckTimerExpiry p _ => exact done_path h (ite_path fun _ => s.laneFails_path p)
  | .arrivalExpiry => exact done_path h (ite_path fun _ => s.removeOldest_path _)
  | .signRefreshTimerExpiry => exact signRefreshTimerExpiry_path h
  | .signRecordEnd => exact done_path h (.of_plain (.guide _ (Guide.startRecord_advert _)))
  | .lampPresenceTimerExpiry _ => exact lampPresenceTimerExpiry_path h
  | .rampTick => exact rampTick_path h
  | .pwmPeriodStart => exact pwmPeriodStart_path h
  | .purgeAssertionTaken | .purgeReleaseTaken =>
    exact done_path h (whenOperating_path ((State.evaluate_path _).after (.zone s _ rfl)))
  | .alarmHoldTimerExpiry => exact alarmHoldTimerExpiry_path h
  | .lockWriteEnd _ | .commitWriteEnd _ => exact done_path h (.of_plain (.store _))
  | .clearHeadFault _ | .lockFan _ | .unlockFan _ | .clearFanFault _ | .boostStage _ _ | .clearDetector _ _
  | .statusQuery _ | .counterQuery _ _ | .clearStoreError | .configWrite _ _ | .configRead _ | .configCommit
  | .restart | .unknownRequestKind _ _ => exact done_path h (requested_path s _ _ _)

/-- A command answers a state at the end of a chain of moves from the state it finds, or from a start. -/
theorem exec_reaches {c : Instr} {s t : State} (h : exec c s = .next t) :
    s.Path true t ∨ ∃ pins kept, (s.start pins kept).Path true t := by
  cases hc : Instr.runs c with
  | true => exact .inl (exec_path hc h)
  | false =>
    unfold Instr.runs at hc
    split at hc
    next pins => exact .inr ⟨pins, none, done_path h .refl⟩
    next pins =>
      cases hdue : s.restartDue with
      | true =>
        have hstart : done (s.start pins s.kept) = .next t := by simpa [exec, execRestartTaken, hdue] using h
        exact .inr ⟨pins, s.kept, done_path hstart .refl⟩
      | false =>
        have hnone : done s = .next t := by simpa [exec, execRestartTaken, hdue] using h
        exact .inl (done_path hnone .refl)
    next => cases hc

/-- What every move keeps and every start gives, every command keeps. -/
theorem exec_keeps {P : State → Prop} (hP : ∀ {s t : State}, State.Move true s t → P s → P t)
    (hstart : ∀ (s : State) pins kept, P (s.start pins kept)) {c : Instr} {s t : State} (hs : P s)
    (h : exec c s = .next t) : P t := by
  obtain hpath | ⟨pins, kept, hpath⟩ := exec_reaches h
  · exact hpath.keeps hP hs
  · exact hpath.keeps hP (hstart s pins kept)

/-- What every move keeps and every start gives, every step keeps. -/
theorem step_keeps {P : State → Prop} (hP : ∀ {s t : State}, State.Move true s t → P s → P t)
    (hstart : ∀ (s : State) pins kept, P (s.start pins kept)) {s t : State} (hs : P s) (h : step s = .next t) : P t := by
  unfold step at h
  split at h
  · cases h; exact hP (.plain .tick) hs
  · exact exec_keeps hP hstart (hP (.plain (.moment s.moment _)) hs) h

/-! ## The start (R165 to R167) -/

theorem State.startLaneOf_path (pins : Pins) {s : State} (h : ∀ p, (s.laneAt p).counts = false) (p : Fin 4) :
    s.Path true (startLaneOf pins s p) ∧ ∀ q, ((startLaneOf pins s p).laneAt q).counts = false := by
  unfold startLaneOf
  split
  · refine ⟨s.startLane_path (h p) _, fun q => ?_⟩
    unfold State.startLane State.presenceBegins
    dsimp only
    by_cases hq : q = p
    · subst hq
      split <;> simp [State.laneAt, State.setLane, Lane.counts]
    · split <;> simpa [State.laneAt, State.setLane, Tbl.get_set_ne _ _ hq] using h q
  · exact ⟨.refl, h⟩

theorem State.startLanes_path (pins : Pins) : ∀ (ps : List (Fin 4)) {s : State}, (∀ p, (s.laneAt p).counts = false) →
    s.Path true (ps.foldl (startLaneOf pins) s)
  | [], _, _ => .refl
  | p :: ps, _, h =>
    have ⟨hpath, hlanes⟩ := State.startLaneOf_path pins h p
    hpath.trans (startLanes_path pins ps hlanes)

/-- The state in which the demand is first worked out on an entry to OPERATING (R167). -/
def State.zoneStarted (s : State) (pins : Pins) (kept : Option Kept) : State :=
  ((List.finRange 4).foldl (startLaneOf pins) (s.stopped.loadBlocks kept)).beginScan.startZone pins

theorem State.zoneStarted_path (s : State) (pins : Pins) (kept : Option Kept) :
    (s.stopped.loadBlocks kept).Path true (s.zoneStarted pins kept) := by
  have hlanes := State.startLanes_path pins (List.finRange 4) (s := s.stopped.loadBlocks kept) fun p =>
    congrArg Lane.counts (Tbl.get_const Lane.unused p)
  have hzone (t : State) : t.Path true (t.startZone pins) := by
    unfold State.startZone
    exact (evaluate_path _).after (.zone t _ rfl)
  exact (hlanes.trans (beginScan_path _)).trans (hzone _)

/-- A start enters COMMISSION, or OPERATING with the demand worked out and the guidance re-formed (R165 to R167). -/
theorem State.start_cases (s : State) (pins : Pins) (kept : Option Kept) :
    s.start pins kept = s.stopped.enterCommission ∨
      s.start pins kept = (s.zoneStarted pins kept).reworkDemand.presentCounts := by
  unfold State.start
  dsimp only
  split
  · exact .inl rfl
  · exact .inr rfl

/-- What every move keeps holds after a start where it holds of the two states that a start enters a mode with. -/
theorem start_keeps {P : State → Prop} (hP : ∀ {s t : State}, State.Move true s t → P s → P t)
    (hcommission : ∀ s : State, P s.stopped.enterCommission)
    (hload : ∀ (s : State) kept, P (s.stopped.loadBlocks kept)) (s : State) (pins : Pins) (kept : Option Kept) :
    P (s.start pins kept) := by
  obtain h | h := s.start_cases pins kept <;> rw [h]
  · exact hcommission s
  · refine State.Path.keeps hP ((State.presentCounts_path _).after ((State.reworkDemand_path _).after
      (s.zoneStarted_path pins kept))) (hload s kept)

end Sys2Proof.Machine
end

section
/-! O17: the heads at rest stay covered through every step (R1, R9, R10, R13, R14). -/

namespace Sys2Proof.Machine

theorem State.headsSound_congr {s t : State} (hs : s.headsSound) (hset : t.settings = s.settings) (hgas : t.gas = s.gas)
    (hgrave : t.grave = s.grave) (hfs : t.fume.fs = s.fume.fs) : t.headsSound := by
  rw [State.headsSound_iff] at *
  rw [hset, hgas, hgrave, hfs]
  exact hs

/-- The zone state as an entry to a state leaves it. -/
@[simp] theorem State.setZone_zone (s : State) (st : ZoneState) : (s.setZone st).zone = s.zone.enter s.settings st := by
  simp [State.setZone]

@[simp] theorem State.setZone_grave (s : State) (st : ZoneState) : (s.setZone st).grave = st.grave := by
  simp [State.grave, ZoneCtl.enter]

/-- The blocks that take a change of zone state before the gas front end. -/
def State.zoneTold (s : State) (was : Bool) : State :=
  ((if s.grave = was then s else s.onComms reorderQueue).reformIndicators).arrivalsZoneChange was

@[simp] theorem State.zoneTold_frame (s : State) (was : Bool) :
    (s.zoneTold was).gas = s.gas ∧ (s.zoneTold was).settings = s.settings ∧ (s.zoneTold was).fume = s.fume ∧
    (s.zoneTold was).zone = s.zone ∧ (s.zoneTold was).mode = s.mode := by
  unfold State.zoneTold
  split <;> simp

theorem State.presentZoneChange_eq (s : State) (was : Bool) :
    s.presentZoneChange was =
      ((((s.zoneTold was).gasZoneChange was).lampsZoneChange was).presentZone.reworkDemand).reportEvent := rfl

/-- A change of zone state keeps what holds of the heads, also where `low` stands in the place of FS below 128. -/
theorem State.setZone_heads {s : State} {low : Prop} (st : ZoneState) (hlow : s.fume.fs < 128 → low)
    (hs : s.gas.Sound s.settings s.grave low) :
    (s.setZone st).gas.Sound (s.setZone st).settings (s.setZone st).grave low := by
  have hgas := State.gasZoneChange_sound (s := ({ s with zone := s.zone.enter s.settings st } : State).zoneTold s.grave)
    (was := s.grave) (low := low) (by simpa using hlow) (by simpa using hs)
  have hgrave : (({ s with zone := s.zone.enter s.settings st } : State).zoneTold s.grave).grave = st.grave := by
    simp [State.grave, ZoneCtl.enter]
  rw [hgrave] at hgas
  rw [State.setZone_grave]
  simpa [State.setZone, State.presentZoneChange_eq] using hgas

theorem State.evaluate_heads {s : State} {low : Prop} (hlow : s.fume.fs < 128 → low)
    (hs : s.gas.Sound s.settings s.grave low) : s.evaluate.gas.Sound s.evaluate.settings s.evaluate.grave low := by
  unfold State.evaluate
  split
  · exact hs
  · exact s.setZone_heads _ hlow hs

/-- FS recomputed: while the zone takes it the one heads may stand uncovered, and the front end then takes it too. -/
theorem State.reformFs_heads {s : State} (hs : s.headsSound) : s.reformFs.headsSound := by
  rw [State.headsSound_iff] at hs
  unfold State.reformFs
  dsimp only
  split
  next hsame =>
    have hzone := State.evaluate_heads (s := { s with
      fume := { s.fume with fs := s.fume.nextFs s.settings }
      zone := s.zone.takeFs s.settings (s.fume.nextFs s.settings) }) (low := s.fume.fs < 128)
      (fun h => by simpa [← hsame] using h) hs
    refine State.headsSound_congr (s := ({ s with
      fume := { s.fume with fs := s.fume.nextFs s.settings } } : State).zoneTakesFs) ?_ (by simp) (by simp)
      (by simp [State.grave]) (by simp [State.reformEs])
    rw [State.headsSound_iff]
    have hfs : ({ s with fume := { s.fume with fs := s.fume.nextFs s.settings } } : State).zoneTakesFs.fume.fs =
      s.fume.fs := by simpa using hsame
    rw [hfs]
    exact hzone
  next =>
    have hweak : s.gas.Sound s.settings s.grave True := ⟨hs.1, fun k hk => by
      obtain ⟨hgrave, hcover⟩ := hs.2 k hk
      exact ⟨hgrave, hcover.imp_right fun ⟨hp, ha, _⟩ => ⟨hp, ha, trivial⟩⟩⟩
    have hzone := State.evaluate_heads (s := { s with
      fume := { s.fume with fs := s.fume.nextFs s.settings }
      zone := s.zone.takeFs s.settings (s.fume.nextFs s.settings) }) (low := True) (fun _ => trivial) hweak
    have hfs := State.gasTakesFs_sound (s := ({ s with
      fume := { s.fume with fs := s.fume.nextFs s.settings } } : State).zoneTakesFs) hzone
    refine State.headsSound_congr (s := ({ s with
      fume := { s.fume with fs := s.fume.nextFs s.settings } } : State).zoneTakesFs.gasTakesFs) ?_ (by simp) (by simp)
      (by simp [State.grave]) (by simp [State.reformEs])
    rw [State.headsSound_iff]
    simpa [State.grave] using hfs

theorem Converter.tick_same (c : Converter) (h : Fin 4) :
    c.tick.samples h = c.samples h ∧ c.tick.zeroes h = c.zeroes h := by
  cases c <;> exact ⟨rfl, rfl⟩

theorem State.PlainMove.headsSound {s t : State} (h : s.PlainMove t) (hs : s.headsSound) : t.headsSound := by
  cases h with
  | tick =>
    intro k
    obtain ⟨habsent, hzero, hrest⟩ := hs k
    simp only [State.tick, GasFront.tick, Tbl.get_map, Converter.tick_same]
    exact ⟨habsent, hzero, hrest⟩
  | heads g sound => exact sound hs
  | fume f same _ _ => exact State.headsSound_congr hs rfl rfl rfl same.1
  | zone z state => exact State.headsSound_congr hs rfl rfl (congrArg ZoneState.grave state) rfl
  | moment _ _ | comms _ _ | scanner _ _ | tracker _ | guide _ _ | advert _ _ | lamps _ _ | peers _ | store _ =>
    exact State.headsSound_congr hs rfl rfl rfl rfl

theorem State.Move.headsSound {full : Bool} {s t : State} (h : State.Move full s t) (hs : s.headsSound) :
    t.headsSound := by
  cases h with
  | plain h => exact h.headsSound hs
  | validity _ f same _ => exact State.headsSound_congr hs (by simp) (by simp) (by simp [State.grave]) (by simpa using same.1)
  | effective _ f _ fs _ =>
    exact State.headsSound_congr hs (by simp) (by simp) (by simp [State.grave]) (by simpa [State.reformEs] using fs)
  | fumeScore _ => exact State.reformFs_heads hs
  | queues _ x =>
    exact State.headsSound_congr hs (by simp) (by simp) (by simp [State.grave])
      (by simp [State.presentQueue, State.reformEs])
  | setZone _ st =>
    rw [State.headsSound_iff] at hs ⊢
    simpa using State.setZone_heads st id hs

theorem startHead_state (cfg : HeadCfg) (kept : Option Head) :
    (startHead cfg kept).state ≠ .zeroing ∧ (cfg.present = false → (startHead cfg kept).state = .absent) := by
  unfold startHead
  split
  · exact ⟨by simp [Head.absent], fun _ => rfl⟩
  next hp =>
    have hp : cfg.present = true := by simpa using hp
    refine ⟨?_, fun ha => absurd hp (by simp [ha])⟩
    split
    next x =>
      split
      next hf =>
        unfold Head.faulted at hf
        dsimp only
        split at hf <;> simp_all
      next => simp
    next => simp

theorem headsSound_of_start (s : State) (pins : Pins) (kept : Option Kept) : (s.start pins kept).headsSound := by
  refine start_keeps (P := State.headsSound) State.Move.headsSound (fun s k => ?_) (fun s kept k => ?_) s pins kept
  · have hk : (s.stopped.enterCommission.gas.heads.get k).state = .absent := congrArg Head.state (Tbl.get_const ..)
    exact ⟨fun _ => ⟨hk, rfl, rfl⟩, fun hz => (nomatch hz), fun hz => absurd hz (by simp [hk])⟩
  · obtain ⟨hz, ha⟩ := startHead_state ((settingsOf s.stopped.store.stored).heads.get k) (kept.map fun x => x.heads.get k)
    have hk : ((s.stopped.loadBlocks kept).gas.heads.get k) =
      startHead ((settingsOf s.stopped.store.stored).heads.get k) (kept.map fun x => x.heads.get k) := Tbl.get_ofFn ..
    rw [hk]
    exact ⟨fun hp => ⟨ha hp, rfl, rfl⟩, fun hz => (nomatch hz), fun hz' => absurd hz' hz⟩

/-- Settles O17: the rule on the heads is checked against the moves; it breaks and mends within a change of zone state and
within a new FS, where the front end takes what has changed. -/
theorem restingHeadsStayCovered : Obligations.RestingHeadsStayCovered := fun _ _ hs h =>
  step_keeps (P := State.headsSound) State.Move.headsSound headsSound_of_start hs h

end Sys2Proof.Machine
end

section
/-! O21: the scores stay in range, and ES0, Q and ES stay in step with their sources (R28, R29, R31, R32). -/

namespace Sys2Proof.Machine

/-- ES0 and ES formed from the scores, the terms, the movement ring and the queues (R29, R32). -/
def Fume.formed (cfg : Settings) (f : Fume) : Fume := { f with es0 := f.nextEs0, es := f.nextEs cfg }

@[simp] theorem State.reformEs_fume (s : State) : s.reformEs.fume = s.fume.formed s.settings := rfl

@[simp] theorem State.reformFs_fume (s : State) :
    s.reformFs.fume = ({ s.fume with fs := s.fume.nextFs s.settings } : Fume).formed s.settings := by
  unfold State.reformFs
  dsimp only
  split <;> simp

theorem State.presentQueue_fume (s : State) :
    s.presentQueue.fume = ({ s.fume with q := s.queueLanes } : Fume).formed s.settings := rfl

theorem gasScore_le {fitted : Bool} {y : GasFume} (hy : y.shortScore ≤ 1023 ∧ y.exposureScore ≤ 1023) {x : Nat}
    (hx : gasScore fitted y = some x) : x ≤ 1023 := by
  unfold gasScore at hx
  split at hx
  · cases hx
    split
    · exact Nat.max_le.mpr hy
    · exact hy.1
  · cases hx

theorem maxOption_le {a b : Option Nat} {n : Nat} (ha : ∀ x, a = some x → x ≤ n) (hb : ∀ x, b = some x → x ≤ n) :
    ∀ x, maxOption a b = some x → x ≤ n := by
  intro x hx
  unfold maxOption at hx
  split at hx
  · exact hb x hx
  · exact ha x hx
  · cases hx; exact Nat.max_le.mpr ⟨ha _ rfl, hb _ rfl⟩

/-- FS lies in 0 to 1023 as the scores of the gases do (R28). -/
theorem Fume.nextFs_le {cfg : Settings} {f : Fume} (h : f.gasesInRange) (hfs : f.fs ≤ 1023) : f.nextFs cfg ≤ 1023 := by
  unfold Fume.nextFs
  cases hm : maxOption (gasScore (cfg.fitted .co) f.gases.co) (gasScore (cfg.fitted .no2) f.gases.no2) with
  | none => exact hfs
  | some x => exact maxOption_le (fun _ => gasScore_le (h .co)) (fun _ => gasScore_le (h .no2)) x hm

theorem Fume.formed_inRange {cfg : Settings} {f : Fume} (h : f.gasesInRange) (hfs : f.fs ≤ 1023) :
    (f.formed cfg).gasesInRange ∧ (f.formed cfg).fs ≤ 1023 ∧ (f.formed cfg).es ≤ 1023 :=
  ⟨h, hfs, Nat.min_le_left ..⟩

theorem State.PlainMove.scoresSound {s t : State} (h : s.PlainMove t) (hs : s.scoresSound) : t.scoresSound := by
  obtain ⟨hgases, hfs, hes⟩ := hs
  cases h with
  | fume f same _ scores =>
    obtain ⟨hsame, -, -, hesame, -⟩ := same
    exact ⟨scores hgases, hsame ▸ hfs, hesame ▸ hes⟩
  | tick | moment _ _ | heads _ _ | comms _ _ | scanner _ _ | tracker _ | zone _ _ | guide _ _ | advert _ _
  | lamps _ _ | peers _ | store _ => exact ⟨hgases, hfs, hes⟩

theorem State.Move.scoresSound {full : Bool} {s t : State} (h : State.Move full s t) (hs : s.scoresSound) :
    t.scoresSound := by
  obtain ⟨hgases, hfs, hes⟩ := hs
  cases h with
  | plain h => exact h.scoresSound ⟨hgases, hfs, hes⟩
  | validity _ f same scores =>
    obtain ⟨hsame, -, -, hesame, -⟩ := same
    exact ⟨scores hgases, hsame ▸ hfs, hesame ▸ hes⟩
  | effective _ f gases fs _ =>
    exact Fume.formed_inRange (f := f) (fun g => gases ▸ hgases g) (fs ▸ hfs)
  | fumeScore _ =>
    unfold State.scoresSound
    rw [State.reformFs_fume]
    exact Fume.formed_inRange hgases (Fume.nextFs_le hgases hfs)
  | queues _ x => exact Fume.formed_inRange (f := { s.fume with q := _ }) hgases hfs
  | setZone _ st =>
    unfold State.scoresSound
    rw [(s.setZone_frame st).2.2.2.2.1]
    exact ⟨hgases, hfs, hes⟩

theorem scoresSound_of_start (s : State) (pins : Pins) (kept : Option Kept) : (s.start pins kept).scoresSound := by
  have hreset : Fume.reset.gasesInRange := fun
    | .co => by decide
    | .no2 => by decide
  exact start_keeps (P := State.scoresSound) State.Move.scoresSound
    (fun _ => ⟨hreset, Nat.zero_le _, Nat.zero_le _⟩) (fun _ _ => ⟨hreset, Nat.zero_le _, Nat.zero_le _⟩) s pins kept

theorem State.effectiveSound_congr {s t : State} (hs : s.effectiveSound) (hset : t.settings = s.settings)
    (hfume : t.fume.Agrees s.fume) (hqueues : t.queueLanes = s.queueLanes) : t.effectiveSound := by
  obtain ⟨hfs, hterms, hes0, hes, hmove, hq⟩ := hfume
  unfold State.effectiveSound
  rw [hset, hfs, hterms, hes0, hes, hmove, hq, hqueues]
  exact hs

/-- ES0 and ES as just formed are in step with their sources, where Q is. -/
theorem State.effectiveSound_of_formed {s : State} {f : Fume} (hfume : s.fume = f.formed s.settings)
    (hq : f.q = s.queueLanes) : s.effectiveSound := by
  unfold State.effectiveSound
  rw [hfume]
  exact ⟨rfl, hq, rfl⟩

theorem Fume.Agrees.refl (f : Fume) : f.Agrees f := ⟨rfl, rfl, rfl, rfl, rfl, rfl⟩

theorem State.queueLanes_congr {s t : State} (h : t.scanner.lanes = s.scanner.lanes) : t.queueLanes = s.queueLanes := by
  simp [State.queueLanes, h]

theorem State.tick_queueLanes (s : State) : s.tick.queueLanes = s.queueLanes :=
  congrArg List.length (List.filter_congr fun p _ => by simp [Scanner.tick, Lane.tick])

theorem State.PlainMove.effectiveSound {s t : State} (h : s.PlainMove t) (hs : s.effectiveSound) : t.effectiveSound := by
  have hq : s.fume.q = s.queueLanes := hs.2.1
  cases h with
  | tick => exact State.effectiveSound_congr hs rfl (Fume.Agrees.refl s.fume) s.tick_queueLanes
  | fume f same _ _ => exact State.effectiveSound_congr hs rfl same rfl
  | scanner x queues => exact State.effectiveSound_congr hs rfl (Fume.Agrees.refl s.fume) queues
  | moment _ _ | heads _ _ | comms _ _ | tracker _ | zone _ _ | guide _ _ | advert _ _ | lamps _ _ | peers _ | store _ =>
    exact State.effectiveSound_congr hs rfl (Fume.Agrees.refl s.fume) rfl

theorem State.Move.effectiveSound {full : Bool} {s t : State} (h : State.Move full s t) (hs : s.effectiveSound) :
    t.effectiveSound := by
  have hq : s.fume.q = s.queueLanes := hs.2.1
  cases h with
  | plain h => exact h.effectiveSound hs
  | validity _ f same _ => exact State.effectiveSound_congr hs rfl same rfl
  | effective _ f _ _ q => exact State.effectiveSound_of_formed (f := f) rfl (q.trans hq)
  | fumeScore _ =>
    refine State.effectiveSound_of_formed (f := { s.fume with fs := s.fume.nextFs s.settings }) (by simp) ?_
    exact hq.trans (State.queueLanes_congr (by simp)).symm
  | queues _ x => exact State.effectiveSound_of_formed (State.presentQueue_fume _) rfl
  | setZone _ st =>
    refine State.effectiveSound_congr hs (by simp) ?_ (State.queueLanes_congr (by simp))
    rw [(s.setZone_frame st).2.2.2.2.1]
    exact .refl _

/-- With no lane in use Q is 0. -/
theorem State.queueLanes_of_unused {s : State} (h : s.scanner.lanes = Tbl.const 4 Lane.unused) : s.queueLanes = 0 := by
  simp [State.queueLanes, h, Lane.unused]

theorem State.effectiveSound_of_reset {s : State} (hf : s.fume.Agrees Fume.reset)
    (hl : s.scanner.lanes = Tbl.const 4 Lane.unused) : s.effectiveSound := by
  obtain ⟨hfs, hterms, hes0, hes, hmove, hq⟩ := hf
  unfold State.effectiveSound
  rw [hfs, hterms, hes0, hes, hmove, hq, State.queueLanes_of_unused hl]
  exact ⟨by decide, rfl, by simp [Fume.reset, Tbl.const]⟩

theorem effectiveSound_of_start (s : State) (pins : Pins) (kept : Option Kept) : (s.start pins kept).effectiveSound :=
  start_keeps (P := State.effectiveSound) State.Move.effectiveSound
    (fun _ => State.effectiveSound_of_reset (Fume.Agrees.refl _) rfl)
    (fun _ _ => State.effectiveSound_of_reset ⟨rfl, rfl, rfl, rfl, rfl, rfl⟩ rfl) s pins kept

/-- Settles O21: what breaks between a source's change and the forming of ES is one move. -/
theorem scoresStayInRangeAndInStep : Obligations.ScoresStayInRangeAndInStep := fun _ _ hscores heffective h =>
  ⟨step_keeps (P := State.scoresSound) State.Move.scoresSound scoresSound_of_start hscores h,
    step_keeps (P := State.effectiveSound) State.Move.effectiveSound effectiveSound_of_start heffective h⟩

end Sys2Proof.Machine
end

section
/-! What the composite moves keep, and O29: the duties and the stage in force (R36 to R41, R50, R54). -/

namespace Sys2Proof.Machine

/-! ## The composite moves -/

theorem State.onGas_eq (s : State) (f : GasFront → GasFront) : s.onGas f = { s with gas := (s.onGas f).gas } := rfl

theorem State.gasZoneChange_eq (s : State) (w : Bool) :
    s.gasZoneChange w = { s with gas := (s.gasZoneChange w).gas } := by
  unfold State.gasZoneChange
  split
  · exact s.onGas_eq _
  · split
    · rfl
    · exact s.onGas_eq _

/-- A new zone state with the queue in its order (R84), before any other block has taken it. -/
def State.zoneEntered (s : State) (st : ZoneState) : State :=
  let t : State := { s with zone := s.zone.enter s.settings st }
  if t.grave = s.grave then t else t.onComms reorderQueue

/-- The station once the lamps have taken a change of zone state, with the guidance, the demand and the report event to
come. -/
def State.zoneLit (s : State) (st : ZoneState) : State :=
  (((s.zoneEntered st).reformIndicators.arrivalsZoneChange s.grave).gasZoneChange s.grave).lampsZoneChange s.grave

theorem State.setZone_eq (s : State) (st : ZoneState) :
    s.setZone st = ((s.zoneLit st).presentZone.reworkDemand).reportEvent := rfl

theorem State.reformIndicators_path {full : Bool} (s : State) : s.Path full s.reformIndicators := .bays s _ rfl

theorem State.retargetAll_path {full : Bool} (s : State) : s.Path full s.retargetAll :=
  .of_plain (.lamps _ fun hs => State.lampsSound_of_retarget hs fun k => .inl (by
    simp [Channel.retarget, targetOf, freeTarget]))

theorem State.lampsZoneChange_path {full : Bool} (s : State) (w : Bool) : s.Path full (s.lampsZoneChange w) := by
  unfold State.lampsZoneChange
  dsimp only
  split
  · exact (countLamp_path _ _).after s.retargetAll_path
  · exact s.retargetAll_path

section
variable {P : State → Prop} (hplain : ∀ {s t : State}, s.PlainMove t → P s → P t)
  (hside : ∀ {s : State} (g : GasFront) (f : Fume) (x : Scanner), P s → P { s with gas := g, fume := f, scanner := x })
include hplain hside

/-- What plain moves keep and the front end does not matter to survives a change of zone state up to the lamps. -/
theorem State.zoneLit_keeps {s : State} {st : ZoneState} (hs : P (s.zoneEntered st)) : P (s.zoneLit st) := by
  have htold : P ((s.zoneEntered st).reformIndicators.arrivalsZoneChange s.grave) :=
    ((arrivalsZoneChange_path _ _).after (reformIndicators_path _)).keeps_plain hplain hs
  refine (lampsZoneChange_path _ _).keeps_plain hplain ?_
  rw [State.gasZoneChange_eq]
  exact hside _ _ _ htold

theorem State.setZone_keeps {s : State} {st : ZoneState} (hs : P (s.zoneEntered st)) : P (s.setZone st) := by
  rw [State.setZone_eq]
  exact ((reportEvent_path _).after ((reworkDemand_path _).after (reformGuide_path _))).keeps_plain hplain
    (State.zoneLit_keeps hplain hside hs)

variable (hzone : ∀ {s : State} (st : ZoneState), P s → P (s.setZone st))
include hzone

omit hside in
theorem State.zoneTakesFs_keeps {s : State} (hs : P s) : P s.zoneTakesFs := by
  unfold State.zoneTakesFs State.evaluate
  have hin := hplain (.zone (s.zone.takeFs s.settings s.fume.fs) rfl) hs
  split
  · exact hin
  · exact hzone _ hin

/-- What plain moves and changes of zone state keep, and neither the front end nor the fume unit nor the scanner matters
to, every move keeps. -/
theorem State.Move.keeps_of {full : Bool} {s t : State} (h : State.Move full s t) (hs : P s) : P t := by
  have hrework {s : State} (hs : P s) : P s.reworkDemand := (reworkDemand_path _).keeps_plain hplain hs
  have hfume {s : State} (f : Fume) (hs : P s) : P { s with fume := f } := hside s.gas f s.scanner hs
  cases h with
  | plain h => exact hplain h hs
  | validity _ f _ _ => exact hrework (hfume f hs)
  | effective _ f _ _ _ => exact hrework (hfume _ (hfume f hs))
  | queues _ x => exact hrework (hfume (s := { s with scanner := x }) _ (hside s.gas s.fume x hs))
  | setZone _ st => exact hzone st hs
  | fumeScore _ =>
    have htakes := State.zoneTakesFs_keeps hplain hzone (hfume { s.fume with fs := s.fume.nextFs s.settings } hs)
    unfold State.reformFs
    dsimp only
    split
    · exact hrework (hfume _ htakes)
    · exact hrework (hfume _ (hside _ _ _ htakes))

end

/-! ## Duties (R39, R54) -/

theorem Comms.Path.dutiesMet {e : Env} {c d : Comms} (h : c.Path e d) (hc : c.fan.dutiesMet e.settings) :
    d.fan.dutiesMet e.settings := by
  induction h with
  | refl => exact hc
  | tail _ hmove ih =>
    cases hmove with
    | fans fc duties _ => exact duties ih
    | offer p _ _ => rw [(offerFrame_frame e p _).1]; exact ih
    | link _ _ | leave _ _ | service _ _ | notices _ _ => exact ih

theorem State.PlainMove.dutiesSound {s t : State} (h : s.PlainMove t) (hs : s.dutiesSound) : t.dutiesSound := by
  cases h with
  | tick =>
    intro i
    have hi : s.tick.comms.fanAt i = (s.comms.fanAt i).tick := Tbl.get_map ..
    rw [hi]
    exact hs i
  | comms c path => exact path.dutiesMet hs
  | moment _ _ | heads _ _ | fume _ _ _ _ | scanner _ _ | tracker _ | zone _ _ | guide _ _ | advert _ _ | lamps _ _
  | peers _ | store _ => exact hs

theorem State.Move.dutiesSound {full : Bool} {s t : State} (h : State.Move full s t) (hs : s.dutiesSound) :
    t.dutiesSound := by
  refine h.keeps_of (P := State.dutiesSound) PlainMove.dutiesSound (fun _ _ _ hs => hs) (fun {s} st hs => ?_) hs
  refine State.setZone_keeps (P := State.dutiesSound) PlainMove.dutiesSound (fun _ _ _ hs => hs) ?_
  unfold State.zoneEntered
  dsimp only
  split <;> exact hs

theorem startFanRecord_duty (cfg : FanCfg) (locked : Bool) (kept : Option Fan) :
    (startFanRecord cfg locked kept).duty = 0 ∧ (startFanRecord cfg locked kept).driveOn = false := by
  unfold startFanRecord
  split
  · exact ⟨rfl, rfl⟩
  · split
    · exact ⟨rfl, rfl⟩
    · split
      · split <;> exact ⟨rfl, rfl⟩
      · exact ⟨rfl, rfl⟩

theorem dutiesSound_of_start (s : State) (pins : Pins) (kept : Option Kept) : (s.start pins kept).dutiesSound := by
  refine start_keeps (P := State.dutiesSound) State.Move.dutiesSound (fun s i => ?_) (fun s kept i => ?_) s pins kept
  · have hi : s.stopped.enterCommission.comms.fanAt i = Fan.stopped := Tbl.get_const ..
    rw [hi]; rfl
  · have hi : (s.stopped.loadBlocks kept).comms.fanAt i = startFanRecord _ _ _ := Tbl.get_ofFn ..
    rw [hi, (startFanRecord_duty ..).1, (startFanRecord_duty ..).2]
    rfl

/-! ## The stage in force (R36 to R38) -/

theorem State.invalid_iff (s : State) (ho : s.operating = true) : s.env.invalid = true ↔
    ∃ g, s.settings.fitted g = true ∧ (s.fume.gases.get g).valid = false := by
  simp only [State.env, State.invalid, ho, Bool.true_and, Bool.or_eq_true, Bool.and_eq_true, Bool.not_eq_true']
  constructor
  · rintro (h | h)
    · exact ⟨.co, h⟩
    · exact ⟨.no2, h⟩
  · rintro ⟨g, h⟩
    cases g
    · exact .inl h
    · exact .inr h

theorem State.stageSound_iff (s : State) : s.stageSound ↔ s.comms.fan.stageMet s.env := by
  unfold State.stageSound FanCtl.stageMet
  refine forall_congr' fun ho => forall_congr' fun _ => and_congr Iff.rfl (forall_congr' fun _ => and_congr ?_ Iff.rfl)
  rw [s.invalid_iff ho]
  exact ⟨fun h ⟨g, hf, hv⟩ => h g hf hv, fun h g hf hv => h ⟨g, hf, hv⟩⟩

theorem Comms.Path.stageMet {e : Env} {c d : Comms} (h : c.Path e d) (hc : c.fan.stageMet e) : d.fan.stageMet e := by
  induction h with
  | refl => exact hc
  | tail _ hmove ih =>
    cases hmove with
    | fans fc _ stage => exact stage ih
    | offer p _ _ => rw [(offerFrame_frame e p _).1]; exact ih
    | link _ _ | leave _ _ | service _ _ | notices _ _ => exact ih

/-- Once the demand has been worked out again, the stage in force is at least what it asks, whatever the stage was
before: a rise takes effect at once, and a fall is one step from above it (R38). -/
theorem reworkDemand_stageMet (e : Env) (c : Comms) : (reworkDemand e c).fan.stageMet e := by
  have hset {n : Nat} (hn : demand e c.fan ≤ n) : (setStage e n c).fan.stageMet e :=
    (selected_setStage_path e n c).stageMet (FanCtl.selected_stageMet (stageMet_of_demand_le (fc := c.fan) rfl hn))
  unfold reworkDemand
  split
  next ho => exact fun h => absurd h (by simpa using ho)
  · split
    · exact hset (Nat.le_refl _)
    · split
      next hfall => exact hset (Nat.le_sub_one_of_lt hfall.1)
      next hnot _ => exact stageMet_of_demand_le (fc := c.fan) rfl (Nat.le_of_not_lt hnot)

theorem State.reworkDemand_stageSound (s : State) : s.reworkDemand.stageSound :=
  (State.stageSound_iff _).mpr (reworkDemand_stageMet s.env s.comms)

theorem State.stageSound_congr {s t : State} (hs : s.stageSound) (henv : t.env = { s.env with
    now := t.now, moment := t.moment }) (hstage : t.comms.fan.stage = s.comms.fan.stage)
    (hboost : ∀ b, t.comms.fan.boost = some b → ∃ a, s.comms.fan.boost = some a ∧ a.stage = b.stage) :
    t.stageSound := by
  rw [State.stageSound_iff] at *
  rw [henv]
  intro ho ht
  obtain ⟨hgrave, hcalm⟩ := hs ho ht
  rw [hstage]
  refine ⟨hgrave, fun hg => ?_⟩
  obtain ⟨hinvalid, hb, hentry⟩ := hcalm hg
  refine ⟨hinvalid, fun b hfb => ?_, hentry⟩
  obtain ⟨a, ha, heq⟩ := hboost b hfb
  exact heq ▸ hb a ha

theorem State.PlainMove.stageSound {s t : State} (h : s.PlainMove t) (hs : s.stageSound) : t.stageSound := by
  cases h with
  | tick =>
    refine State.stageSound_congr hs rfl rfl fun b hb => ?_
    obtain ⟨a, ha, rfl⟩ := Option.map_eq_some_iff.mp hb
    exact ⟨a, ha, rfl⟩
  | comms c path =>
    rw [State.stageSound_iff] at *
    exact path.stageMet hs
  | fume f same valid _ =>
    refine State.stageSound_congr hs ?_ rfl fun b hb => ⟨b, hb, rfl⟩
    have hvalid (g : Gas) : ({ s with fume := f } : State).invalid g = s.invalid g := by
      simp only [State.invalid, State.operating]
      rw [valid g]
    obtain ⟨-, -, -, hes, -⟩ := same
    simp only [State.env, hvalid, hes]
    rfl
  | zone z state =>
    refine State.stageSound_congr hs ?_ rfl fun b hb => ⟨b, hb, rfl⟩
    simp only [State.env, State.grave, state]
    rfl
  | moment _ _ | heads _ _ | scanner _ _ | tracker _ | guide _ _ | advert _ _ | lamps _ _
  | peers _ | store _ => exact State.stageSound_congr hs rfl rfl fun b hb => ⟨b, hb, rfl⟩

theorem State.Move.stageSound {full : Bool} {s t : State} (h : State.Move full s t) (hs : s.stageSound) :
    t.stageSound := by
  cases h with
  | plain h => exact h.stageSound hs
  | validity _ _ _ _ | effective _ _ _ _ _ | queues _ _ => exact State.reworkDemand_stageSound _
  | fumeScore _ => exact State.reworkDemand_stageSound _
  | setZone _ st =>
    rw [State.setZone_eq]
    exact (State.reportEvent_path _).keeps_plain (P := State.stageSound) PlainMove.stageSound
      (State.reworkDemand_stageSound _)

theorem stageSound_of_start (s : State) (pins : Pins) (kept : Option Kept) : (s.start pins kept).stageSound := by
  obtain h | h := s.start_cases pins kept <;> rw [h]
  · exact fun ho => nomatch ho
  · exact (State.presentCounts_path _).keeps_plain (P := State.stageSound) State.PlainMove.stageSound
      (State.reworkDemand_stageSound _)

/-- Settles O29: selection gives the duties at every change of the stage, and every change of what the demand rests on
ends with the demand worked out again. -/
theorem stageMeetsTheDemandAndDutiesFollow : Obligations.StageMeetsTheDemandAndDutiesFollow :=
  fun _ _ hduties hstage h =>
    ⟨step_keeps (P := State.dutiesSound) State.Move.dutiesSound dutiesSound_of_start hduties h,
      step_keeps (P := State.stageSound) State.Move.stageSound stageSound_of_start hstage h⟩

end Sys2Proof.Machine
end

section
/-! O53: the advertised figures and the lamp targets follow the zone (R134, R147, R148). -/

namespace Sys2Proof.Machine

/-! ## The advertised figures (R134) -/

theorem State.PlainMove.advertSound {s t : State} (h : s.PlainMove t) (hs : s.advertSound) : t.advertSound := by
  cases h with
  | zone z state =>
    intro hz
    exact hs fun hn => hz (state.trans hn)
  | guide g advert =>
    obtain ⟨hgeneral, haccessible, hoffer⟩ := advert
    intro hz
    rw [hgeneral, haccessible, hoffer]
    exact hs hz
  | advert g advert =>
    obtain ⟨hgeneral, haccessible, hoffer⟩ := advert
    intro hz
    have hzero : s.advert = ⟨0, 0, Offer.zero s.settings.unit⟩ := if_neg hz
    rw [hgeneral, haccessible, hoffer, hzero]
    exact ⟨rfl, rfl, rfl⟩
  | tick | moment _ _ | heads _ _ | comms _ _ | fume _ _ _ _ | scanner _ _ | tracker _ | lamps _ _ | peers _
  | store _ => exact hs

/-- The advertised figures as just re-formed. -/
theorem State.reformAdvert_advertSound (s : State) : s.reformAdvert.advertSound := by
  have hset : ({ s with guide := { s.guide with
      advGeneral := s.advert.general, advAccessible := s.advert.accessible, advOffer := s.advert.offer } } :
        State).advertSound := by
    intro hz
    have hzero : s.advert = ⟨0, 0, Offer.zero s.settings.unit⟩ := if_neg hz
    rw [hzero]
    exact ⟨rfl, rfl, rfl⟩
  unfold State.reformAdvert
  dsimp only
  split
  · refine (State.reportEvent_path _).keeps_plain (P := State.advertSound) State.PlainMove.advertSound ?_
    exact hset
  · exact hset

theorem State.Move.advertSound {full : Bool} {s t : State} (h : State.Move full s t) (hs : s.advertSound) :
    t.advertSound := by
  refine h.keeps_of (P := State.advertSound) PlainMove.advertSound (fun _ _ _ hs => hs) (fun {s} st _ => ?_) hs
  rw [State.setZone_eq]
  exact ((State.reportEvent_path _).after (State.reworkDemand_path _)).keeps_plain (P := State.advertSound)
    PlainMove.advertSound (State.reformAdvert_advertSound _)

theorem advertSound_of_start (s : State) (pins : Pins) (kept : Option Kept) : (s.start pins kept).advertSound :=
  start_keeps (P := State.advertSound) State.Move.advertSound (fun _ hz => absurd rfl hz) (fun _ _ hz => absurd rfl hz)
    s pins kept

/-! ## The lamp targets (R147, R148) -/

theorem State.lampsSound_congr {s t : State} (hs : s.lampsSound) (hset : t.settings = s.settings)
    (hforced : t.forced = s.forced) (hlamps : t.lamps = s.lamps) : t.lampsSound := by
  rw [State.lampsSound_iff] at *
  rw [hset, hforced, hlamps]
  exact hs

theorem State.PlainMove.lampsSound {s t : State} (h : s.PlainMove t) (hs : s.lampsSound) : t.lampsSound := by
  cases h with
  | tick =>
    rw [State.lampsSound_iff] at *
    intro k
    have hk : s.tick.lamps.channels.get k = (s.lamps.channels.get k).tick := Tbl.get_map ..
    have hlive (x : PresenceTimer) : x.tick.isLive = x.isLive := by cases x <;> rfl
    have htarget : targetOf s.forced (s.settings.lamps.get k) (s.lamps.channels.get k).tick =
        targetOf s.forced (s.settings.lamps.get k) (s.lamps.channels.get k) := by
      simp only [targetOf, freeTarget, Channel.tick, hlive]
      rfl
    rw [hk]
    exact (hs k).trans htarget.symm
  | zone z state =>
    refine State.lampsSound_congr hs rfl ?_ rfl
    simp [State.forced, State.grave, State.operating, state]
  | lamps x sound => exact sound hs
  | moment _ _ | heads _ _ | comms _ _ | fume _ _ _ _ | scanner _ _ | tracker _ | guide _ _ | advert _ _ | peers _
  | store _ => exact State.lampsSound_congr hs rfl rfl rfl

theorem State.retargetAll_lampsSound (s : State) : s.retargetAll.lampsSound := by
  rw [State.lampsSound_iff]
  intro k
  simp only [State.retargetAll, Tbl.get_mapIdx]
  rfl

theorem State.lampsZoneChange_lampsSound (s : State) (grave : Bool) : (s.lampsZoneChange grave).lampsSound := by
  have hall := s.retargetAll_lampsSound
  unfold State.lampsZoneChange
  dsimp only
  split
  · exact (State.countLamp_path (full := false) _ _).keeps_plain (P := State.lampsSound) PlainMove.lampsSound hall
  · exact hall

theorem State.Move.lampsSound {full : Bool} {s t : State} (h : State.Move full s t) (hs : s.lampsSound) :
    t.lampsSound := by
  refine h.keeps_of (P := State.lampsSound) PlainMove.lampsSound
    (fun _ _ _ hs => State.lampsSound_congr hs rfl rfl rfl) (fun {s} st _ => ?_) hs
  rw [State.setZone_eq]
  refine ((State.reportEvent_path _).after ((State.reworkDemand_path _).after (State.reformGuide_path _))).keeps_plain
    (P := State.lampsSound) PlainMove.lampsSound ?_
  exact State.lampsZoneChange_lampsSound _ _

theorem lampsSound_of_start (s : State) (pins : Pins) (kept : Option Kept) : (s.start pins kept).lampsSound := by
  refine start_keeps (P := State.lampsSound) State.Move.lampsSound (fun s k => ?_) (fun s kept => ?_) s pins kept
  · have hk : s.stopped.enterCommission.lamps.channels.get k = Channel.reset Config.top := Tbl.get_const ..
    rw [hk]
    exact (if_pos (.inl rfl)).symm
  · rw [State.lampsSound_iff]
    intro k
    have hk : (s.stopped.loadBlocks kept).lamps.channels.get k =
      (Channel.reset 0).retarget false ((settingsOf s.stopped.store.stored).lamps.get k) := Tbl.get_ofFn ..
    rw [hk]
    rfl

/-- Settles O53: a change of zone state re-forms every target and the figures; every other move keeps them. -/
theorem guidanceAndLampsFollowTheZone : Obligations.GuidanceAndLampsFollowTheZone := fun _ _ hadvert hlamps h =>
  ⟨step_keeps (P := State.advertSound) State.Move.advertSound advertSound_of_start hadvert h,
    step_keeps (P := State.lampsSound) State.Move.lampsSound lampsSound_of_start hlamps h⟩

end Sys2Proof.Machine
end

section
/-! What the bays and arrivals keep: the arrival list within its places, and one arrival to every HELD bay (R107, R117,
R119 to R126). -/

namespace Sys2Proof.Machine

/-! ## The rules -/

/-- The number of entries of a list that hold bay `b`. -/
def holders (l : List Arrival) (b : Fin 48) : Nat := l.countP (Arrival.holds b)

/-- The bays but `b` are HELD exactly while one arrival holds them. -/
def State.holdsSoundBut (s : State) (b : Fin 48) : Prop :=
  ∀ c, c ≠ b → holders s.tracker.list c = if s.bayState c = .held then 1 else 0

/-- From `s` to `t` the arrival list stays within its places, and the holds stay sound. -/
structure State.Tracks (s t : State) : Prop where
  places : s.tracker.list.length ≤ 16 → t.tracker.list.length ≤ 16
  holds : s.holdsSound → t.holdsSound

theorem State.holdsSound_iff (s : State) :
    s.holdsSound ↔ ∀ b, holders s.tracker.list b = if s.bayState b = .held then 1 else 0 := by
  simp only [State.holdsSound, holders, List.countP_eq_length_filter]

theorem State.holdsSound_congr {s t : State} (hlist : t.tracker.list = s.tracker.list)
    (hbays : ∀ b, t.bayState b = s.bayState b) : t.holdsSound ↔ s.holdsSound := by
  unfold State.holdsSound
  simp only [hlist, hbays]

theorem State.holdsSound.but {s : State} (hs : s.holdsSound) (b : Fin 48) : s.holdsSoundBut b :=
  fun c _ => s.holdsSound_iff.mp hs c

theorem State.holdsSoundBut.sound {s : State} {b : Fin 48} (hs : s.holdsSoundBut b)
    (hb : holders s.tracker.list b = if s.bayState b = .held then 1 else 0) : s.holdsSound := by
  refine s.holdsSound_iff.mpr fun c => ?_
  by_cases hc : c = b
  · subst hc; exact hb
  · exact hs c hc

theorem State.holdsSoundBut.congr {s t : State} {b : Fin 48} (hs : s.holdsSoundBut b)
    (hlist : t.tracker.list = s.tracker.list) (hbays : ∀ c, c ≠ b → t.bayState c = s.bayState c) :
    t.holdsSoundBut b := by
  intro c hc
  rw [hlist, hbays c hc]
  exact hs c hc

/-- In a sound station at most one arrival holds a bay, and one holds it only while it is HELD. -/
theorem State.holdsSound.holders_le {s : State} (hs : s.holdsSound) (b : Fin 48) : holders s.tracker.list b ≤ 1 := by
  rw [s.holdsSound_iff.mp hs b]
  split <;> omega

theorem State.holdsSound.holders_eq_zero {s : State} (hs : s.holdsSound) {b : Fin 48} (hb : s.bayState b ≠ .held) :
    holders s.tracker.list b = 0 := by
  rw [s.holdsSound_iff.mp hs b, if_neg hb]

namespace State.Tracks

variable {s t u : State}

theorem refl : s.Tracks s := ⟨id, id⟩

theorem trans (h : s.Tracks t) (k : t.Tracks u) : s.Tracks u := ⟨k.places ∘ h.places, k.holds ∘ h.holds⟩

theorem after (k : t.Tracks u) (h : s.Tracks t) : s.Tracks u := h.trans k

/-- The arrival list stays, and every bay its state. -/
theorem of_same (hlist : t.tracker.list = s.tracker.list) (hbays : ∀ b, t.bayState b = s.bayState b) : s.Tracks t :=
  ⟨fun h => hlist ▸ h, (State.holdsSound_congr hlist hbays).mpr⟩

/-- The tracker stays, and every bay record. -/
theorem of_frame (htracker : t.tracker = s.tracker) (hbays : t.scanner.bays = s.scanner.bays) : s.Tracks t :=
  of_same (by rw [htracker]) fun b => by rw [State.bayState, State.bayState, hbays]

theorem foldl {α : Type} {f : State → α → State} (h : ∀ (s : State) a, s.Tracks (f s a)) :
    ∀ (l : List α) (s : State), s.Tracks (l.foldl f s)
  | [], _ => refl
  | a :: l, s => (h s a).trans (foldl h l _)

end State.Tracks

/-! ## Bay records -/

theorem State.setBay_bayState (s : State) (b c : Fin 48) (f : Bay → Bay) :
    (s.setBay b f).bayState c = if c = b then (f (s.scanner.bays.get b)).state else s.bayState c := by
  unfold State.bayState State.setBay
  by_cases hc : c = b
  · subst hc
    rw [if_pos rfl]
    exact (congrArg Bay.state (Tbl.get_modify_self s.scanner.bays c _)).trans rfl
  · rw [if_neg hc]
    exact congrArg Bay.state (Tbl.get_modify_ne _ _ hc)

theorem State.changeBay_bayState (s : State) (b c : Fin 48) (f : Bay → Bay) :
    (s.changeBay b f).bayState c = if c = b then (f (s.scanner.bays.get b)).state else s.bayState c := by
  rw [← s.setBay_bayState b c f]
  unfold State.changeBay
  dsimp only
  split
  · rfl
  · simp only [State.bayState, State.presentCounts_frame]

theorem State.setBay_tracks (s : State) {b : Fin 48} {f : Bay → Bay}
    (h : (f (s.scanner.bays.get b)).state = s.bayState b) : s.Tracks (s.setBay b f) := by
  refine .of_same rfl fun c => ?_
  rw [s.setBay_bayState]
  split
  next hc => rw [hc, h]
  next => rfl

theorem State.countBay_tracks (s : State) (f : BayCounters → BayCounters) : s.Tracks (s.countBay f) :=
  .of_frame rfl rfl

theorem State.reformLeadIn_tracks (s : State) : s.Tracks s.reformLeadIn :=
  .of_same (by simp) fun b => by simp [State.bayState]

/-! ## Holds (R107, R120, R121) -/

@[simp] theorem holders_cons (a : Arrival) (l : List Arrival) (b : Fin 48) :
    holders (a :: l) b = holders l b + if a.bay = some b then 1 else 0 := by
  simp [holders, List.countP_cons, Arrival.holds]

@[simp] theorem holders_nil (b : Fin 48) : holders [] b = 0 := rfl

/-- The bay given to an unheld entry has one holder more. -/
theorem holders_giveBay (b c : Fin 48) : ∀ l : List Arrival, (l.any fun a => a.bay.isNone) = true →
    holders (giveBay b l) c = holders l c + if c = b then 1 else 0
  | [], h => by simp at h
  | a :: rest, h => by
    unfold giveBay
    split
    next hnone =>
      have hbay : a.bay = none := by simpa using hnone
      simp [hbay, eq_comm]
    next hsome =>
      rw [holders_cons, holders_giveBay b c rest (by simpa [hsome] using h), holders_cons]
      omega

/-- A pass gives a FREE bay to an unheld entry, or changes nothing but a counter. -/
theorem State.holdPass_tracks {s : State} (hs : s.hasUnheld = true) (b : Fin 48) : s.Tracks (s.holdPass b) := by
  unfold State.holdPass State.holdRequest
  split
  next hfree =>
    dsimp only
    refine (State.reformLeadIn_tracks _).after ⟨fun h => ?_, fun h => ?_⟩
    · have hlength := congrArg List.length (giveBay_stamps b s.tracker.list)
      simp only [List.length_map] at hlength
      simpa [hlength] using h
    · have hgiven (c : Fin 48) : holders (giveBay b (s.changeBay b (Bay.enter .held)).tracker.list) c =
          holders s.tracker.list c + if c = b then 1 else 0 := by
        rw [State.changeBay_frame .. |>.2.2.2.2.2.2.2.1]
        exact holders_giveBay b c _ hs
      refine (State.holdsSound_iff _).mpr fun c => (hgiven c).trans ?_
      refine Eq.trans ?_ (congrArg (fun st => if st = BayState.held then 1 else 0) (s.changeBay_bayState b c _)).symm
      by_cases hc : c = b
      · subst hc
        simp [h.holders_eq_zero (b := c) (by rw [hfree]; decide), Bay.enter]
      · simpa [hc] using s.holdsSound_iff.mp h c
  next =>
    dsimp only
    rw [if_neg (by simp)]
    exact s.countBay_tracks _

theorem holdPasses_tracks : ∀ (n : Nat) (s : State), s.Tracks (holdPasses n s)
  | 0, _ => .refl
  | n + 1, s => by
    unfold holdPasses
    split
    · exact .refl
    next hgo =>
      simp only [Bool.or_eq_true, Bool.not_eq_true', not_or, Bool.not_eq_false] at hgo
      split
      · exact .refl
      · exact (State.holdPass_tracks hgo.2 _).trans (holdPasses_tracks n _)

theorem State.holdRound_tracks (s : State) : s.Tracks s.holdRound := holdPasses_tracks _ s

/-! ## Releases and removals (R107, R121 to R126) -/

theorem State.release_length (s : State) (b : Fin 48) : (s.release b).tracker.list.length = s.tracker.list.length := by
  simpa using congrArg List.length (s.release_rebayed b).stamps

/-- A release of a bay that no arrival holds any more makes the holds sound. -/
theorem State.release_sound {s : State} {b : Fin 48} (hs : s.holdsSoundBut b) (hb : holders s.tracker.list b = 0) :
    (s.release b).holdsSound := by
  unfold State.release
  split
  next =>
    refine (State.holdRound_tracks _).holds (State.holdsSoundBut.sound (b := b) (hs.congr (by simp) fun c hc => ?_) ?_)
    · rw [s.changeBay_bayState, if_neg hc]
    · rw [s.changeBay_bayState, if_pos rfl]
      simpa [Bay.enter] using hb
  next hheld => exact hs.sound (by rw [hb, if_neg hheld])

/-- After the oldest entry of a sound station has left, the bays but the one that it held are sound. -/
theorem State.holdsSound.without_oldest {s t : State} (hs : s.holdsSound) {a : Arrival}
    (hlist : s.tracker.list = a :: t.tracker.list) (hbays : ∀ b, t.bayState b = s.bayState b) :
    (a.bay = none → t.holdsSound) ∧ ∀ b, a.bay = some b → t.holdsSoundBut b ∧ holders t.tracker.list b = 0 := by
  have hcount (c : Fin 48) : holders t.tracker.list c + (if a.bay = some c then 1 else 0) =
      if t.bayState c = .held then 1 else 0 := by
    rw [hbays, ← holders_cons, ← hlist]
    exact s.holdsSound_iff.mp hs c
  refine ⟨fun hnone => t.holdsSound_iff.mpr fun c => ?_, fun b hb => ⟨fun c hc => ?_, ?_⟩⟩
  · simpa [hnone] using hcount c
  · have hne : ¬ b = c := fun h => hc h.symm
    simpa [hb, hne] using hcount c
  · have hone := hcount b
    rw [if_pos hb] at hone
    split at hone <;> omega

theorem State.endHold_sound' {s : State} {a : Arrival} (hnone : a.bay = none → s.holdsSound)
    (hsome : ∀ b, a.bay = some b → s.holdsSoundBut b ∧ holders s.tracker.list b = 0) : (s.endHold a).holdsSound := by
  unfold State.endHold
  split
  next h => exact hnone h
  next b h =>
    obtain ⟨hbut, hzero⟩ := hsome b h
    exact State.release_sound (hbut.congr (by simp) fun c _ => by simp [State.bayState]) (by simpa using hzero)

theorem State.removeOldest_length (s : State) (f : ArrivalCounters → ArrivalCounters) :
    (s.removeOldest f).tracker.list.length = s.tracker.list.length - 1 := by
  simpa using congrArg List.length (s.removeOldest_moves f).2.2.1

theorem State.removeOldest_tracks (s : State) (f : ArrivalCounters → ArrivalCounters) : s.Tracks (s.removeOldest f) := by
  refine ⟨fun h => by rw [s.removeOldest_length]; omega, fun hs => ?_⟩
  unfold State.removeOldest
  split
  next => exact hs
  next a rest hcons =>
    obtain ⟨hnone, hsome⟩ := hs.without_oldest (t := (s.setList rest).countArrival f) (a := a) hcons fun _ => rfl
    exact State.endHold_sound' hnone hsome

theorem State.evict_tracks (s : State) : s.Tracks s.evict := by
  unfold State.evict
  split
  · exact s.removeOldest_tracks _
  · exact .refl

/-- A new entry holds no bay. -/
theorem State.appendArrival_holds {s : State} (hs : s.holdsSound) (src : Source) : (s.appendArrival src).holdsSound := by
  refine (State.holdsSound_iff _).mpr fun b => ?_
  rw [show (s.appendArrival src).bayState b = s.bayState b from rfl, ← s.holdsSound_iff.mp hs b]
  simp [State.appendArrival, holders, Arrival.holds]

theorem State.addArrival_tracks (s : State) (src : Source) : s.Tracks (s.addArrival src) where
  places h := by rw [s.addArrival_length]; split <;> omega
  holds hs := by
    rw [s.addArrival_eq]
    exact (State.holdRound_tracks _).holds (State.appendArrival_holds (s.evict_tracks.holds hs) src)

/-- The entry that held a parked bay leaves with it. -/
theorem holders_eraseP (b c : Fin 48) : ∀ l : List Arrival, l.any (Arrival.holds b) = true →
    holders (l.eraseP (Arrival.holds b)) c + (if c = b then 1 else 0) = holders l c
  | [], h => by simp at h
  | a :: rest, h => by
    rw [List.eraseP_cons]
    by_cases ha : a.bay = some b
    · simp [Arrival.holds, ha, eq_comm]
    · have hrest := holders_eraseP b c rest (by simpa [Arrival.holds, ha] using h)
      simp only [Arrival.holds, ha, decide_false, cond_false, holders_cons] at hrest ⊢
      omega

/-- A parking at a bay that is no longer HELD: the entry that held it leaves, or else the oldest does (R122). -/
theorem State.parking_sound {s : State} {b : Fin 48} (hs : s.holdsSoundBut b) (hle : holders s.tracker.list b ≤ 1)
    (hb : s.bayState b ≠ .held) : (s.parking b).holdsSound := by
  unfold State.parking
  split
  next hany =>
    refine (State.reformLeadIn_tracks _).holds (State.holdsSoundBut.sound (b := b) (fun c hc => ?_) ?_)
    · have hsame := holders_eraseP b c _ hany
      rw [if_neg hc] at hsame
      exact hsame.trans (hs c hc)
    · have hone := holders_eraseP b b _ hany
      rw [if_pos rfl] at hone
      have hzero : holders (s.tracker.list.eraseP (Arrival.holds b)) b = 0 := by omega
      exact hzero.trans (if_neg hb).symm
  next hnone =>
    refine (s.removeOldest_tracks _).holds (hs.sound ?_)
    rw [if_neg hb]
    exact List.countP_eq_zero.mpr fun a ha hholds => hnone (List.any_eq_true.mpr ⟨a, ha, hholds⟩)

theorem State.parking_length (s : State) (b : Fin 48) : (s.parking b).tracker.list.length ≤ s.tracker.list.length := by
  unfold State.parking
  split
  · simpa using (List.eraseP_sublist (l := s.tracker.list)).length_le
  · rw [s.removeOldest_length]; omega

/-- No entry holds a bay that failed, and the other bays have the holders they had. -/
theorem holders_unhold (b c : Fin 48) : ∀ l : List Arrival,
    holders (l.map fun a => if a.holds b then { a with bay := none } else a) c = if c = b then 0 else holders l c
  | [] => by simp
  | a :: rest => by
    rw [List.map_cons, holders_cons, holders_unhold b c rest, holders_cons]
    by_cases ha : a.bay = some b
    · by_cases hc : c = b
      · simp [Arrival.holds, ha, hc]
      · have hne : ¬ b = c := fun h => hc h.symm
        simp [Arrival.holds, ha, hc, hne]
    · by_cases hc : c = b
      · subst hc; simp [Arrival.holds, ha]
      · simp [Arrival.holds, ha, hc]

/-- The entry that held a bay loses it, where the bay is no longer HELD (R123). -/
theorem State.holdLost_sound {s : State} {b : Fin 48} (hs : s.holdsSoundBut b) (hb : s.bayState b ≠ .held) :
    (s.holdLost b).holdsSound := by
  unfold State.holdLost
  refine (State.holdRound_tracks _).holds ((State.reformLeadIn_tracks _).holds
    (State.holdsSoundBut.sound (b := b) (fun c hc => ?_) ?_))
  · exact (holders_unhold b c _).trans ((if_neg hc).trans (hs c hc))
  · exact (holders_unhold b b _).trans ((if_pos rfl).trans (if_neg hb).symm)

theorem State.holdRound_length (s : State) : s.holdRound.tracker.list.length = s.tracker.list.length := by
  simpa using congrArg List.length s.holdRound_rebayed.stamps

theorem State.holdLost_length (s : State) (b : Fin 48) : (s.holdLost b).tracker.list.length = s.tracker.list.length := by
  unfold State.holdLost
  simp only [State.holdRound_length, State.reformLeadIn_tracker, State.countArrival_tracker, State.setList_tracker,
    List.length_map]

/-- A release while no arrival is in the list. -/
theorem State.release_of_empty {s : State} (hs : s.tracker.list = []) (b c : Fin 48) :
    (s.release b).tracker.list = [] ∧
    (s.release b).bayState c = if c = b ∧ s.bayState b = .held then .free else s.bayState c := by
  refine ⟨List.length_eq_zero_iff.mp (by rw [s.release_length, hs]; rfl), ?_⟩
  unfold State.release
  split
  next hheld =>
    have hround : (s.changeBay b (Bay.enter .free)).holdRound = s.changeBay b (Bay.enter .free) := by
      rw [State.holdRound, State.changeBay_frame .. |>.2.2.2.2.2.2.2.1, hs]
      rfl
    rw [hround, s.changeBay_bayState]
    by_cases hc : c = b
    · rw [if_pos hc, if_pos ⟨hc, hheld⟩]; rfl
    · rw [if_neg hc, if_neg fun h => hc h.1]
  next hheld => rw [if_neg fun h => hheld h.2]

/-- Every HELD bay released while no arrival is in the list: no bay is HELD. -/
theorem foldl_release_of_empty (c : Fin 48) : ∀ (bs : List (Fin 48)) {s : State}, s.tracker.list = [] →
    (bs.foldl State.release s).tracker.list = [] ∧
    ((bs.foldl State.release s).bayState c = .held → c ∉ bs ∧ s.bayState c = .held)
  | [], s, hs => ⟨hs, fun h => ⟨by simp, h⟩⟩
  | b :: bs, s, hs => by
    obtain ⟨hlist, hbay⟩ := State.release_of_empty hs b c
    obtain ⟨hend, hheld⟩ := foldl_release_of_empty c bs hlist
    refine ⟨hend, fun h => ?_⟩
    obtain ⟨hnot, hstill⟩ := hheld h
    rw [hbay] at hstill
    split at hstill
    · cases hstill
    next hcond =>
      refine ⟨fun hmem => ?_, hstill⟩
      obtain rfl | hmem := List.mem_cons.mp hmem
      · exact hcond ⟨rfl, hstill⟩
      · exact hnot hmem

theorem State.clearArrivals_empty (s : State) (c : Fin 48) :
    s.clearArrivals.tracker.list = [] ∧ s.clearArrivals.bayState c ≠ .held := by
  unfold State.clearArrivals
  dsimp only
  generalize hcleared : (State.reformLeadIn _) = t
  have hempty : t.tracker.list = [] := by rw [← hcleared]; simp
  obtain ⟨hlist, hheld⟩ := foldl_release_of_empty c (List.finRange 48) hempty
  exact ⟨hlist, fun h => (hheld h).1 (List.mem_finRange c)⟩

theorem State.clearArrivals_tracks (s : State) : s.Tracks s.clearArrivals where
  places _ := by rw [(s.clearArrivals_empty 0).1]; simp
  holds _ := (State.holdsSound_iff _).mpr fun b => by
    obtain ⟨hlist, hheld⟩ := s.clearArrivals_empty b
    rw [hlist, if_neg hheld]; rfl

theorem State.arrivalsZoneChange_tracks (s : State) (was : Bool) : s.Tracks (s.arrivalsZoneChange was) := by
  unfold State.arrivalsZoneChange
  split
  · exact .refl
  · split
    · exact s.clearArrivals_tracks
    · exact s.holdRound_tracks

end Sys2Proof.Machine
end

section
/-! O49: every command keeps the arrival list within its places and one arrival to every HELD bay (R107, R117, R121 to
R126). -/

namespace Sys2Proof.Machine

section
variable (s : State)

/-! ## Scores and zone state -/

theorem State.onComms_tracks (f : Env → Comms → Comms) : s.Tracks (s.onComms f) := .of_frame rfl rfl

theorem State.reformEs_tracks : s.Tracks s.reformEs := .of_frame (by simp) (by simp)

theorem State.zoneEntered_tracks (st : ZoneState) : s.Tracks (s.zoneEntered st) := by
  unfold State.zoneEntered
  dsimp only
  split <;> exact .of_frame rfl rfl

theorem State.reformIndicators_tracks : s.Tracks s.reformIndicators := by
  refine .of_same rfl fun b => ?_
  simp only [State.bayState, State.reformIndicators, Tbl.get_mapIdx]
  rfl

theorem State.setZone_tracks (st : ZoneState) : s.Tracks (s.setZone st) := by
  have hbays : s.Tracks (((s.zoneEntered st).reformIndicators).arrivalsZoneChange s.grave) :=
    (State.arrivalsZoneChange_tracks _ _).after ((State.reformIndicators_tracks _).after (s.zoneEntered_tracks st))
  have htold (t : State) (was : Bool) :
      t.Tracks ((((t.gasZoneChange was).lampsZoneChange was).presentZone.reworkDemand).reportEvent) :=
    .of_frame (by simp) (by simp)
  rw [State.setZone_eq]
  exact hbays.trans (htold _ _)

theorem State.evaluate_tracks : s.Tracks s.evaluate := by
  unfold State.evaluate
  split
  · exact .refl
  · exact s.setZone_tracks _

/-- The zone state controller takes what it is told, and evaluates. -/
theorem State.zoneEvaluate_tracks (z : ZoneCtl) : s.Tracks ({ s with zone := z } : State).evaluate :=
  (State.evaluate_tracks _).after (.of_frame rfl rfl)

theorem State.zoneTakesGas_tracks (g : Gas) : s.Tracks (s.zoneTakesGas g) := s.zoneEvaluate_tracks _

theorem State.ventSettle_tracks : s.Tracks s.ventSettle := by
  unfold State.ventSettle
  split
  · exact s.zoneEvaluate_tracks _
  · exact .refl

theorem State.gasTakesFs_tracks : s.Tracks s.gasTakesFs := .of_frame (by simp) (by simp)

theorem State.reformFs_tracks : s.Tracks s.reformFs := by
  have htold (f : Fume) : s.Tracks ({ s with fume := f } : State).zoneTakesFs :=
    (State.zoneEvaluate_tracks _ _).after (.of_frame rfl rfl)
  unfold State.reformFs
  dsimp only
  split
  · exact (State.reformEs_tracks _).after (htold _)
  · exact (State.reformEs_tracks _).after ((State.gasTakesFs_tracks _).after (htold _))

theorem State.presentValidity_tracks (g : Gas) (was : Bool) : s.Tracks (s.presentValidity g was) := by
  unfold State.presentValidity
  split
  · exact .refl
  · exact (State.zoneTakesGas_tracks _ g).after (s.onComms_tracks _)

theorem State.gasUpdate_tracks : s.Tracks s.gasUpdate := by
  have hgases : s.Tracks ((s.updateGas .co).updateGas .no2) := .of_frame (by simp) (by simp)
  unfold State.gasUpdate
  exact (State.reformFs_tracks _).after ((State.presentValidity_tracks _ _ _).after
    ((State.presentValidity_tracks _ _ _).after hgases))

theorem State.closeMinute_tracks : s.Tracks s.closeMinute :=
  (State.reformFs_tracks _).after (.of_frame (by simp) (by simp))

/-! ## Bays (R102 to R105) -/

theorem State.beginScan_tracks : s.Tracks s.beginScan := by
  refine .of_same rfl fun b => ?_
  simp only [State.bayState, State.beginScan, Tbl.get_map]
  rfl

theorem State.toggleFlash_tracks : s.Tracks s.toggleFlash := by
  refine .of_same rfl fun b => ?_
  simp only [State.bayState, State.toggleFlash, Tbl.get_map]
  split <;> rfl

theorem State.polled_tracks (b : Fin 48) : s.Tracks (s.polled b) := .of_frame rfl rfl

theorem Bay.takeReading_state (r : Reading) (x : Bay) : (x.takeReading r).state = x.state := by
  unfold Bay.takeReading
  split
  · rfl
  · split <;> rfl

/-- A reading that a bay's state expects is not confirmed (R103). -/
theorem Bay.unconfirmed_of_settled {r : Reading} {x : Bay} (h : settledMeaning x.state = some r) (n : Nat) :
    (x.takeReading r).isConfirmed n = false := by
  simp [Bay.takeReading, h, Bay.isConfirmed]

theorem State.bayMovement_tracks (b : Fin 48) : s.Tracks (s.bayMovement b) := .of_frame (by simp) (by simp)

/-- A bay that changes state with the others left alone. -/
theorem State.changeBay_but {s : State} (hs : s.holdsSound) (b : Fin 48) (f : Bay → Bay) :
    (s.changeBay b f).holdsSoundBut b :=
  (hs.but b).congr (by simp) fun c hc => by rw [s.changeBay_bayState, if_neg hc]

/-- A bay that is and was not HELD changes state. -/
theorem State.changeBay_tracks {b : Fin 48} {f : Bay → Bay} (hwas : s.bayState b ≠ .held)
    (hnow : (f (s.scanner.bays.get b)).state ≠ .held) : s.Tracks (s.changeBay b f) where
  places h := by simpa using h
  holds hs := by
    refine (State.changeBay_but hs b f).sound ?_
    rw [s.changeBay_bayState, if_pos rfl, if_neg hnow]
    simpa using hs.holders_eq_zero hwas

theorem stateOfReading_ne_held (r : Reading) : stateOfReading r ≠ .held := by
  cases r <;> simp [stateOfReading]

/-- A confirmed reading: a HELD bay is confirmed OCCUPIED alone, and the arrival that held it leaves (R104, R122). -/
theorem State.confirmReading_tracks {b : Fin 48} {r : Reading} (h : settledMeaning (s.bayState b) ≠ some r) :
    s.Tracks (s.confirmReading b r) := by
  have hstate : (s.changeBay b (Bay.confirm r)).bayState b ≠ .held := by
    rw [s.changeBay_bayState, if_pos rfl]
    exact stateOfReading_ne_held r
  have hconfirm (hwas : s.bayState b ≠ .held) :
      s.Tracks ((s.changeBay b (Bay.confirm r)).countBay fun k => { k with bayConfirms := bump k.bayConfirms }) :=
    (State.countBay_tracks _ _).after (s.changeBay_tracks hwas (stateOfReading_ne_held r))
  unfold State.confirmReading
  dsimp only
  split
  next hwas => exact (State.holdRound_tracks _).after (hconfirm (by rw [hwas]; decide))
  next hwas => exact hconfirm (by rw [hwas]; decide)
  next =>
    refine (State.holdRound_tracks _).after ((State.bayMovement_tracks _ b).after (hconfirm fun hheld => h ?_))
    rw [hheld]; rfl
  next =>
    refine ⟨fun hplaces => (State.parking_length _ b).trans ?_, fun hs => State.parking_sound ?_ ?_ ?_⟩
    · simpa using hplaces
    · exact (State.changeBay_but hs b (Bay.confirm .occupied)).congr (by simp) fun c _ => by simp [State.bayState]
    · simpa using hs.holders_le b
    · simpa [State.bayState] using hstate

theorem State.bayAnswers_tracks (b : Fin 48) (r : Reading) : s.Tracks (s.bayAnswers b r) := by
  have hself : ((s.setBay b (Bay.takeReading r)).polled b).bayState b = s.bayState b := by
    refine (s.setBay_bayState b b _).trans ?_
    rw [if_pos rfl, Bay.takeReading_state]
    rfl
  have hread : s.Tracks ((s.setBay b (Bay.takeReading r)).polled b) :=
    (State.polled_tracks _ b).after (s.setBay_tracks (Bay.takeReading_state r _))
  unfold State.bayAnswers
  dsimp only
  split
  next hconfirmed =>
    refine (State.confirmReading_tracks _ fun hsettled => ?_).after hread
    rw [hself] at hsettled
    have hrecord : ((s.setBay b (Bay.takeReading r)).polled b).scanner.bays.get b =
        ((s.scanner.bays.get b).takeReading r).reform s.grave s.scanner.flashOn (s.settings.bays.get b).cls :=
      Tbl.get_modify_self ..
    rw [hrecord] at hconfirmed
    exact absurd (hconfirmed.symm.trans (Bay.unconfirmed_of_settled hsettled s.settings.confirm)) (by decide)
  next => exact hread

theorem State.bayFails_tracks (b : Fin 48) : s.Tracks (s.bayFails b) := by
  have hstate : (s.changeBay b Bay.fault).bayState b = .fault := by
    rw [s.changeBay_bayState, if_pos rfl]
    rfl
  unfold State.bayFails
  dsimp only
  split
  next hheld =>
    refine ⟨fun h => ?_, fun hs => State.holdLost_sound ?_ ?_⟩
    · rw [State.holdLost_length]; simpa using h
    · exact (State.changeBay_but hs b Bay.fault).congr (by simp) fun c _ => by simp [State.bayState]
    · rw [show ∀ (t : State) f, (t.countBay f).bayState b = t.bayState b from fun _ _ => rfl, hstate]
      decide
  next hwas => exact (State.countBay_tracks _ _).after (s.changeBay_tracks hwas (by simp [Bay.fault]))

theorem State.bayNoAnswers_tracks (b : Fin 48) : s.Tracks (s.bayNoAnswers b) := by
  have hcounted : s.Tracks (((s.setBay b fun x => { x with noAnswer := x.noAnswer + 1 }).polled b).countBay fun k =>
      { k with noAnswers := bump k.noAnswers }) :=
    (State.countBay_tracks _ _).after ((State.polled_tracks _ b).after (s.setBay_tracks rfl))
  unfold State.bayNoAnswers
  dsimp only
  split
  · exact (State.bayFails_tracks _ b).after hcounted
  · exact hcounted

/-! ## Lanes (R110 to R114) -/

theorem State.setLane_tracks (p : Fin 4) (l : Lane) : s.Tracks (s.setLane p l) := .of_frame rfl rfl

theorem State.presenceBegins_tracks (p : Fin 4) : s.Tracks (s.presenceBegins p) :=
  .of_frame (by simp) (by simp [State.presenceBegins])

theorem State.dropQueue_tracks (p : Fin 4) : s.Tracks (s.dropQueue p) := by
  unfold State.dropQueue
  split
  · exact .of_frame (by simp) (by simp)
  · exact .refl

theorem State.presenceEnd_tracks (k : Option (Fin 8)) : s.Tracks (s.presenceEnd k) := .of_frame (by simp) (by simp)

theorem State.presenceEnds_tracks (p : Fin 4) : s.Tracks (s.presenceEnds p) :=
  (State.presenceEnd_tracks _ _).after ((State.dropQueue_tracks _ p).after (s.setLane_tracks p _))

theorem State.passageEffects_tracks (p : Fin 4) (x : Passage) : s.Tracks (s.passageEffects p x) := by
  have hmoved (f : BayCounters → BayCounters) : s.Tracks ((s.countBay f).movementEvent) := .of_frame (by simp) (by simp)
  have hoffer (t : State) (d : Direction) : t.Tracks (t.offerTransit p d) := .of_frame (by simp) (by simp)
  cases x with
  | none => exact .refl
  | aborted =>
    unfold State.passageEffects
    exact s.countBay_tracks _
  | inward => exact (hoffer _ _).after ((State.addArrival_tracks _ _).after (hmoved _))
  | outward => exact (hoffer _ _).after ((State.removeOldest_tracks _ _).after (hmoved _))

theorem State.laneMoves_tracks (p : Fin 4) (x : Loop) (on : Bool) : s.Tracks (s.laneMoves p x on) := by
  have hbegins (b : Bool) (l : Lane) :
      s.Tracks (if b then (s.setLane p l).presenceBegins p else s.setLane p l) := by
    split
    · exact (State.presenceBegins_tracks _ p).after (s.setLane_tracks p l)
    · exact s.setLane_tracks p l
  unfold State.laneMoves
  dsimp only
  split
  · exact (State.presenceEnds_tracks _ p).after ((State.passageEffects_tracks _ p _).after (hbegins _ _))
  · exact (State.passageEffects_tracks _ p _).after (hbegins _ _)

theorem State.loopChanges_tracks (p : Fin 4) (x : Loop) (on : Bool) : s.Tracks (s.loopChanges p x on) := by
  unfold State.loopChanges
  dsimp only
  split
  · exact .refl
  · split
    · exact s.setLane_tracks p _
    · exact s.laneMoves_tracks p x on

theorem State.laneQueues_tracks (p : Fin 4) : s.Tracks (s.laneQueues p) := by
  unfold State.laneQueues
  dsimp only
  split
  · exact .of_frame (by simp) (by simp)
  · exact .refl

theorem State.laneFails_tracks (p : Fin 4) : s.Tracks (s.laneFails p) := by
  have hfail (l : Lane) (f : BayCounters → BayCounters) : s.Tracks (((s.setLane p l).countBay f).dropQueue p) :=
    (State.dropQueue_tracks _ p).after (.of_frame rfl rfl)
  unfold State.laneFails
  dsimp only
  split
  · exact (State.presenceEnd_tracks _ _).after (hfail _ _)
  · exact hfail _ _

theorem State.startLane_tracks (p : Fin 4) (loops : Loops) : s.Tracks (s.startLane p loops) := by
  unfold State.startLane
  dsimp only
  split
  · exact (State.presenceBegins_tracks _ p).after (s.setLane_tracks p _)
  · exact s.setLane_tracks p _

/-! ## Frames of other parties (R69, R71, R89) -/

theorem State.transitReceived_tracks (sender target direction : Nat) :
    s.Tracks (s.transitReceived sender target direction) := by
  unfold State.transitReceived
  split
  · split
    · dsimp only
      split
      · exact (State.addArrival_tracks _ _).after (.of_frame rfl rfl)
      · exact (State.removeOldest_tracks _ _).after (.of_frame rfl rfl)
    · exact .of_frame rfl rfl
  · exact .refl

theorem State.taken_tracks (sender : Nat) {pass : State → State} (h : ∀ t : State, t.Tracks (pass t)) :
    s.Tracks (s.taken sender pass) := by
  unfold State.taken
  dsimp only
  split
  · split
    · exact .of_frame rfl rfl
    · exact (h _).after (.of_frame rfl rfl)
  · exact .of_frame rfl rfl

/-! ## The responder (R175) -/

theorem State.answerClearBay_tracks (x : Byte) : s.Tracks (s.answerClearBay x).state := by
  unfold State.answerClearBay
  split
  · exact .refl
  next b _ =>
    split
    next hfault =>
      have hbay (c : Fin 48) : (s.clearBay b).bayState c = if c = b then .unknown else s.bayState c :=
        s.setBay_bayState b c _
      refine ⟨id, fun hs => (State.holdsSound_iff _).mpr fun c => ?_⟩
      refine (s.holdsSound_iff.mp hs c).trans ?_
      refine Eq.trans ?_ (congrArg (fun st => if st = BayState.held then 1 else 0) (hbay c)).symm
      by_cases hc : c = b
      · simp [hc, hfault]
      · simp [hc]
    next => exact .refl

theorem State.answerClearDetector_tracks (x y : Byte) : s.Tracks (s.answerClearDetector x y).state := by
  unfold State.answerClearDetector
  split
  · exact .refl
  · split
    · exact s.answerClearBay_tracks x
    · split
      · unfold State.answerClearLane
        split
        · exact .refl
        · split
          · exact s.startLane_tracks _ _
          · exact .refl
      · exact .refl

theorem State.answer_tracks (r : Request) : s.Tracks (s.answer r).state := by
  unfold State.answer
  split
  case h_7 => exact s.answerClearDetector_tracks _ _
  all_goals exact .of_frame (by simp) (by simp)

theorem State.serve_tracks (r : Request) (rest : List Request) : s.Tracks (s.serve r rest) := by
  have hreply (t : State) (reply : Reply) : t.Tracks ((t.keepCurrent r reply).onComms fun e c => offer e (.reply reply) c) :=
    .of_frame rfl rfl
  exact (hreply _ _).after ((State.ventSettle_tracks _).after ((State.answer_tracks _ r).after (.of_frame rfl rfl)))

end

theorem pump_tracks : ∀ (n : Nat) (s : State), s.Tracks (pump n s)
  | 0, _ => .refl
  | n + 1, s => by
    unfold pump
    split
    · split
      · exact .refl
      · exact (s.serve_tracks _ _).trans (pump_tracks n _)
    · exact .refl

theorem State.linkSettle_tracks (s : State) : s.Tracks s.linkSettle := .of_frame (by simp) (by simp)

theorem State.settle_tracks (s : State) : s.Tracks s.settle :=
  (State.linkSettle_tracks _).after ((pump_tracks _ _).after s.ventSettle_tracks)

/-! ## Commands -/

theorem done_tracks {s u t : State} (hd : done u = .next t) (h : s.Tracks u) : s.Tracks t := by
  have hmoment : u.settle.Tracks { u.settle with moment := u.moment + 1 } := .of_frame rfl rfl
  cases hd
  exact hmoment.after (u.settle_tracks.after h)

theorem ite_tracks {s u : State} {c : Prop} [Decidable c] (h : s.Tracks u) : s.Tracks (if c then u else s) := by
  split
  · exact h
  · exact .refl

/-- A command that changes neither the tracker nor the bays. -/
theorem done_tracks_of_frame {s u t : State} (hd : done u = .next t) (htracker : u.tracker = s.tracker)
    (hscanner : u.scanner = s.scanner) : s.Tracks t :=
  done_tracks hd (.of_frame htracker (congrArg Scanner.bays hscanner))

theorem alarmHoldTimerExpiry_tracks {s t : State} (h : execAlarmHoldTimerExpiry s = .next t) : s.Tracks t := by
  refine done_tracks h (ite_tracks ?_)
  split
  · exact .of_frame rfl rfl
  · exact s.setZone_tracks _

theorem sampleConversionComplete_tracks {s t : State} {code : BitVec 12}
    (h : execSampleConversionComplete code s = .next t) : s.Tracks t := by
  unfold execSampleConversionComplete State.sampleResult at h
  split at h
  · split at h
    · exact done_tracks h (.of_frame rfl rfl)
    · exact done_tracks h (.of_frame rfl rfl)
  · exact done_tracks h .refl

theorem zeroConversionComplete_tracks {s t : State} {code : BitVec 12}
    (h : execZeroConversionComplete code s = .next t) : s.Tracks t := by
  unfold execZeroConversionComplete at h
  split at h
  · exact done_tracks h (.of_frame rfl rfl)
  · exact done_tracks h .refl

theorem zeroProtectedPartEnd_tracks {s t : State} (h : execZeroProtectedPartEnd s = .next t) : s.Tracks t := by
  unfold execZeroProtectedPartEnd at h
  split at h
  · exact done_tracks h (.of_frame rfl rfl)
  · exact done_tracks h .refl

/-- Every command but the two that start the station anew keeps the list within its places and the holds sound. -/
theorem exec_tracks {c : Instr} {s t : State} (hc : Instr.runs c = true) (h : exec c s = .next t) : s.Tracks t := by
  match c with
  | .sampleConversionComplete _ => exact sampleConversionComplete_tracks h
  | .zeroConversionComplete _ => exact zeroConversionComplete_tracks h
  | .zeroProtectedPartEnd => exact zeroProtectedPartEnd_tracks h
  | .warmUpTimerExpiry _ | .settleTimerExpiry _
  | .zeroIntervalTimerExpiry _ | .signRefreshTimerExpiry | .rampTick | .pwmPeriodStart | .lampPresenceTimerExpiry _ =>
    exact done_tracks h (ite_tracks (.of_frame rfl rfl))
  | .gasUpdateTimerExpiry => exact done_tracks h (ite_tracks ((State.gasUpdate_tracks _).after (.of_frame rfl rfl)))
  | .minuteBoundary => exact done_tracks h (ite_tracks ((State.closeMinute_tracks _).after (.of_frame rfl rfl)))
  | .movementRoll => exact done_tracks h (ite_tracks ((State.reformEs_tracks _).after (.of_frame rfl rfl)))
  | .headValueAgesTs _ | .headValueAges2Ts _ | .dwellTimerExpiry | .localSpacingTimerExpiry | .tachPulse _ _ | .tachTimeout _ | .spinUpTimerExpiry _
  | .runningCheck _ | .checkHoldTimerExpiry _ | .rotationTimerExpiry | .boostTimerExpiry | .arbitrationLost
  | .lateCollision | .attemptVoided | .attemptUnheard | .stretchBegin | .stretchTimerExpiry | .stuckTimerExpiry
  | .joinTimerExpiry | .lateCollisionRecordLapse | .periodicRequest | .spacingTimerExpiry
  | .startNoticeEntryExpiry _ _ | .receivedFrameDiscarded true | .receivedFrameDiscarded false | .brokenFrame
  | .signRecordEnd | .lockWriteEnd _ | .commitWriteEnd _ =>
    exact done_tracks_of_frame h rfl rfl
  | .busFree => exact done_tracks_of_frame h (by simp) (by simp)
  | .frameDelivered => exact done_tracks_of_frame h (by simp) (by simp)
  | .zoneReportTaken _ _ => exact done_tracks h (s.taken_tracks _ fun _ => .of_frame (by simp) (by simp))
  | .startNoticeTaken _ _ _ => exact done_tracks h (s.taken_tracks _ fun t => t.onComms_tracks _)
  | .transitNoticeTaken _ _ _ _ => exact done_tracks h (s.taken_tracks _ fun t => t.transitReceived_tracks _ _ _)
  | .serviceRequestTaken _ _ _ _ _ => exact done_tracks_of_frame h (by simp) (by simp)
  | .unpassedFrameTaken _ _ => exact done_tracks h (s.taken_tracks _ fun _ => .refl)
  | .staleTimerExpiry _ => exact done_tracks_of_frame h (by simp) (by simp)
  | .lostTimerExpiry _ => exact done_tracks_of_frame h (by simp) (by simp)
  | .scanTimerExpiry => exact done_tracks h (ite_tracks s.beginScan_tracks)
  | .bayPollAnswer b r => exact done_tracks h (ite_tracks (s.bayAnswers_tracks b r))
  | .bayNoAnswer b => exact done_tracks h (ite_tracks (s.bayNoAnswers_tracks b))
  | .flashTimerExpiry => exact done_tracks h (ite_tracks s.toggleFlash_tracks)
  | .loopChange p x on => exact done_tracks h (ite_tracks (s.loopChanges_tracks p x on))
  | .lanePresenceTimerExpiry p => exact done_tracks h (s.laneQueues_tracks p)
  | .loopStuckTimerExpiry p _ => exact done_tracks h (ite_tracks (s.laneFails_tracks p))
  | .arrivalExpiry => exact done_tracks h (ite_tracks (s.removeOldest_tracks _))
  | .purgeAssertionTaken | .purgeReleaseTaken => exact done_tracks h (ite_tracks (s.zoneEvaluate_tracks _))
  | .alarmHoldTimerExpiry => exact alarmHoldTimerExpiry_tracks h
  | .clearHeadFault _ | .lockFan _ | .unlockFan _ | .clearFanFault _ | .boostStage _ _ | .clearDetector _ _
  | .statusQuery _ | .counterQuery _ _ | .clearStoreError | .configWrite _ _ | .configRead _ | .configCommit
  | .restart | .unknownRequestKind _ _ => exact done_tracks_of_frame h rfl rfl

/-! ## The start (R165 to R167) -/

/-- No arrival stands in the list, and no bay is HELD. -/
def State.unheld (s : State) : Prop := s.tracker.list = [] ∧ ∀ b, s.bayState b ≠ .held

theorem State.unheld.holdsSound {s : State} (h : s.unheld) : s.holdsSound :=
  s.holdsSound_iff.mpr fun b => by rw [h.1, if_neg (h.2 b)]; rfl

theorem startBay_state (cfg : BayCfg) : (startBay cfg).state ≠ .held := by
  unfold startBay
  split
  · exact nofun
  · split <;> exact nofun

theorem State.loadBlocks_unheld (s : State) (kept : Option Kept) : (s.stopped.loadBlocks kept).unheld := by
  refine ⟨rfl, fun b => ?_⟩
  have hb : (s.stopped.loadBlocks kept).scanner.bays.get b = startBay _ := Tbl.get_ofFn ..
  rw [State.bayState, hb]
  exact startBay_state _

theorem State.enterCommission_unheld (s : State) : s.stopped.enterCommission.unheld := by
  refine ⟨rfl, fun b => ?_⟩
  have hb : s.stopped.enterCommission.scanner.bays.get b = Bay.unused := Tbl.get_const ..
  rw [State.bayState, hb]
  exact nofun

theorem startLaneOf_tracks (pins : Pins) (s : State) (p : Fin 4) : s.Tracks (startLaneOf pins s p) := by
  unfold startLaneOf
  split
  · exact s.startLane_tracks p _
  · exact .refl

theorem State.zoneStarted_tracks (s : State) (pins : Pins) (kept : Option Kept) :
    (s.stopped.loadBlocks kept).Tracks (s.zoneStarted pins kept) := by
  have hzone (t : State) : t.Tracks (t.startZone pins) := by
    unfold State.startZone
    exact t.zoneEvaluate_tracks _
  exact (hzone _).after ((State.beginScan_tracks _).after (State.Tracks.foldl (startLaneOf_tracks pins) _ _))

theorem State.start_tracked (s : State) (pins : Pins) (kept : Option Kept) :
    (s.start pins kept).tracker.list.length ≤ 16 ∧ (s.start pins kept).holdsSound := by
  obtain h | h := s.start_cases pins kept <;> rw [h]
  · exact ⟨by rw [s.enterCommission_unheld.1]; simp, s.enterCommission_unheld.holdsSound⟩
  · have hend (t : State) : t.Tracks t.reworkDemand.presentCounts := .of_frame (by simp) (by simp)
    have htracks := (hend _).after (s.zoneStarted_tracks pins kept)
    exact ⟨htracks.places (by rw [(s.loadBlocks_unheld kept).1]; simp), htracks.holds (s.loadBlocks_unheld kept).holdsSound⟩

/-- A command leaves a chain that keeps the list and the holds, from the state it finds or from a start. -/
theorem exec_tracks_from {c : Instr} {s t : State} (h : exec c s = .next t) :
    s.Tracks t ∨ ∃ pins kept, (s.start pins kept).Tracks t := by
  cases hc : Instr.runs c with
  | true => exact .inl (exec_tracks hc h)
  | false =>
    unfold Instr.runs at hc
    split at hc
    next pins => exact .inr ⟨pins, none, done_tracks h .refl⟩
    next pins =>
      cases hdue : s.restartDue with
      | true =>
        have hstart : done (s.start pins s.kept) = .next t := by simpa [exec, execRestartTaken, hdue] using h
        exact .inr ⟨pins, s.kept, done_tracks hstart .refl⟩
      | false =>
        have hnone : done s = .next t := by simpa [exec, execRestartTaken, hdue] using h
        exact .inl (done_tracks hnone .refl)
    next => cases hc

theorem State.tick_tracks (s : State) : s.Tracks s.tick := by
  refine .of_same rfl fun b => ?_
  simp only [State.bayState, State.tick, Scanner.tick]

/-- What holds after every start, and a chain that keeps the list within its places and the holds sound keeps, holds
after every step. -/
theorem step_tracked {P : State → Prop} (hP : ∀ {s t : State}, s.Tracks t → P s → P t)
    (hstart : ∀ (s : State) pins kept, P (s.start pins kept)) {s t : State} (hs : P s) (h : step s = .next t) : P t := by
  unfold step at h
  split at h
  · cases h; exact hP s.tick_tracks hs
  next c rest _ =>
    have htaken : s.Tracks { s with pending := rest } := .of_frame rfl rfl
    obtain htracks | ⟨pins, kept, htracks⟩ := exec_tracks_from h
    · exact hP htracks (hP htaken hs)
    · exact hP htracks (hstart _ pins kept)

/-! ## The count (R121) -/

/-- Each entry that holds a bay is a holder of one bay. -/
theorem sum_holders : ∀ l : List Arrival, ∑ b, holders l b = (l.filter fun a => a.bay.isSome).length
  | [] => by simp
  | a :: rest => by
    simp only [holders_cons, Finset.sum_add_distrib, sum_holders rest]
    cases hb : a.bay with
    | none => simp [hb]
    | some b => simp [hb]

theorem length_filter_eq_sum {α : Type} (p : α → Prop) [DecidablePred p] :
    ∀ l : List α, (l.filter fun a => decide (p a)).length = (l.map fun a => if p a then 1 else 0).sum
  | [] => rfl
  | a :: l => by
    rw [List.filter_cons, List.map_cons, List.sum_cons, ← length_filter_eq_sum p l]
    by_cases ha : p a <;> simp [ha, Nat.add_comm]

theorem State.holdsSound.counted {s : State} (hs : s.holdsSound) : s.holdsCounted := by
  unfold State.holdsCounted
  rw [← sum_holders, Fin.sum_univ_def, length_filter_eq_sum]
  exact congrArg (fun f => ((List.finRange 48).map f).sum) (funext fun b => (s.holdsSound_iff.mp hs b).symm)

/-- Settles O49: each bay or arrival that moves keeps one arrival to every HELD bay, and the count follows. -/
theorem everyHeldBayHasOneArrival : Obligations.EveryHeldBayHasOneArrival := fun _ _ hs h =>
  have ht := step_tracked (P := State.holdsSound) State.Tracks.holds (fun s pins kept => (s.start_tracked pins kept).2) hs h
  ⟨ht, ht.counted⟩

end Sys2Proof.Machine
end

section
/-! O50: the transmit queue, the service queue, the start-notice list and the arrival list (R42, R81, R84, R85, R95,
R117, R175). -/

namespace Sys2Proof.Machine

/-! ## A frame put at its place (R84) -/

theorem mayPrecede_trans {grave : Bool} {f g h : Frame} (hfg : mayPrecede grave f g) (hgh : mayPrecede grave g h) :
    mayPrecede grave f h := by
  unfold mayPrecede at *
  omega

theorem mayPrecede_of_before {grave : Bool} {f g : Frame} (h : f.before grave g = true) : mayPrecede grave f g := by
  unfold Frame.before at h
  unfold mayPrecede
  split_ifs at h <;> omega

theorem mayPrecede_of_not_before {grave : Bool} {f g : Frame} (h : f.before grave g = false) : mayPrecede grave g f := by
  unfold Frame.before at h
  unfold mayPrecede
  split_ifs at h <;> omega

/-- A frame is put between two parts of the queue. -/
theorem enqueue_split (grave : Bool) (f : Frame) : ∀ q : List Frame,
    ∃ left right, q = left ++ right ∧ enqueue grave f q = left ++ f :: right
  | [] => ⟨[], [], rfl, rfl⟩
  | g :: rest => by
    unfold enqueue
    split
    · exact ⟨[], g :: rest, rfl, rfl⟩
    · obtain ⟨left, right, hrest, hput⟩ := enqueue_split grave f rest
      exact ⟨g :: left, right, by rw [hrest]; rfl, by rw [hput]; rfl⟩

theorem enqueue_perm (grave : Bool) (f : Frame) (q : List Frame) : (enqueue grave f q).Perm (f :: q) := by
  obtain ⟨left, right, hq, hput⟩ := enqueue_split grave f q
  rw [hput, hq]
  exact List.perm_middle

theorem enqueue_sorted {grave : Bool} (f : Frame) : ∀ {q : List Frame}, q.Pairwise (mayPrecede grave) →
    (enqueue grave f q).Pairwise (mayPrecede grave)
  | [], _ => List.pairwise_singleton ..
  | g :: rest, h => by
    obtain ⟨hg, hrest⟩ := List.pairwise_cons.mp h
    unfold enqueue
    split
    next hbefore =>
      have hfg := mayPrecede_of_before hbefore
      refine List.pairwise_cons.mpr ⟨fun x hx => ?_, h⟩
      obtain rfl | hx := List.mem_cons.mp hx
      · exact hfg
      · exact mayPrecede_trans hfg (hg x hx)
    next hbefore =>
      refine List.pairwise_cons.mpr ⟨fun x hx => ?_, enqueue_sorted f hrest⟩
      obtain rfl | hx := List.mem_cons.mp ((enqueue_perm grave f rest).mem_iff.mp hx)
      · exact mayPrecede_of_not_before (by simpa using hbefore)
      · exact hg x hx

theorem reorder_perm (grave : Bool) : ∀ q : List Frame, (reorder grave q).Perm q
  | [] => .nil
  | f :: q => (enqueue_perm grave f _).trans ((reorder_perm grave q).cons f)

theorem reorder_sorted (grave : Bool) : ∀ q : List Frame, (reorder grave q).Pairwise (mayPrecede grave)
  | [] => .nil
  | f :: q => enqueue_sorted f (reorder_sorted grave q)

/-! ## The worst class (R85) -/

theorem foldl_max_cls (grave : Bool) : ∀ (q : List Frame) (m : Nat),
    m ≤ q.foldl (fun m f => max m (f.payload.cls grave)) m ∧
    (∀ f ∈ q, f.payload.cls grave ≤ q.foldl (fun m f => max m (f.payload.cls grave)) m) ∧
    (q.foldl (fun m f => max m (f.payload.cls grave)) m = m ∨
      ∃ f ∈ q, f.payload.cls grave = q.foldl (fun m f => max m (f.payload.cls grave)) m)
  | [], m => ⟨Nat.le_refl m, nofun, .inl rfl⟩
  | f :: q, m => by
    obtain ⟨hle, hall, hsome⟩ := foldl_max_cls grave q (max m (f.payload.cls grave))
    rw [List.foldl_cons]
    refine ⟨by omega, fun g hg => ?_, ?_⟩
    · obtain rfl | hg := List.mem_cons.mp hg
      · omega
      · exact hall g hg
    · obtain heq | ⟨g, hg, hcls⟩ := hsome
      · rw [heq]
        by_cases hm : f.payload.cls grave ≤ m
        · exact .inl (Nat.max_eq_left hm)
        · exact .inr ⟨f, List.mem_cons_self, by omega⟩
      · exact .inr ⟨g, List.mem_cons_of_mem _ hg, hcls⟩

theorem le_worstClass {grave : Bool} {q : List Frame} {f : Frame} (hf : f ∈ q) (hwait : f.inFlight = false) :
    f.payload.cls grave ≤ worstClass grave q :=
  (foldl_max_cls grave _ 0).2.1 f (List.mem_filter.mpr ⟨hf, by simp [hwait]⟩)

theorem exists_worstClass {grave : Bool} {q : List Frame} (h : 0 < worstClass grave q) :
    ∃ f ∈ q, f.inFlight = false ∧ f.payload.cls grave = worstClass grave q := by
  obtain hzero | ⟨f, hf, hcls⟩ := (foldl_max_cls grave (q.filter fun f => !f.inFlight) 0).2.2
  · exact absurd hzero (Nat.pos_iff_ne_zero.mp h)
  · obtain ⟨hmem, hwait⟩ := List.mem_filter.mp hf
    exact ⟨f, hmem, by simpa using hwait, hcls⟩

/-- The worst class is the class of a frame that waits and that no other exceeds. -/
theorem worstClass_eq {grave : Bool} {q : List Frame} {w : Nat}
    (hsome : ∃ f ∈ q, f.inFlight = false ∧ f.payload.cls grave = w)
    (hall : ∀ f ∈ q, f.inFlight = false → f.payload.cls grave ≤ w) : worstClass grave q = w := by
  obtain ⟨f, hf, hwait, hcls⟩ := hsome
  have hle := le_worstClass (grave := grave) hf hwait
  refine Nat.le_antisymm ?_ (hcls ▸ hle)
  by_cases hzero : worstClass grave q = 0
  · omega
  · obtain ⟨g, hg, hgwait, hgcls⟩ := exists_worstClass (Nat.pos_of_ne_zero hzero)
    exact hgcls ▸ hall g hg hgwait

/-! ## An offer (R81, R85) -/

/-- A frame that a full queue may displace: of the class `w` and not in flight (R85). -/
def Frame.displaceable (grave : Bool) (w : Nat) (f : Frame) : Bool := !f.inFlight && f.payload.cls grave == w

/-- The frame that an offer adds. -/
def newFrame (e : Env) (p : Payload) (c : Comms) : Frame := ⟨p, 0, true, e.moment, c.draws, false⟩

/-- The bus side without the frame that a full queue displaces, counted (R85). -/
def Comms.displace (grave : Bool) (w : Nat) (c : Comms) : Comms :=
  { c with link := { c.link with
      queue := c.link.queue.eraseP (Frame.displaceable grave w)
      peer := { c.link.peer with queueDisplaced := bump c.link.peer.queueDisplaced } } }

/-- An offer is refused, joins a queue with a place, or displaces a frame of a higher class. -/
theorem offerFrame_cases (e : Env) (p : Payload) (c : Comms) :
    offerFrame e p c = c.refuse p ∨
    (c.link.queue.length < 8 ∧ offerFrame e p c = ⟨c.join e p, true, none⟩) ∨
    (p.cls e.grave < worstClass e.grave c.link.queue ∧ offerFrame e p c =
      ⟨(c.displace e.grave (worstClass e.grave c.link.queue)).join e p, true,
        (c.link.queue.find? (Frame.displaceable e.grave (worstClass e.grave c.link.queue))).map (·.payload)⟩) := by
  unfold offerFrame
  split
  · exact .inl rfl
  · split
    next hroom => exact .inr (.inl ⟨hroom, rfl⟩)
    next =>
      dsimp only
      split
      next hless => exact .inr (.inr ⟨hless, rfl⟩)
      next => exact .inl rfl

/-- The queue after an offer: as it was, or the new frame put at its place in a part of it, which leaves room. -/
theorem offerFrame_queue (e : Env) (p : Payload) (c : Comms) :
    (offerFrame e p c).comms.link.queue = c.link.queue ∨
    ∃ q, q.Sublist c.link.queue ∧ (c.link.queue.length ≤ 8 → q.length ≤ 7) ∧
      (offerFrame e p c).comms.link.queue = enqueue e.grave (newFrame e p c) q := by
  obtain h | ⟨hroom, h⟩ | ⟨hless, h⟩ := offerFrame_cases e p c
  · exact .inl (by rw [h]; rfl)
  · exact .inr ⟨c.link.queue, .refl _, fun _ => by omega, by rw [h]; rfl⟩
  · refine .inr ⟨_, List.eraseP_sublist, fun hle => ?_, by rw [h]; rfl⟩
    obtain ⟨f, hf, hwait, hcls⟩ := exists_worstClass (grave := e.grave) (q := c.link.queue) (by omega)
    rw [List.length_eraseP_of_mem hf (by simp [Frame.displaceable, hwait, hcls])]
    omega

/-! ## The places (R84, R95, R117, R175) -/

/-- The queues and the list of the bus side hold no more than their places. -/
def Comms.placesSound (c : Comms) : Prop :=
  c.link.queue.length ≤ 8 ∧ c.service.queue.length ≤ 2 ∧ c.notices.length ≤ 16

theorem Comms.Path.placesSound {e : Env} {c d : Comms} (h : c.Path e d) (hc : c.placesSound) : d.placesSound := by
  induction h with
  | refl => exact hc
  | tail _ hmove ih =>
    obtain ⟨hqueue, hservice, hnotices⟩ := ih
    cases hmove with
    | fans => exact ⟨hqueue, hservice, hnotices⟩
    | link l hkeys =>
      refine ⟨?_, hservice, hnotices⟩
      have hlength := congrArg List.length hkeys
      simp only [List.length_map] at hlength
      exact hlength ▸ hqueue
    | leave q hsub => exact ⟨hsub.length_le.trans hqueue, hservice, hnotices⟩
    | offer p _ _ =>
      refine ⟨?_, by simpa using hservice, by simpa using hnotices⟩
      obtain hsame | ⟨q, -, hroom, hput⟩ := offerFrame_queue e p _
      · rw [hsame]; exact hqueue
      · rw [hput, (enqueue_perm ..).length_eq]
        exact Nat.succ_le_succ (hroom hqueue)
    | service v places => exact ⟨hqueue, places hservice, hnotices⟩
    | notices n places => exact ⟨hqueue, hservice, places hnotices⟩

theorem State.PlainMove.placesSound {s t : State} (h : s.PlainMove t) (hs : s.comms.placesSound) :
    t.comms.placesSound := by
  cases h with
  | tick =>
    obtain ⟨hqueue, hservice, hnotices⟩ := hs
    exact ⟨hqueue, hservice, by simpa [State.tick, Comms.tick] using hnotices⟩
  | comms c path => exact path.placesSound hs
  | moment _ _ | heads _ _ | fume _ _ _ _ | scanner _ _ | tracker _ | zone _ _ | guide _ _ | advert _ _ | lamps _ _
  | peers _ | store _ => exact hs

theorem State.Move.placesSound {full : Bool} {s t : State} (h : State.Move full s t) (hs : s.comms.placesSound) :
    t.comms.placesSound := by
  refine h.keeps_of (P := fun s => s.comms.placesSound) PlainMove.placesSound (fun _ _ _ hs => hs)
    (fun {s} st hs => ?_) hs
  refine State.setZone_keeps (P := fun s => s.comms.placesSound) PlainMove.placesSound (fun _ _ _ hs => hs) ?_
  obtain ⟨hqueue, hservice, hnotices⟩ := hs
  unfold State.zoneEntered
  dsimp only
  split
  · exact ⟨hqueue, hservice, hnotices⟩
  · exact ⟨(reorder_perm ..).length_eq.trans_le hqueue, hservice, hnotices⟩

theorem placesSound_of_start (s : State) (pins : Pins) (kept : Option Kept) :
    (s.start pins kept).comms.placesSound :=
  start_keeps (P := fun s => s.comms.placesSound) State.Move.placesSound
    (fun _ => ⟨Nat.zero_le _, Nat.zero_le _, Nat.zero_le _⟩)
    (fun _ _ => ⟨Nat.zero_le _, Nat.zero_le _, Nat.zero_le _⟩) s pins kept

/-- Every step keeps the queues and lists within their places: those of the bus side along the chain of moves, the
arrival list by what each bay and arrival operation does to it. -/
theorem step_listsSound {s t : State} (hs : s.listsSound) (h : step s = .next t) : t.listsSound := by
  obtain ⟨hqueue, hservice, hnotices, harrivals⟩ := hs
  obtain ⟨tqueue, tservice, tnotices⟩ := step_keeps (P := fun s => s.comms.placesSound) State.Move.placesSound
    placesSound_of_start ⟨hqueue, hservice, hnotices⟩ h
  have tarrivals := step_tracked (P := fun s => s.tracker.list.length ≤ 16) State.Tracks.places
    (fun s pins kept => (s.start_tracked pins kept).1) harrivals h
  exact ⟨tqueue, tservice, tnotices, tarrivals⟩

/-! ## The order (R42, R84) -/

/-- A queue is ordered under a zone state, and holds at most one ZONE REPORT and one START NOTICE. -/
def QueueOrdered (grave : Bool) (q : List Frame) : Prop :=
  q.Pairwise (mayPrecede grave) ∧ q.countP (fun f => f.payload.isReport) ≤ 1 ∧
    q.countP (fun f => f.payload.isStartNotice) ≤ 1

theorem State.queueSound_iff (s : State) : s.queueSound ↔ QueueOrdered s.grave s.comms.link.queue := by
  simp only [State.queueSound, QueueOrdered, List.countP_eq_length_filter]

theorem QueueOrdered.sublist {grave : Bool} {q r : List Frame} (h : QueueOrdered grave q) (hsub : r.Sublist q) :
    QueueOrdered grave r := by
  obtain ⟨hsorted, hreport, hnotice⟩ := h
  exact ⟨hsorted.sublist hsub, hsub.countP_le.trans hreport, hsub.countP_le.trans hnotice⟩

theorem QueueOrdered.reorder {grave : Bool} {q : List Frame} (h : QueueOrdered grave q) (now : Bool) :
    QueueOrdered now (reorder now q) := by
  obtain ⟨-, hreport, hnotice⟩ := h
  exact ⟨reorder_sorted now q, (reorder_perm now q).countP_eq _ ▸ hreport, (reorder_perm now q).countP_eq _ ▸ hnotice⟩

/-- The order of a queue rests on the payloads and the queueing times. -/
theorem QueueOrdered.congr {grave : Bool} {q r : List Frame} (hkeys : r.map Frame.key = q.map Frame.key)
    (h : QueueOrdered grave q) : QueueOrdered grave r := by
  have hsorted (l : List Frame) : l.Pairwise (mayPrecede grave) ↔ (l.map Frame.key).Pairwise fun x y =>
      x.1.cls grave < y.1.cls grave ∨ x.1.cls grave = y.1.cls grave ∧ x.2 ≤ y.2 := by
    rw [List.pairwise_map]; rfl
  have hcount (p : Payload → Bool) (l : List Frame) :
      l.countP (fun f => p f.payload) = (l.map Frame.key).countP fun x => p x.1 := by
    rw [List.countP_map]; rfl
  obtain ⟨hq, hreport, hnotice⟩ := h
  refine ⟨?_, ?_, ?_⟩
  · rw [hsorted, hkeys, ← hsorted]; exact hq
  · rw [hcount Payload.isReport, hkeys, ← hcount]; exact hreport
  · rw [hcount Payload.isStartNotice, hkeys, ← hcount]; exact hnotice

/-- A frame put at its place keeps the order, and a report or a notice is the only one where none stood. -/
theorem QueueOrdered.enqueue {grave : Bool} {q : List Frame} {f : Frame} (h : QueueOrdered grave q)
    (hreport : f.payload.isReport = true → q.countP (fun f => f.payload.isReport) = 0)
    (hnotice : f.payload.isStartNotice = true → q.countP (fun f => f.payload.isStartNotice) = 0) :
    QueueOrdered grave (enqueue grave f q) := by
  have hone (p : Frame → Bool) (hle : q.countP p ≤ 1) (hzero : p f = true → q.countP p = 0) :
      (Machine.enqueue grave f q).countP p ≤ 1 := by
    rw [(enqueue_perm grave f q).countP_eq, List.countP_cons]
    split
    next hp => rw [hzero hp]
    next => exact hle
  obtain ⟨hsorted, hr, hn⟩ := h
  exact ⟨enqueue_sorted f hsorted, hone _ hr hreport, hone _ hn hnotice⟩

theorem countP_eq_zero_of_sublist {α : Type} {p : α → Bool} {q r : List α} (hsub : r.Sublist q) (h : q.any p = false) :
    r.countP p = 0 := by
  have hzero : q.countP p = 0 := List.countP_eq_zero.mpr fun a ha hp => by
    rw [List.any_eq_true.mpr ⟨a, ha, hp⟩] at h
    cases h
  have hle := hsub.countP_le (p := p)
  omega

theorem Comms.Path.queueOrdered {e : Env} {c d : Comms} (h : c.Path e d) (hc : QueueOrdered e.grave c.link.queue) :
    QueueOrdered e.grave d.link.queue := by
  induction h with
  | refl => exact hc
  | tail _ hmove ih =>
    cases hmove with
    | fans | service | notices => exact ih
    | link l hkeys => exact ih.congr hkeys
    | leave q hsub => exact ih.sublist hsub
    | offer p hreport hnotice =>
      obtain hsame | ⟨q, hsub, -, hput⟩ := offerFrame_queue e p _
      · rw [hsame]; exact ih
      · rw [hput]
        exact (ih.sublist hsub).enqueue (fun hp => countP_eq_zero_of_sublist hsub (hreport hp))
          fun hp => countP_eq_zero_of_sublist hsub (hnotice hp)

theorem State.queueSound_congr {s t : State} (hs : s.queueSound) (hgrave : t.grave = s.grave)
    (hqueue : t.comms.link.queue = s.comms.link.queue) : t.queueSound := by
  rw [State.queueSound_iff, hgrave, hqueue]
  exact s.queueSound_iff.mp hs

theorem State.PlainMove.queueSound {s t : State} (h : s.PlainMove t) (hs : s.queueSound) : t.queueSound := by
  cases h with
  | comms c path => exact (State.queueSound_iff _).mpr (path.queueOrdered (s.queueSound_iff.mp hs))
  | zone z state => exact State.queueSound_congr hs (congrArg ZoneState.grave state) rfl
  | tick | moment _ _ | heads _ _ | fume _ _ _ _ | scanner _ _ | tracker _ | guide _ _ | advert _ _ | lamps _ _
  | peers _ | store _ => exact State.queueSound_congr hs rfl rfl

/-- A change of zone state that changes the classes orders the queue anew (R84). -/
theorem State.zoneEntered_queueSound {s : State} (hs : s.queueSound) (st : ZoneState) :
    (s.zoneEntered st).queueSound := by
  unfold State.zoneEntered
  dsimp only
  split
  next hsame => exact State.queueSound_congr hs hsame rfl
  next => exact (State.queueSound_iff _).mpr ((s.queueSound_iff.mp hs).reorder _)

theorem State.Move.queueSound {full : Bool} {s t : State} (h : State.Move full s t) (hs : s.queueSound) :
    t.queueSound := by
  have hside (s : State) (g : GasFront) (f : Fume) (x : Scanner) (hs : s.queueSound) :
      ({ s with gas := g, fume := f, scanner := x } : State).queueSound := State.queueSound_congr hs rfl rfl
  exact h.keeps_of (P := State.queueSound) PlainMove.queueSound (hside _) (fun st hs =>
    State.setZone_keeps (P := State.queueSound) PlainMove.queueSound (hside _) (State.zoneEntered_queueSound hs st)) hs

theorem queueSound_of_empty {s : State} (h : s.comms.link.queue = []) : s.queueSound := by
  rw [State.queueSound_iff, h]
  exact ⟨.nil, Nat.zero_le _, Nat.zero_le _⟩

theorem queueSound_of_start (s : State) (pins : Pins) (kept : Option Kept) : (s.start pins kept).queueSound :=
  start_keeps (P := State.queueSound) State.Move.queueSound (fun _ => queueSound_of_empty rfl)
    (fun _ _ => queueSound_of_empty rfl) s pins kept

/-! ## An offer to a full queue (R85) -/

/-- The frame displaced is the oldest of its class that waits, as an ordered queue holds it before the others. -/
theorem displaced_split {grave : Bool} {q : List Frame} {w : Nat} (hsorted : q.Pairwise (mayPrecede grave))
    (hsome : ∃ f ∈ q, f.inFlight = false ∧ f.payload.cls grave = w) :
    ∃ before v after, q = before ++ v :: after ∧ v.inFlight = false ∧ v.payload.cls grave = w ∧
      (∀ f ∈ before ++ after, f.inFlight = false → f.payload.cls grave = w → v.queuedAt ≤ f.queuedAt) ∧
      q.find? (Frame.displaceable grave w) = some v ∧ q.eraseP (Frame.displaceable grave w) = before ++ after := by
  obtain ⟨f, hf, hwait, hcls⟩ := hsome
  obtain ⟨v, before, after, hbefore, hv, hq, herase⟩ :=
    List.exists_of_eraseP hf (by simp [Frame.displaceable, hwait, hcls] : Frame.displaceable grave w f = true)
  have hvictim : v.inFlight = false ∧ v.payload.cls grave = w := by simpa [Frame.displaceable] using hv
  refine ⟨before, v, after, hq, hvictim.1, hvictim.2, fun g hg hgwait hgcls => ?_, ?_, herase⟩
  · obtain hg | hg := List.mem_append.mp hg
    · exact absurd (by simp [Frame.displaceable, hgwait, hgcls]) (hbefore g hg)
    · rw [hq] at hsorted
      have hvg := (List.pairwise_cons.mp (List.pairwise_append.mp hsorted).2.1).1 g hg
      unfold mayPrecede at hvg
      omega
  · rw [hq]
    exact List.find?_eq_some_iff_append.mpr ⟨hv, before, after, rfl, fun g hg => by simpa using hbefore g hg⟩

theorem offerFrame_of_full {e : Env} {p : Payload} {c : Comms} {w : Nat} (hstate : c.link.state ≠ .silent)
    (hfull : 8 ≤ c.link.queue.length) (hw : worstClass e.grave c.link.queue = w) :
    (w ≤ p.cls e.grave → offerFrame e p c = c.refuse p) ∧
    (p.cls e.grave < w → offerFrame e p c =
      ⟨(c.displace e.grave w).join e p, true,
        (c.link.queue.find? (Frame.displaceable e.grave w)).map (·.payload)⟩) := by
  subst hw
  unfold offerFrame
  rw [if_neg hstate, if_neg (Nat.not_lt.mpr hfull : ¬ c.link.queue.length < Config.queuePlaces)]
  exact ⟨fun hle => if_neg (Nat.not_lt.mpr hle), fun hlt => if_pos hlt⟩

/-- Settles O50: the places and the order along the chain of moves of a step, and an offer by the cases of R85. -/
theorem queuesAndListsKeepTheirPlaces : Obligations.QueuesAndListsKeepTheirPlaces := by
  refine ⟨fun _ _ => step_listsSound, fun _ _ => step_keeps (P := State.queueSound) State.Move.queueSound
    queueSound_of_start, fun e p c => ⟨fun hsilent => if_pos hsilent, fun w hstate hfull hsorted hsome hall => ?_⟩⟩
  obtain ⟨hrefuse, hdisplace⟩ := offerFrame_of_full (p := p) hstate hfull (worstClass_eq hsome hall)
  refine ⟨hrefuse, fun hlt => ?_⟩
  obtain ⟨before, v, after, hq, hwait, hcls, holdest, hfind, herase⟩ := displaced_split hsorted hsome
  obtain ⟨left, right, hsplit, hput⟩ := enqueue_split e.grave (newFrame e p c) (before ++ after)
  have hrest : (before ++ after).Pairwise (mayPrecede e.grave) := herase ▸ hsorted.sublist List.eraseP_sublist
  refine ⟨before, v, after, hq, hwait, hcls, holdest, left, right, hsplit, ?_, ?_⟩
  · have hnew := enqueue_sorted (newFrame e p c) hrest
    rwa [hput] at hnew
  · rw [hdisplace hlt, hfind]
    unfold Comms.displace
    rw [herase]
    change _ = (⟨{ c with link := { c.link with queue := left ++ newFrame e p c :: right, peer := _ }, draws := _ },
      true, some v.payload⟩ : Offered)
    rw [← hput]
    rfl

end Sys2Proof.Machine
end

section
/-! The step and the end of a command: O1, O2, O3, O22, O37. -/

namespace Sys2Proof.Machine

/-! ## The step -/

/-- Settles O1: the step takes the front of the queue. -/
theorem stepRunsTheFrontCommand : Obligations.StepRunsTheFrontCommand := by
  intro c rest s h
  unfold step
  rw [h]

/-- Settles O2: what a millisecond does to each block, field by field. -/
theorem idleStepOnlyLetsTimePass : Obligations.IdleStepOnlyLetsTimePass := by
  intro s h
  have hstep : step s = .next s.tick := by unfold step; rw [h]
  refine ⟨s.tick, hstep, rfl, fun i => ?head, ?converter, fun i => ?fan, ?boost, ?notices, fun n => ?peer,
    fun p => ?lane, fun k => ?channel, ?line⟩
  case head =>
    have hi : s.tick.gas.heads.get i = (s.gas.heads.get i).tick := Tbl.get_map ..
    rw [hi]
    refine ⟨rfl, ?_⟩
    cases hl : (s.gas.heads.get i).latest <;> simp [Head.tick, Latest.tick, hl]
  case converter =>
    show s.gas.converter.tick = _
    cases s.gas.converter <;> rfl
  case fan =>
    have hi : s.tick.comms.fanAt i = (s.comms.fanAt i).tick := Tbl.get_map ..
    rw [hi]
    rfl
  case boost =>
    show (s.comms.fan.boost.map _).map _ = _
    rw [Option.map_map]
    rfl
  case notices =>
    show (s.comms.notices.map _).map _ = _
    rw [List.map_map]
    rfl
  case peer =>
    have hn : s.tick.peers.get n = (s.peers.get n).tick := Tbl.get_map ..
    rw [hn]
    rfl
  case lane =>
    have hp : s.tick.laneAt p = (s.laneAt p).tick := Tbl.get_map ..
    rw [hp]
    rfl
  case channel =>
    have hk : s.tick.lamps.channels.get k = (s.lamps.channels.get k).tick := Tbl.get_map ..
    refine hk.trans ?_
    generalize s.lamps.channels.get k = ch
    obtain ⟨level, target, lanes, presence, leadIn, window⟩ := ch
    cases presence <;> rfl
  case line =>
    show (s.guide.line.map _).map _ = _
    rw [Option.map_map]
    rfl

/-! ## Fans' tachometers (R47) -/

theorem Tbl.set_get_self {n : Nat} {α : Type} (t : Tbl n α) (i : Fin n) : t.set i (t.get i) = t := by
  refine Tbl.ext_get fun j => ?_
  by_cases hj : j = i
  · subst hj; rw [Tbl.get_set_self]
  · rw [Tbl.get_set_ne _ _ hj]

theorem Comms.setFan_fanAt (c : Comms) (i : Fin 4) : c.setFan i (c.fanAt i) = c := by
  unfold Comms.setFan Comms.fanAt
  rw [Tbl.set_get_self]

theorem done_setFan {s : State} (h : s.atRest = true) (i : Fin 4) (f : Fan) :
    done { s with comms := s.comms.setFan i f } =
      .next { s with comms := s.comms.setFan i f, moment := s.moment + 1 } :=
  done_of_atRest (s := { s with comms := s.comms.setFan i f }) h

/-- Settles O22: a measured speed is kept while the drive is on, and else the fan's record stays. -/
theorem tachometerGivesATurningFanItsSpeed : Obligations.TachometerGivesATurningFanItsSpeed := by
  intro i period s hrest
  have hpulse : exec (.tachPulse i period) s = done { s with
      comms := s.comms.setFan i ((s.comms.fanAt i).measure (speedOf (s.settings.fans.get i).pulses period)) } := rfl
  have htimeout : exec (.tachTimeout i) s =
      done { s with comms := s.comms.setFan i ((s.comms.fanAt i).measure 0) } := rfl
  rw [hpulse, htimeout, done_setFan hrest, done_setFan hrest]
  refine ⟨fun hon => ?_, fun hoff => ?_⟩
  · rw [Fan.measure, if_pos hon, Fan.measure, if_pos hon]
    exact ⟨rfl, rfl⟩
  · rw [Fan.measure, if_neg (by simp [hoff]), Fan.measure, if_neg (by simp [hoff]), Comms.setFan_fanAt]
    exact ⟨rfl, rfl⟩

/-! ## Frames that pass nothing (R60, R69, R70, R89) -/

/-- On a bus that is not free nothing waits to be started. -/
theorem State.framesStarted_of_busy {s : State} (h : s.comms.link.busFreeCount ≠ Config.busFreeBits) :
    s.framesStarted = true := by
  simp [State.framesStarted, State.canStart, h]

/-- A station at rest whose link has taken another party's frame, and counted what it makes of it. -/
theorem done_otherFrame {s : State} (h : s.atRest = true) (f : LinkCounters → LinkCounters) :
    done (s.otherFrame.countLink f) =
      .next { s.otherFrame.countLink f with moment := s.moment + 1 } := by
  refine done_of_atRest (s := s.otherFrame.countLink f) ?_
  simp only [State.atRest, Bool.and_eq_true] at h ⊢
  obtain ⟨⟨htold, htaken⟩, -⟩ := h
  exact ⟨⟨htold, htaken⟩, State.framesStarted_of_busy (nofun : (0 : Nat) ≠ 16)⟩

/-- A frame from this station's own unit is counted as taken and as a clash, whatever it would pass (R69). -/
theorem State.taken_of_clash {s : State} (ho : s.operating = true) {sender : Nat} (hu : sender = s.settings.unit)
    (pass : State → State) : s.taken sender pass = s.otherFrame.countLink fun k => k.taken.clash := by
  simp only [State.taken, State.isClash, ho, hu, decide_true, Bool.and_true, if_true]
  rfl

theorem State.requestReceived_of_clash {s : State} (ho : s.operating = true) {sender : Nat}
    (hu : sender = s.settings.unit) (target : Nat) (r : Request) :
    s.requestReceived sender target r = s.otherFrame.countLink fun k => k.taken.clash := by
  simp only [State.requestReceived, State.isClash, ho, hu, decide_true, Bool.and_true, Bool.true_or, if_true]
  rfl

/-- Settles O37: each such frame reaches the link's counters and the bus alone. -/
theorem framesThatPassNothingOnlyCount : Obligations.FramesThatPassNothingOnlyCount := by
  intro sender kind s hrest
  refine ⟨done_otherFrame hrest _, fun b => ?discarded, fun ho => ?unpassed, fun ho hu => ?clash⟩
  case discarded =>
    cases b with
    | true => exact done_otherFrame hrest _
    | false => exact done_otherFrame hrest id
  case unpassed =>
    have hrun : exec (.unpassedFrameTaken sender kind) s = done (s.taken sender.toNat id) := rfl
    rw [hrun]
    by_cases hu : sender.toNat = s.settings.unit
    · rw [State.taken_of_clash ho hu, done_otherFrame hrest, if_pos hu]
      rfl
    · rw [State.taken_of_passed id ho hu, if_neg hu]
      exact done_otherFrame hrest _
  case clash =>
    have hclash (pass : State → State) : done (s.taken sender.toNat pass) = done (s.taken sender.toNat id) := by
      rw [State.taken_of_clash ho hu, State.taken_of_clash ho hu]
    refine ⟨fun _ => hclash _, fun _ _ => hclash _, fun _ _ _ => hclash _, fun u k a data => ?_⟩
    have hrequest : exec (.serviceRequestTaken sender u k a data) s =
        done (s.requestReceived sender.toNat u.toNat ⟨k, a, data⟩) := rfl
    have hunpassed : exec (.unpassedFrameTaken sender kind) s = done (s.taken sender.toNat id) := rfl
    rw [hrequest, hunpassed, State.requestReceived_of_clash ho hu, State.taken_of_clash ho hu]

/-! ## Every command completes (log 1, 2, 28) -/

/-- The clock and the queue of commands are left alone. -/
structure State.SameClock (s u : State) : Prop where
  pending : u.pending = s.pending
  now : u.now = s.now
  moment : u.moment = s.moment

theorem State.SameClock.refl {s : State} : s.SameClock s := ⟨rfl, rfl, rfl⟩

theorem State.SameClock.trans {s t u : State} (h : s.SameClock t) (k : t.SameClock u) : s.SameClock u :=
  ⟨k.pending.trans h.pending, k.now.trans h.now, k.moment.trans h.moment⟩

theorem State.SameClock.ite {s u : State} {c : Prop} [Decidable c] (h : s.SameClock u) :
    s.SameClock (if c then u else s) := by
  split
  · exact h
  · exact .refl

/-- What a command comes to: the end of a step after an effect that leaves the clock alone. -/
def Completes (s : State) (o : Host.Outcome State Fault Refusal) : Prop := ∃ u, o = done u ∧ s.SameClock u

theorem completes_done {s u : State} (h : s.SameClock u) : Completes s (done u) := ⟨u, rfl, h⟩

theorem State.taken_sameClock (s : State) (sender : Nat) {pass : State → State} (h : ∀ t : State, t.SameClock (pass t)) :
    s.SameClock (s.taken sender pass) := by
  unfold State.taken
  dsimp only
  split
  · split
    · exact ⟨rfl, rfl, rfl⟩
    · refine State.SameClock.trans (t := s.otherFrame.countLink LinkCounters.taken) ⟨rfl, rfl, rfl⟩ (h _)
  · exact ⟨rfl, rfl, rfl⟩

theorem startLaneOf_sameClock (pins : Pins) : ∀ (ps : List (Fin 4)) (s : State),
    s.SameClock (ps.foldl (startLaneOf pins) s)
  | [], _ => .refl
  | p :: ps, s => by
    refine State.SameClock.trans ?_ (startLaneOf_sameClock pins ps _)
    unfold startLaneOf
    split
    · exact ⟨by simp, by simp, by simp⟩
    · exact .refl

theorem State.start_sameClock (s : State) (pins : Pins) (kept : Option Kept) : s.SameClock (s.start pins kept) := by
  have hstopped : s.SameClock s.stopped := ⟨rfl, rfl, rfl⟩
  obtain h | h := s.start_cases pins kept <;> rw [h]
  · exact hstopped.trans ⟨rfl, rfl, rfl⟩
  · have hload : s.SameClock (s.stopped.loadBlocks kept) := hstopped.trans ⟨rfl, rfl, rfl⟩
    refine (hload.trans (startLaneOf_sameClock pins (List.finRange 4) _)).trans ⟨?_, ?_, ?_⟩ <;>
      simp [State.zoneStarted, State.startZone]

theorem sampleConversionComplete_completes (s : State) (code : BitVec 12) :
    Completes s (execSampleConversionComplete code s) := by
  unfold execSampleConversionComplete State.sampleResult
  split
  · split <;> exact completes_done ⟨rfl, rfl, rfl⟩
  · exact completes_done .refl

theorem exec_completes (c : Instr) (s : State) : Completes s (exec c s) := by
  have hsimp {u : State} (h : u.pending = s.pending ∧ u.now = s.now ∧ u.moment = s.moment) : s.SameClock u :=
    ⟨h.1, h.2.1, h.2.2⟩
  match c with
  | .powerOnReset pins => exact completes_done (s.start_sameClock pins none)
  | .restartTaken pins => exact completes_done (.ite (s.start_sameClock pins s.kept))
  | .sampleConversionComplete code => exact sampleConversionComplete_completes s code
  | .zeroConversionComplete _ | .zeroProtectedPartEnd =>
    simp only [exec, execZeroConversionComplete, execZeroProtectedPartEnd]
    split
    · exact completes_done ⟨rfl, rfl, rfl⟩
    · exact completes_done .refl
  | .warmUpTimerExpiry _ | .settleTimerExpiry _
  | .zeroIntervalTimerExpiry _ | .signRefreshTimerExpiry | .rampTick | .pwmPeriodStart | .lampPresenceTimerExpiry _
  | .scanTimerExpiry | .flashTimerExpiry =>
    exact completes_done (.ite ⟨rfl, rfl, rfl⟩)
  | .gasUpdateTimerExpiry | .minuteBoundary | .movementRoll | .bayPollAnswer _ _ | .bayNoAnswer _ | .loopChange _ _ _
  | .loopStuckTimerExpiry _ _ | .arrivalExpiry | .purgeAssertionTaken | .purgeReleaseTaken =>
    exact completes_done (.ite (hsimp (by simp)))
  | .alarmHoldTimerExpiry =>
    refine completes_done (.ite (hsimp ?_))
    split
    · exact ⟨rfl, rfl, rfl⟩
    · simp
  | .zoneReportTaken _ _ => exact completes_done (s.taken_sameClock _ fun _ => ⟨by simp, by simp, by simp⟩)
  | .startNoticeTaken _ _ _ => exact completes_done (s.taken_sameClock _ fun _ => ⟨rfl, rfl, rfl⟩)
  | .transitNoticeTaken _ _ _ _ => exact completes_done (s.taken_sameClock _ fun _ => ⟨by simp, by simp, by simp⟩)
  | .unpassedFrameTaken _ _ => exact completes_done (s.taken_sameClock _ fun _ => .refl)
  | .receivedFrameDiscarded true | .receivedFrameDiscarded false => exact completes_done ⟨rfl, rfl, rfl⟩
  | .busFree | .frameDelivered | .serviceRequestTaken _ _ _ _ _ | .staleTimerExpiry _ | .lostTimerExpiry _
  | .lanePresenceTimerExpiry _ => exact completes_done (hsimp (by simp))
  | .headValueAgesTs _ | .headValueAges2Ts _ | .dwellTimerExpiry | .localSpacingTimerExpiry | .tachPulse _ _
  | .tachTimeout _ | .spinUpTimerExpiry _ | .runningCheck _ | .checkHoldTimerExpiry _ | .rotationTimerExpiry
  | .boostTimerExpiry | .arbitrationLost | .lateCollision | .attemptVoided | .attemptUnheard | .stretchBegin
  | .stretchTimerExpiry | .stuckTimerExpiry | .joinTimerExpiry | .lateCollisionRecordLapse | .periodicRequest
  | .spacingTimerExpiry | .startNoticeEntryExpiry _ _ | .brokenFrame | .signRecordEnd | .lockWriteEnd _
  | .commitWriteEnd _ | .clearHeadFault _ | .lockFan _ | .unlockFan _ | .clearFanFault _ | .boostStage _ _
  | .clearDetector _ _ | .statusQuery _ | .counterQuery _ _ | .clearStoreError | .configWrite _ _ | .configRead _
  | .configCommit | .restart | .unknownRequestKind _ _ => exact completes_done ⟨rfl, rfl, rfl⟩

/-- Settles O3: every command is the end of a step after an effect that leaves the clock and the queue alone. -/
theorem everyCommandCompletes : Obligations.EveryCommandCompletes := by
  intro c s
  obtain ⟨u, hdone, hclock⟩ := exec_completes c s
  rw [hdone]
  exact ⟨_, rfl, u.settle_frame.2.2.2.2.2.trans hclock.pending, u.settle_frame.2.2.1.trans hclock.now,
    congrArg (· + 1) hclock.moment⟩

end Sys2Proof.Machine
end

section
/-! What the end of a command leaves to do (R61, R66, R175), O4, and the state right after reset, O60. -/

namespace Sys2Proof.Machine

/-! ## Requests that wait (R175) -/

theorem Comms.Reported.requests {c d : Comms} (h : c.Reported d) : d.service.queue = c.service.queue := by
  induction h with
  | refl => rfl
  | tail _ hlast ih =>
    obtain ⟨e, rfl⟩ := hlast
    rw [← ih]
    simp

theorem foldl_release_reported : ∀ (bs : List (Fin 48)) (s : State),
    s.comms.Reported (bs.foldl State.release s).comms
  | [], _ => .refl
  | b :: bs, s => (s.release_rebayed b).reported.trans (foldl_release_reported bs _)

theorem State.arrivalsZoneChange_reported (s : State) (was : Bool) :
    s.comms.Reported (s.arrivalsZoneChange was).comms := by
  unfold State.arrivalsZoneChange
  split
  · exact .refl
  · split
    · unfold State.clearArrivals
      dsimp only
      have hfold := foldl_release_reported (List.finRange 48) (((s.setList []).countArrival fun k =>
        { k with cleared := bumpBy s.tracker.list.length k.cleared }).reformLeadIn)
      rw [State.reformLeadIn_frame .. |>.2.2.2.2.2.2.1] at hfold
      exact hfold
    · exact s.holdRound_rebayed.reported

theorem State.zoneEntered_requests (s : State) (st : ZoneState) :
    (s.zoneEntered st).comms.service = s.comms.service := by
  unfold State.zoneEntered
  dsimp only
  split <;> rfl

/-- A change of zone state leaves the requests that wait. -/
theorem State.setZone_requests (s : State) (st : ZoneState) :
    (s.setZone st).comms.service.queue = s.comms.service.queue := by
  have hbays := ((s.zoneEntered st).reformIndicators.arrivalsZoneChange_reported s.grave).requests
  have hguide (t : State) : t.presentZone.comms.service.queue = t.comms.service.queue :=
    t.reformGuide_reported.requests
  rw [State.setZone_eq]
  simp [State.zoneLit, hguide, hbays, State.zoneEntered_requests]

theorem State.evaluate_requests (s : State) : s.evaluate.comms.service.queue = s.comms.service.queue := by
  unfold State.evaluate
  split
  · rfl
  · exact s.setZone_requests _

theorem State.ventSettle_requests (s : State) : s.ventSettle.comms.service.queue = s.comms.service.queue := by
  unfold State.ventSettle
  split
  · exact State.evaluate_requests _
  · rfl

/-- What an answer does to a fan leaves the requests that wait. -/
theorem State.answerFan_requests (s : State) (lock : Bool) (x y : Byte) :
    (s.answerLock lock x).state.comms.service.queue = s.comms.service.queue ∧
    (s.answerClearFan x).state.comms.service.queue = s.comms.service.queue ∧
    (s.answerBoost x y).state.comms.service.queue = s.comms.service.queue := by
  unfold State.answerLock State.answerClearFan State.answerBoost
  refine ⟨?_, ?_, ?_⟩
  · split
    · rfl
    · split
      · rfl
      · split
        · rfl
        · split
          · rfl
          · dsimp only
            split <;> cases lock <;> simp
  · split
    · rfl
    · split
      · rfl
      · split <;> simp
  · split
    · rfl
    · split <;> simp

/-- An answer neither takes nor adds a request. -/
theorem State.answer_requests (s : State) (r : Request) :
    (s.answer r).state.comms.service.queue = s.comms.service.queue := by
  have hlock (l : Bool) (x : Byte) := (s.answerFan_requests l x 0).1
  have hclear (x : Byte) := (s.answerFan_requests true x 0).2.1
  have hboost (x y : Byte) := (s.answerFan_requests true x y).2.2
  have hrestart : s.answerRestart.state.comms.service.queue = s.comms.service.queue := rfl
  unfold State.answer
  split <;> simp [hlock, hclear, hboost, hrestart]

/-- A request that is served leaves the queue, and nothing else does. -/
theorem State.serve_requests (s : State) (r : Request) (rest : List Request) :
    (s.serve r rest).comms.service.queue = rest := by
  unfold State.serve
  simp [State.keepCurrent, State.ventSettle_requests, State.answer_requests, State.popRequest]

/-- With as many rounds as requests wait, the responder takes what it may. -/
theorem pump_requestsTaken : ∀ (n : Nat) (s : State), s.comms.service.queue.length ≤ n →
    (pump n s).requestsTaken = true
  | 0, s, h => by
    have hnil : s.comms.service.queue = [] := List.length_eq_zero_iff.mp (Nat.le_zero.mp h)
    simp [pump, State.requestsTaken, hnil]
  | n + 1, s, h => by
    unfold pump
    split
    next hmay =>
      split
      next hnil => simp [State.requestsTaken, hnil]
      next r rest hcons =>
        refine pump_requestsTaken n _ ?_
        rw [s.serve_requests, ← Nat.succ_le_succ_iff]
        rwa [hcons] at h
    next hmay => simp [State.requestsTaken, hmay]

theorem State.requestsTaken_congr {s t : State} (hservice : t.comms.service = s.comms.service)
    (hstore : t.store = s.store) : t.requestsTaken = s.requestsTaken := by
  simp only [State.requestsTaken, State.mayServe, State.restartDue, hservice, hstore]

/-! ## The link at the end of a step (R61, R66) -/

theorem State.linkSettle_framesStarted (s : State) : s.linkSettle.framesStarted = true := by
  obtain h | h := s.linkSettle_cases <;> rw [h]
  · exact s.framesStarted_startFirst
  · exact State.framesStarted_of_busy (nofun : (0 : Nat) ≠ 16)

theorem presentFirst_service (e : Env) (c : Comms) : (presentFirst e c).service = c.service := by
  unfold presentFirst
  split <;> rfl

/-- The link's start of a frame is no concern of the responder's. -/
theorem State.linkSettle_service (s : State) : s.linkSettle.comms.service = s.comms.service := by
  obtain h | h := s.linkSettle_cases <;> rw [h]
  unfold State.startFirst State.launch
  split
  · split
    · exact presentFirst_service _ _
    · exact presentFirst_service _ _
  · rfl

theorem State.settle_requestsTaken (s : State) : s.settle.requestsTaken = true := by
  unfold State.settle
  rw [State.requestsTaken_congr (State.linkSettle_service _) (by simp)]
  exact pump_requestsTaken _ _ (Nat.le_refl _)

theorem State.settle_framesStarted (s : State) : s.settle.framesStarted = true := State.linkSettle_framesStarted _

/-- Settles O4: every command ends with the responder's and the link's part of the end of a step. -/
theorem nothingThatCouldMoveIsLeftWaiting : Obligations.NothingThatCouldMoveIsLeftWaiting := by
  intro c s t h
  obtain ⟨u, hdone, -⟩ := exec_completes c s
  rw [hdone] at h
  cases h
  exact ⟨u.settle_requestsTaken, u.settle_framesStarted⟩

/-! ## Right after reset -/

/-- Settles O60: each rule is read off the reset values. -/
theorem resetMeetsTheRules : Obligations.ResetMeetsTheRules := by
  refine ⟨fun h => ?heads, ?scores, ?effective, fun i => ?duties, nofun, ?lists, fun b => ?holds, fun h => ?advert,
    queueSound_of_empty rfl, fun k => ?lamps, fun k => ?leadIn, ?guidance, ?rest, rfl, rfl, fun i => ?fans, rfl, rfl⟩
  case heads =>
    have hh : State.reset.gas.heads.get h = Head.absent := Tbl.get_const ..
    rw [hh]
    exact ⟨fun _ => ⟨rfl, rfl, rfl⟩, nofun, nofun⟩
  case scores => exact ⟨fun g => by cases g <;> exact ⟨Nat.zero_le _, Nat.zero_le _⟩, Nat.zero_le _, Nat.zero_le _⟩
  case effective => exact ⟨by decide, by decide, by decide⟩
  case duties =>
    have hi : State.reset.comms.fanAt i = Fan.stopped := Tbl.get_const ..
    rw [hi]; rfl
  case lists => exact ⟨Nat.zero_le _, Nat.zero_le _, Nat.zero_le _, Nat.zero_le _⟩
  case holds =>
    have hb : State.reset.scanner.bays.get b = Bay.unused := Tbl.get_const ..
    rw [State.bayState, hb]; rfl
  case advert => exact ⟨rfl, rfl, rfl⟩
  case lamps =>
    have hk : State.reset.lamps.channels.get k = Channel.reset 1023 := Tbl.get_const ..
    rw [hk]; exact (if_pos (.inl rfl)).symm
  case leadIn =>
    have hk : State.reset.lamps.channels.get k = Channel.reset 1023 := Tbl.get_const ..
    rw [hk]
    exact ⟨Tbl.get_const .., (Tbl.get_const ..).symm⟩
  case guidance =>
    have hnone (p : Fin 4) : State.reset.guide.candidates.get p = none := Tbl.get_const ..
    refine ⟨fun _ => rfl, nofun, fun p o ho => ?_, fun _ => ⟨by decide, by decide, rfl, rfl⟩, fun h => absurd rfl h,
      fun i => ?_⟩
    · rw [hnone] at ho; cases ho
    · revert i; decide
  case rest => decide
  case fans =>
    have hi : State.reset.comms.fanAt i = Fan.stopped := Tbl.get_const ..
    rw [hi]; rfl

end Sys2Proof.Machine
end

section
/-! The gas heads and the arbiter: O8, O9, O10, O12 to O16. -/

namespace Sys2Proof.Machine

/-! ## The arbiter (R5, R11) -/

section
variable {cfg : Settings} {g : GasFront}

theorem roundRobin_ordered (p : Fin 4) : (roundRobin p).Pairwise fun a b => a - p - 1 ≤ b - p - 1 := by
  revert p; decide

/-- The head found at a level is the first after the head last granted (R5). -/
theorem GasFront.firstAt_first {l : Level} {h : Fin 4} (hf : g.firstAt cfg l = some h) (k : Fin 4)
    (hk : requestOf cfg g k = some l) : h - g.pointer - 1 ≤ k - g.pointer - 1 := by
  obtain ⟨-, before, after, hrobin, hbefore⟩ := List.find?_eq_some_iff_append.mp hf
  have hmem := mem_roundRobin g.pointer k
  have hordered := roundRobin_ordered g.pointer
  rw [hrobin] at hmem hordered
  obtain hk' | hk' := List.mem_append.mp hmem
  · exact absurd (hbefore k hk') (by simp [hk])
  · obtain rfl | hk' := List.mem_cons.mp hk'
    · exact Fin.le_refl _
    · exact (List.pairwise_cons.mp (List.pairwise_append.mp hordered).2.1).1 k hk'

/-- A grant goes to the first head at its level, and no head stands a request at a higher level (R5). -/
theorem GasFront.nextGrant_highest {l : Level} {h : Fin 4} (hn : g.nextGrant cfg = some (l, h)) :
    g.firstAt cfg l = some h ∧ (l ≠ .urgent → ∀ k, requestOf cfg g k ≠ some .urgent) ∧
      (l = .zero → ∀ k, requestOf cfg g k ≠ some .normal) := by
  unfold GasFront.nextGrant at hn
  split at hn
  next hu => cases hn; exact ⟨hu, fun hl => absurd rfl hl, nofun⟩
  next hu =>
    have hurgent := firstAt_eq_none.mp hu
    split at hn
    next hm => cases hn; exact ⟨hm, fun _ => hurgent, nofun⟩
    next hm =>
      split at hn
      next hz => cases hn; exact ⟨hz, fun _ => hurgent, fun _ => firstAt_eq_none.mp hm⟩
      next => cases hn

theorem GasFront.grant_of_busy (hc : g.converter ≠ .idle) : g.grant cfg = g := by
  unfold GasFront.grant
  split
  next hidle _ => exact absurd hidle hc
  next => rfl

/-- An URGENT request is not altered by the end of a zero conversion. -/
theorem requestOf_urgent_of_idle {k z : Fin 4} {guarded : Bool} {left : Nat}
    (hc : g.converter = .zero z guarded left) (f : GasCounters → GasCounters)
    (hk : requestOf cfg g k = some .urgent) :
    requestOf cfg { g.count f with converter := .idle } k = some .urgent := by
  have hactive := requestOf_active hk nofun
  unfold requestOf at hk ⊢
  simpa [hactive, hc, GasFront.count, Converter.samples] using hk

/-- The arbiter on a zero conversion in its protected part that an URGENT request breaks: the conversion is aborted, and
a sample conversion starts (R5, R11). -/
theorem GasFront.arbitrate_of_abort {z k : Fin 4} {left : Nat} (hc : g.converter = .zero z true left)
    (hk : requestOf cfg g k = some .urgent) :
    ∃ j, g.arbitrate cfg = { g with
      converter := .sample j 40, pointer := j
      counters := { g.counters with zeroAborts := bump g.counters.zeroAborts } } := by
  have hsome : (g.firstAt cfg .urgent).isSome = true := by
    rw [Option.isSome_iff_ne_none]
    exact fun hnone => firstAt_eq_none.mp hnone k hk
  have habort : g.abortZero cfg =
      { g.count (fun k => { k with zeroAborts := bump k.zeroAborts }) with converter := .idle } := by
    simp [GasFront.abortZero, hc, hsome]
  have hurgent := requestOf_urgent_of_idle hc (fun k => { k with zeroAborts := bump k.zeroAborts }) hk
  rw [GasFront.arbitrate, habort]
  generalize hfree : ({ g.count (fun k => { k with zeroAborts := bump k.zeroAborts }) with converter := .idle } :
    GasFront) = free at hurgent
  have hidle : free.converter = .idle := by rw [← hfree]
  match hn : free.nextGrant cfg with
  | none => exact absurd (requestOf_of_nextGrant_none hn k) (by simp [hurgent])
  | some (l, j) =>
    have hl : l = .urgent := by
      by_contra hne
      exact (nextGrant_highest hn).2.1 hne k hurgent
    refine ⟨j, ?_⟩
    simp only [GasFront.grant, hidle, hn, hl]
    rw [← hfree]
    rfl

/-- The arbiter leaves a busy converter alone where no abort is due (R5, R11). -/
theorem GasFront.arbitrate_of_busy (hc : g.converter ≠ .idle)
    (hno : ∀ h left, g.converter = .zero h true left → ∀ k, requestOf cfg g k ≠ some .urgent) :
    g.arbitrate cfg = g := by
  have habort : g.abortZero cfg = g := by
    unfold GasFront.abortZero
    split
    next z left hz =>
      have hnone : g.firstAt cfg .urgent = none := firstAt_eq_none.mpr (hno z left hz)
      simp [hnone]
    next => rfl
  rw [GasFront.arbitrate, habort, grant_of_busy hc]

/-- What the arbiter can do: grant the free converter, abort and grant, or leave the front end as it is. -/
theorem GasFront.arbitrate_cases (cfg : Settings) (g : GasFront) :
    g.converter = .idle ∨
    (∃ z left k, g.converter = .zero z true left ∧ requestOf cfg g k = some .urgent) ∨
    g.converter ≠ .idle ∧ g.arbitrate cfg = g := by
  by_cases hidle : g.converter = .idle
  · exact .inl hidle
  by_cases habort : ∃ z left k, g.converter = .zero z true left ∧ requestOf cfg g k = some .urgent
  · exact .inr (.inl habort)
  · refine .inr (.inr ⟨hidle, arbitrate_of_busy hidle fun z left hz k hk => habort ⟨z, left, k, hz, hk⟩⟩)

theorem GasFront.arbitrate_heads (cfg : Settings) (g : GasFront) : (g.arbitrate cfg).heads = g.heads := by
  obtain hidle | ⟨z, left, k, hc, hk⟩ | ⟨-, hsame⟩ := g.arbitrate_cases cfg
  · exact arbitrate_idle_heads cfg hidle
  · obtain ⟨j, hj⟩ := arbitrate_of_abort hc hk
    rw [hj]
  · rw [hsame]

theorem GasFront.arbitrate_idle_counters (hc : g.converter = .idle) : (g.arbitrate cfg).counters = g.counters := by
  obtain ⟨hkept, -⟩ | ⟨l, k, hgrant⟩ := arbitrate_of_idle cfg hc
  · rw [hkept]
  · rw [hgrant]

/-- A converter that is idle after the arbiter has run: no head stands a request (R5). -/
theorem GasFront.no_request_of_idle (hidle : (g.arbitrate cfg).converter = .idle) (k : Fin 4) :
    requestOf cfg (g.arbitrate cfg) k = none := by
  obtain hc | ⟨z, left, k, hc, hk⟩ | ⟨hbusy, hsame⟩ := g.arbitrate_cases cfg
  · exact (arbitrate_stays_idle hc hidle).2 k
  · obtain ⟨j, hj⟩ := arbitrate_of_abort hc hk
    rw [hj] at hidle
    cases hidle
  · rw [hsame] at hidle
    exact absurd hidle hbusy

/-- A conversion that the arbiter has started from an idle converter: the grant that it made. -/
theorem GasFront.arbitrate_grant (hc : g.converter = .idle) (hbusy : (g.arbitrate cfg).converter ≠ .idle) :
    ∃ l h, g.nextGrant cfg = some (l, h) ∧ g.arbitrate cfg = { g with converter := conversionFor l h, pointer := h } := by
  have habort : g.abortZero cfg = g := by simp [GasFront.abortZero, hc]
  rw [GasFront.arbitrate, habort] at hbusy ⊢
  match hn : g.nextGrant cfg with
  | none =>
    have hsame : g.grant cfg = g := by simp [GasFront.grant, hn]
    rw [hsame] at hbusy
    exact absurd hc hbusy
  | some (l, h) => exact ⟨l, h, rfl, by simp [GasFront.grant, hc, hn]⟩

end

/-- Settles O16, by the three things the arbiter can do. -/
theorem arbiterServesTheHighestLevel : Obligations.ArbiterServesTheHighestLevel := by
  intro cfg g
  refine ⟨GasFront.no_request_of_idle, fun hc hidle => ?stays, fun hbusy hno => ?busy, fun hc h left hs => ?sample,
    fun hc h guarded left hz => ?zero⟩
  case stays =>
    obtain ⟨hkept, -⟩ | ⟨l, k, hgrant⟩ := GasFront.arbitrate_of_idle cfg hc
    · exact hkept
    · rw [hgrant] at hidle
      exact absurd hidle (conversionFor_ne_idle l k)
  case busy => exact GasFront.arbitrate_of_busy hbusy fun h left hz => absurd hz (hno h left)
  case sample =>
    obtain ⟨l, j, hn, hgrant⟩ := GasFront.arbitrate_grant hc (cfg := cfg) (by rw [hs]; exact nofun)
    obtain ⟨hfirst, hurgent, -⟩ := GasFront.nextGrant_highest hn
    have hrequest := GasFront.requestOf_of_firstAt hfirst
    rw [hgrant] at hs ⊢
    have hl : l ≠ .zero ∧ j = h := by cases l <;> simp_all [conversionFor]
    obtain ⟨hl, rfl⟩ := hl
    refine ⟨rfl, fun k hk => GasFront.firstAt_first hfirst k (hk.trans hrequest), ?_⟩
    cases l with
    | urgent => exact .inl hrequest
    | normal => exact .inr ⟨hrequest, hurgent nofun⟩
    | zero => exact absurd rfl hl
  case zero =>
    obtain ⟨l, j, hn, hgrant⟩ := GasFront.arbitrate_grant hc (cfg := cfg) (by rw [hz]; exact nofun)
    obtain ⟨hfirst, hurgent, hnormal⟩ := GasFront.nextGrant_highest hn
    have hrequest := GasFront.requestOf_of_firstAt hfirst
    rw [hgrant] at hz ⊢
    have hl : l = .zero ∧ j = h := by cases l <;> simp_all [conversionFor]
    obtain ⟨rfl, rfl⟩ := hl
    exact ⟨rfl, fun k hk => GasFront.firstAt_first hfirst k (hk.trans hrequest), hrequest,
      fun k => ⟨hurgent nofun k, hnormal rfl k⟩⟩

/-! ## Commands of the heads on a station at rest -/

/-- The station with its gas front end moved and the arbiter run. -/
theorem done_gas {s : State} (h : s.atRest = true) (g : GasFront) :
    done { s with gas := g } = .next { s with gas := g, moment := s.moment + 1 } :=
  done_of_atRest (s := { s with gas := g }) h

theorem requestOf_of_active {cfg : Settings} {g : GasFront} {h : Fin 4} (hs : (g.heads.get h).state = .active)
    (hc : g.converter.samples h = false) :
    requestOf cfg g h = match (g.heads.get h).latest with
      | none => some .urgent
      | some l => if 2 * cfg.tsMs < l.age then some .urgent else if cfg.tsMs ≤ l.age then some .normal else none := by
  unfold requestOf
  simp only [hs, hc]
  rfl

theorem requestOf_of_settled {cfg : Settings} {g : GasFront} {h : Fin 4} (hs : (g.heads.get h).state = .zeroing)
    (hsettle : (g.heads.get h).settle = .expired) (hc : g.converter.zeroes h = false) :
    requestOf cfg g h = some .zero := by
  unfold requestOf
  simp [hs, hsettle, hc]

/-- A head without a value that is in service: it stands URGENT, or is being converted (R4). -/
theorem urgent_or_sampled {cfg : Settings} {g : GasFront} {h : Fin 4} (hs : (g.heads.get h).state = .active)
    (hnone : (g.heads.get h).latest = none) : requestOf cfg g h = some .urgent ∨ g.converter.samples h = true := by
  cases hc : g.converter.samples h with
  | true => exact .inr rfl
  | false => left; rw [requestOf_of_active hs hc, hnone]

theorem GasFront.mayRest_state {cfg : Settings} {grave : Bool} {fs : Nat} {g : GasFront} {h : Fin 4}
    (hm : g.mayRest cfg grave fs h = true) : (g.heads.get h).state = .active ∧ 0 < (g.heads.get h).backlog := by
  simp only [GasFront.mayRest, Bool.and_eq_true, decide_eq_true_eq] at hm
  exact ⟨hm.1.1.1.1.1, hm.1.1.1.1.2⟩

theorem GasFront.restTest_counters (cfg : Settings) (grave : Bool) (fs : Nat) (g : GasFront) (h : Fin 4) :
    (g.restTest cfg grave fs h).counters = g.counters := by
  unfold GasFront.restTest
  split <;> rfl

/-- A rest test of one head: as it was, or gone to rest (R9). -/
theorem GasFront.restTest_get_or (cfg : Settings) (grave : Bool) (fs : Nat) (g : GasFront) (h : Fin 4) :
    (g.restTest cfg grave fs h).heads.get h = g.heads.get h ∨
      (g.heads.get h).state = .active ∧ 0 < (g.heads.get h).backlog ∧
        (g.restTest cfg grave fs h).heads.get h =
          { g.heads.get h with state := .zeroing, settle := .running 2000 } := by
  rw [restTest_get_self]
  split
  next hm => exact .inr ⟨(mayRest_state hm).1, (mayRest_state hm).2, rfl⟩
  next => exact .inl rfl

/-- The front end that the arbiter finds after a warm-up: the head is in service, and its partner is tested (R3, R9). -/
def State.warmedFront (s : State) (h : Fin 4) : GasFront :=
  (s.gas.setHead h ((s.gas.heads.get h).warmed s.settings)).restTest s.settings s.grave s.fume.fs (partner h)

theorem State.warmedFront_self (s : State) (h : Fin 4) :
    (s.warmedFront h).heads.get h = (s.gas.heads.get h).warmed s.settings := by
  rw [warmedFront, GasFront.restTest_get_ne _ _ _ _ (partner_ne h).symm, GasFront.setHead_get_self]

/-- Settles O8: the warmed head is in service, and its partner's rest test is the one other change. -/
theorem warmUpEndsInService : Obligations.WarmUpEndsInService := by
  intro h s hrest hstate htimer
  have hrun : exec (.warmUpTimerExpiry h) s = done { s with gas := (s.warmedFront h).arbitrate s.settings } :=
    congrArg done (if_pos ⟨hstate, htimer⟩)
  have hheads := (s.warmedFront h).arbitrate_heads s.settings
  refine ⟨_, hrun.trans (done_gas hrest _), rfl, ?_⟩
  dsimp only
  rw [hheads, s.warmedFront_self]
  refine ⟨rfl, fun hnone => ?request, fun k hk hkp => ?others, ?partner⟩
  case request =>
    refine urgent_or_sampled ?_ ?_ <;> rw [hheads, s.warmedFront_self]
    · rfl
    · exact hnone
  case others =>
    rw [State.warmedFront, GasFront.restTest_get_ne _ _ _ _ hkp, GasFront.setHead_get_ne _ hk]
  case partner =>
    have htest := GasFront.restTest_get_or s.settings s.grave s.fume.fs
      (s.gas.setHead h ((s.gas.heads.get h).warmed s.settings)) (partner h)
    rw [GasFront.setHead_get_ne _ (partner_ne h)] at htest
    exact htest

/-! ### Values that age (R4) -/

/-- The front end with a head's latest value aged. -/
def State.agedFront (s : State) (h : Fin 4) (age : Nat) : GasFront :=
  s.gas.setHead h ((s.gas.heads.get h).aged age)

section
variable {s : State} {h : Fin 4} {l : Latest}

theorem State.agedFront_self (hs : (s.gas.heads.get h).state = .active) (hl : (s.gas.heads.get h).latest = some l)
    (age : Nat) : (s.agedFront h age).heads.get h =
      { s.gas.heads.get h with latest := some ⟨l.value, max l.age age⟩ } := by
  rw [agedFront, GasFront.setHead_get_self, Head.aged, if_pos hs, hl]
  rfl

theorem State.agedFront_ne {k : Fin 4} (hk : k ≠ h) (age : Nat) :
    (s.agedFront h age).heads.get k = s.gas.heads.get k :=
  GasFront.setHead_get_ne _ hk

end

/-- Settles O9: the head stands a request as its value is as old as Ts, so an idle converter would be granted. -/
theorem valueAtSamplePeriodIsAskedFor : Obligations.ValueAtSamplePeriodIsAskedFor := by
  intro h l s hrest hactive hl
  have hrun : exec (.headValueAgesTs h) s =
      done { s with gas := (s.agedFront h s.settings.tsMs).arbitrate s.settings } := rfl
  have hheads := (s.agedFront h s.settings.tsMs).arbitrate_heads s.settings
  refine ⟨_, hrun.trans (done_gas hrest _), rfl, ?_⟩
  dsimp only
  rw [hheads, State.agedFront_self hactive hl]
  refine ⟨rfl, fun k hk => State.agedFront_ne hk _, fun hidle => ?_⟩
  have hnone := GasFront.no_request_of_idle hidle h
  have hself : ((s.agedFront h s.settings.tsMs).arbitrate s.settings).heads.get h =
      { s.gas.heads.get h with latest := some ⟨l.value, max l.age s.settings.tsMs⟩ } := by
    rw [hheads, State.agedFront_self hactive hl]
  rw [requestOf_of_active (by rw [hself]; exact hactive) (by rw [hidle]; rfl), hself] at hnone
  simp only [le_max_right, if_true] at hnone
  split at hnone <;> cases hnone

/-- Settles O10: the head stands URGENT as its value is older than 2 Ts, which breaks a protected zero conversion. -/
theorem urgentRequestBreaksAProtectedZeroConversion : Obligations.UrgentRequestBreaksAProtectedZeroConversion := by
  intro h z l guarded left s hrest hactive hl hc
  have hrun : exec (.headValueAges2Ts h) s =
      done { s with gas := (s.agedFront h (2 * s.settings.tsMs + 1)).arbitrate s.settings } := rfl
  have hheads := (s.agedFront h (2 * s.settings.tsMs + 1)).arbitrate_heads s.settings
  have hself := State.agedFront_self hactive hl (2 * s.settings.tsMs + 1)
  have hconv : (s.agedFront h (2 * s.settings.tsMs + 1)).converter = .zero z guarded left := hc
  refine ⟨_, hrun.trans (done_gas hrest _), rfl, ?_⟩
  dsimp only
  rw [hheads, hself]
  refine ⟨rfl, fun k hk => State.agedFront_ne hk _, fun hguarded => ?broken, fun hguarded => ?waits⟩
  case broken =>
    subst hguarded
    have hurgent : requestOf s.settings (s.agedFront h (2 * s.settings.tsMs + 1)) h = some .urgent := by
      rw [requestOf_of_active (by rw [hself]; exact hactive) (by rw [hconv]; rfl), hself]
      exact if_pos (Nat.lt_of_lt_of_le (Nat.lt_succ_self _) (Nat.le_max_right ..))
    obtain ⟨j, hj⟩ := GasFront.arbitrate_of_abort hconv hurgent
    rw [hj]
    exact ⟨⟨j, rfl⟩, rfl⟩
  case waits =>
    subst hguarded
    have hsame := GasFront.arbitrate_of_busy (cfg := s.settings) (g := s.agedFront h (2 * s.settings.tsMs + 1))
      (by rw [hconv]; exact nofun) (by rw [hconv]; exact nofun)
    rw [hsame]
    exact ⟨rfl, rfl⟩

/-! ### Heads that fail (R7, R12, R14, R15) -/

theorem openCode_eq_true {code : BitVec 12} (h : code.toNat ≤ 8 ∨ 4087 ≤ code.toNat) : openCode code = true := by
  simpa [openCode] using h

section
variable {g : GasFront} {h : Fin 4}

theorem GasFront.withdraw_get_ne {k : Fin 4} (hk : k ≠ h) : (g.withdraw h).heads.get k = g.heads.get k := by
  unfold GasFront.withdraw
  dsimp only
  split
  · exact GasFront.setHead_get_ne _ hk
  · rfl

theorem GasFront.withdraw_get_self : (g.withdraw h).heads.get h = if (g.heads.get h).state = .zeroing
    then { g.heads.get h with state := .active, settle := .stopped } else g.heads.get h := by
  unfold GasFront.withdraw
  dsimp only
  split
  · exact GasFront.setHead_get_self ..
  · rfl

theorem GasFront.withdraw_counters : (g.withdraw h).counters = if (g.heads.get h).state = .zeroing
    then { g.counters with zeroWithdrawn := bump g.counters.zeroWithdrawn } else g.counters := by
  unfold GasFront.withdraw
  dsimp only
  split <;> rfl

theorem GasFront.withdraw_idle (hc : g.converter = .idle) : (g.withdraw h).converter = .idle := by
  unfold GasFront.withdraw
  dsimp only
  split
  · simp [hc, Converter.stopZero, Converter.zeroes]
  · exact hc

/-- A head enters OPEN: its record, its partner's, the others', the converter and the counters (R7, R14, R15). -/
theorem GasFront.enterOpen_self : (g.enterOpen h).heads.get h = (g.heads.get h).fail .openCircuit := by
  unfold GasFront.enterOpen
  dsimp only
  rw [GasFront.withdraw_get_ne (partner_ne h).symm]
  exact GasFront.setHead_get_self ..

theorem GasFront.enterOpen_partner : (g.enterOpen h).heads.get (partner h) =
    if (g.heads.get (partner h)).state = .zeroing
      then { g.heads.get (partner h) with state := .active, settle := .stopped } else g.heads.get (partner h) := by
  have hsame (f : GasCounters → GasCounters) (x : Head) :
      ((g.setHead h x).count f).heads.get (partner h) = g.heads.get (partner h) :=
    GasFront.setHead_get_ne _ (partner_ne h)
  unfold GasFront.enterOpen
  dsimp only
  rw [GasFront.withdraw_get_self, hsame]

theorem GasFront.enterOpen_ne {k : Fin 4} (hk : k ≠ h) (hkp : k ≠ partner h) :
    (g.enterOpen h).heads.get k = g.heads.get k := by
  unfold GasFront.enterOpen
  dsimp only
  rw [GasFront.withdraw_get_ne hkp]
  exact GasFront.setHead_get_ne _ hk

theorem GasFront.enterOpen_idle (hc : g.converter = .idle) : (g.enterOpen h).converter = .idle :=
  GasFront.withdraw_idle hc

theorem GasFront.enterOpen_counters : (g.enterOpen h).counters.openFaults = bump g.counters.openFaults ∧
    (g.enterOpen h).counters.zeroWithdrawn = if (g.heads.get (partner h)).state = .zeroing
      then bump g.counters.zeroWithdrawn else g.counters.zeroWithdrawn := by
  have hsame (f : GasCounters → GasCounters) (x : Head) :
      ((g.setHead h x).count f).heads.get (partner h) = g.heads.get (partner h) :=
    GasFront.setHead_get_ne _ (partner_ne h)
  unfold GasFront.enterOpen
  dsimp only
  rw [GasFront.withdraw_counters, hsame]
  split <;> exact ⟨rfl, rfl⟩

end

/-- Settles O12: the head is OPEN and its partner withdrawn before the arbiter grants the free converter. -/
theorem railCodeOpensTheHead : Obligations.RailCodeOpensTheHead := by
  intro h left code s hrest hc hcode
  have hrun : exec (.sampleConversionComplete code) s =
      done { s with gas := (({ s.gas with converter := .idle } : GasFront).enterOpen h).arbitrate s.settings } := by
    simp only [exec, execSampleConversionComplete, hc, State.sampleResult, openCode_eq_true hcode, if_true]
    rfl
  have hidle : (({ s.gas with converter := .idle } : GasFront).enterOpen h).converter = .idle :=
    GasFront.enterOpen_idle rfl
  obtain ⟨hopen, hwithdrawn⟩ := GasFront.enterOpen_counters (g := { s.gas with converter := .idle }) (h := h)
  refine ⟨_, hrun.trans (done_gas hrest _), rfl, ?_⟩
  dsimp only
  rw [GasFront.arbitrate_heads, GasFront.arbitrate_idle_counters hidle]
  exact ⟨GasFront.enterOpen_self, fun k hk hkp => GasFront.enterOpen_ne hk hkp, GasFront.enterOpen_partner, hopen,
    hwithdrawn⟩

/-! ### Zero checks (R10 to R12) -/

theorem withinDrift_iff (cfg : HeadCfg) (z : Nat) :
    withinDrift cfg z = true ↔ ((z : Int) - cfg.zc).natAbs ≤ cfg.drift := by
  simp only [withinDrift, decide_eq_true_eq]
  omega

/-- A quarter of the way toward z never passes below 0 (R12). -/
theorem stepZero_eq (zr z : Nat) : (stepZero zr z : Int) = zr + ((z : Int) - zr).tdiv 4 := by
  refine Int.toNat_of_nonneg ?_
  obtain hle | hlt := Nat.lt_or_ge z zr |>.symm
  · have := Int.tdiv_nonneg (a := (z : Int) - zr) (b := 4) (by omega) (by omega)
    omega
  · have hneg : ((z : Int) - zr).tdiv 4 = -(((zr : Int) - z).tdiv 4) := by rw [← Int.neg_tdiv]; congr 1; omega
    have hquarter : ((zr : Int) - z).tdiv 4 = ((zr : Int) - z) / 4 := Int.tdiv_eq_ediv_of_nonneg (by omega)
    omega

/-- The front end that the arbiter finds after a zero conversion: the converter is free, the head has its result, and
its partner is tested for rest (R9, R12). -/
def State.checkedFront (s : State) (h : Fin 4) (code : BitVec 12) : GasFront :=
  (({ s.gas with converter := .idle } : GasFront).zeroResult s.settings h code).restTest s.settings s.grave s.fume.fs
    (partner h)

section
variable (s : State) (h : Fin 4) (code : BitVec 12)

theorem State.checkedFront_ne {k : Fin 4} (hk : k ≠ partner h) : (s.checkedFront h code).heads.get k =
    (({ s.gas with converter := .idle } : GasFront).zeroResult s.settings h code).heads.get k :=
  GasFront.restTest_get_ne _ _ _ _ hk

theorem State.checkedFront_counters : (s.checkedFront h code).counters =
    (({ s.gas with converter := .idle } : GasFront).zeroResult s.settings h code).counters :=
  GasFront.restTest_counters ..

theorem GasFront.zeroResult_idle {g : GasFront} (hc : g.converter = .idle) (cfg : Settings) :
    (g.zeroResult cfg h code).converter = .idle := by
  unfold GasFront.zeroResult
  split
  · exact GasFront.enterOpen_idle hc
  · split <;> exact hc

theorem State.checkedFront_idle : (s.checkedFront h code).converter = .idle :=
  (GasFront.restTest_fields ..).1.trans (GasFront.zeroResult_idle h code rfl s.settings)

theorem GasFront.zeroResult_ne {g : GasFront} {cfg : Settings} {k : Fin 4} (hk : k ≠ h) (hkp : k ≠ partner h) :
    (g.zeroResult cfg h code).heads.get k = g.heads.get k := by
  unfold GasFront.zeroResult
  split
  · exact GasFront.enterOpen_ne hk hkp
  · split <;> exact GasFront.setHead_get_ne _ hk

end

/-- Settles O13, by the three results a zero conversion can have. -/
theorem zeroCheckStepsTheZeroOrFindsDrift : Obligations.ZeroCheckStepsTheZeroOrFindsDrift := by
  intro h guarded left code s hrest hc
  have hrun : exec (.zeroConversionComplete code) s =
      done { s with gas := (s.checkedFront h code).arbitrate s.settings } := by
    simp only [exec, execZeroConversionComplete, hc]
    rfl
  refine ⟨_, hrun.trans (done_gas hrest _), rfl, ?_⟩
  dsimp only
  rw [GasFront.arbitrate_heads, GasFront.arbitrate_idle_counters (s.checkedFront_idle h code),
    s.checkedFront_ne h code (partner_ne h).symm, s.checkedFront_counters]
  refine ⟨fun k hk hkp => ?others, fun hrail => ?rail, fun hlow hhigh hwithin => ?passed,
    fun hlow hhigh hbeyond => ?drift⟩
  case others => rw [s.checkedFront_ne h code hkp, GasFront.zeroResult_ne h code hk hkp]
  case rail =>
    have hopen : (({ s.gas with converter := .idle } : GasFront).zeroResult s.settings h code) =
        ({ s.gas with converter := .idle } : GasFront).enterOpen h := if_pos (openCode_eq_true hrail)
    rw [hopen]
    exact ⟨GasFront.enterOpen_self, GasFront.enterOpen_counters.1⟩
  case passed =>
    have hgood := openCode_eq_false hlow hhigh
    have hdrift := (withinDrift_iff (s.settings.heads.get h) code.toNat).mpr hwithin
    simp only [GasFront.zeroResult, hgood, hdrift, if_true, Bool.false_eq_true, if_false]
    have hself (f : GasCounters → GasCounters) (x : Head) :
        ((({ s.gas with converter := .idle } : GasFront).setHead h x).count f).heads.get h = x :=
      GasFront.setHead_get_self ..
    rw [hself]
    exact ⟨rfl, rfl, stepZero_eq _ _, rfl, rfl, rfl⟩
  case drift =>
    have hgood := openCode_eq_false hlow hhigh
    have hdrift : withinDrift (s.settings.heads.get h) code.toNat = false := by
      rw [Bool.eq_false_iff, Ne, withinDrift_iff]; omega
    simp only [GasFront.zeroResult, hgood, hdrift, Bool.false_eq_true, if_false]
    exact ⟨GasFront.setHead_get_self .., rfl⟩

/-- Settles O14: the settled head stands a ZERO request, so an idle converter would be granted. -/
theorem zeroCheckGoesOnThroughItsTimers : Obligations.ZeroCheckGoesOnThroughItsTimers := by
  refine ⟨fun h left s hrest hc => ?_, fun h s hrest hstate htimer => ?_⟩
  · have hrun : exec .zeroProtectedPartEnd s =
        done { s with gas := { s.gas with converter := .zero h false left } } := by
      simp only [exec, execZeroProtectedPartEnd, hc]
    exact hrun.trans (done_gas hrest _)
  · have hrun : exec (.settleTimerExpiry h) s = done { s with
        gas := (s.gas.setHead h { s.gas.heads.get h with settle := .expired }).arbitrate s.settings } :=
      congrArg done (if_pos ⟨hstate, htimer⟩)
    set u := s.gas.setHead h { s.gas.heads.get h with settle := .expired } with hu
    have hself : (u.arbitrate s.settings).heads.get h = { s.gas.heads.get h with settle := .expired } := by
      rw [GasFront.arbitrate_heads, hu, GasFront.setHead_get_self]
    have hrequest (hz : (u.arbitrate s.settings).converter.zeroes h = false) :
        requestOf s.settings (u.arbitrate s.settings) h = some .zero :=
      requestOf_of_settled (by rw [hself]; exact hstate) (by rw [hself]) hz
    refine ⟨_, hrun.trans (done_gas hrest _), rfl, hself, fun k hk => ?_, ?_, fun hidle => ?_⟩
    · dsimp only
      rw [GasFront.arbitrate_heads, hu, GasFront.setHead_get_ne _ hk]
    · cases hz : (u.arbitrate s.settings).converter.zeroes h with
      | true => exact .inr rfl
      | false => exact .inl (hrequest hz)
    · have hnone := GasFront.no_request_of_idle hidle h
      rw [hrequest (by rw [hidle]; rfl)] at hnone
      cases hnone

/-- The front end after an expiry of a zero interval timer: the head's check is due, and where its backlog rose it is
tested for rest (R8, R9). -/
def State.dueFront (s : State) (h : Fin 4) : GasFront :=
  if (s.gas.heads.get h).backlog < 3 then
    (s.gas.setHead h ((s.gas.heads.get h).checkDue s.settings)).restTest s.settings s.grave s.fume.fs h
  else s.gas.setHead h ((s.gas.heads.get h).checkDue s.settings)

/-- The head whose check is due: as the expiry leaves it, or gone to rest. -/
theorem State.dueFront_self (s : State) (h : Fin 4) :
    (s.dueFront h).heads.get h = (s.gas.heads.get h).checkDue s.settings ∨
      (s.gas.heads.get h).state = .active ∧ (s.dueFront h).heads.get h =
        { (s.gas.heads.get h).checkDue s.settings with state := .zeroing, settle := .running 2000 } := by
  unfold State.dueFront
  split
  · have htest := GasFront.restTest_get_or s.settings s.grave s.fume.fs
      (s.gas.setHead h ((s.gas.heads.get h).checkDue s.settings)) h
    rw [GasFront.setHead_get_self] at htest
    obtain hsame | ⟨hactive, -, hrests⟩ := htest
    · exact .inl hsame
    · exact .inr ⟨hactive, hrests⟩
  · exact .inl (GasFront.setHead_get_self ..)

theorem State.dueFront_ne (s : State) {h k : Fin 4} (hk : k ≠ h) :
    (s.dueFront h).heads.get k = s.gas.heads.get k := by
  unfold State.dueFront
  split
  · rw [GasFront.restTest_get_ne _ _ _ _ hk, GasFront.setHead_get_ne _ hk]
  · exact GasFront.setHead_get_ne _ hk

theorem Head.takesChecks_iff (x : Head) : x.takesChecks = true ↔ x.state = .active ∨ x.state = .zeroing := by
  unfold Head.takesChecks
  cases x.state <;> simp

/-- Settles O15: the expiry moves the head's timer and backlog, and a rest test its state. -/
theorem zeroIntervalRaisesTheBacklog : Obligations.ZeroIntervalRaisesTheBacklog := by
  intro h s hrest htimer
  have hrun : exec (.zeroIntervalTimerExpiry h) s =
      done { s with gas := (s.dueFront h).arbitrate s.settings } := congrArg done (if_pos htimer)
  have hbacklog : ((s.gas.heads.get h).checkDue s.settings).backlog =
      if (s.gas.heads.get h).state = .active ∨ (s.gas.heads.get h).state = .zeroing
        then min 3 ((s.gas.heads.get h).backlog + 1) else (s.gas.heads.get h).backlog := by
    simp only [Head.checkDue, Head.takesChecks_iff]
  refine ⟨_, hrun.trans (done_gas hrest _), rfl, ?_⟩
  dsimp only
  rw [GasFront.arbitrate_heads]
  obtain hself | ⟨hactive, hself⟩ := s.dueFront_self h <;> rw [hself]
  · exact ⟨rfl, hbacklog, rfl, rfl, .inl rfl, fun k hk => s.dueFront_ne hk⟩
  · exact ⟨rfl, hbacklog, rfl, rfl, .inr ⟨hactive, rfl, rfl⟩, fun k hk => s.dueFront_ne hk⟩

end Sys2Proof.Machine
end

section
/-! The end of a step with no request waiting, and the zone state controller as it is told of its causes. -/

namespace Sys2Proof.Machine

/-! ## The end of a step with no request waiting -/

/-- With no request waiting a step ends with the zone state controller told of NO_VENT, and a frame started. -/
theorem State.settle_of_noRequests {s : State} (h : s.comms.service.queue = []) :
    s.settle = s.ventSettle.linkSettle := by
  unfold State.settle
  rw [State.pumpService_of_empty (s.ventSettle_requests.trans h)]

@[simp] theorem Fume.onFlags_get (h : RangeFlag → RangeFlag) (f : Fume) (g : Gas) :
    (f.onFlags h).gases.get g =
      { f.gases.get g with overRange := h (f.gases.get g).overRange, underRange := h (f.gases.get g).underRange } := by
  cases g <;> rfl

/-- What the fume unit holds beside its range flags. -/
def Fume.unflagged (f : Fume) : Fume := f.onFlags fun _ => ⟨false, false⟩

theorem Fume.unflagged_onFlags (f : Fume) (h : RangeFlag → RangeFlag) : (f.onFlags h).unflagged = f.unflagged := rfl

/-- The start of a frame moves no more of the fume unit than its range flags. -/
theorem State.linkSettle_unflagged (s : State) : s.linkSettle.fume.unflagged = s.fume.unflagged := by
  obtain h | h := s.linkSettle_cases <;> rw [h]
  unfold State.startFirst State.launch
  split
  · split
    · rfl
    · dsimp only
      split
      · exact Fume.unflagged_onFlags ..
      · rfl
  · rfl

/-- What the end of a step leaves where no request waits. -/
theorem State.settle_noRequests_frame {s : State} (h : s.comms.service.queue = []) :
    s.settle.fume.unflagged = s.fume.unflagged ∧ s.settle.zone = s.ventSettle.zone ∧
    s.settle.scanner.lanes = s.scanner.lanes ∧ s.settle.store = s.store := by
  rw [State.settle_of_noRequests h, State.linkSettle_unflagged]
  simp

section
variable {f g : Fume} (h : f.unflagged = g.unflagged)
include h

theorem Fume.fs_of_unflagged : f.fs = g.fs :=
  (congrArg Fume.fs h : f.unflagged.fs = g.unflagged.fs)

theorem Fume.timers_of_unflagged : f.update = g.update ∧ f.minute = g.minute ∧ f.roll = g.roll :=
  ⟨(congrArg Fume.update h : f.unflagged.update = g.unflagged.update),
    (congrArg Fume.minute h : f.unflagged.minute = g.unflagged.minute),
    (congrArg Fume.roll h : f.unflagged.roll = g.unflagged.roll)⟩

theorem Fume.movement_of_unflagged : f.movement = g.movement ∧ f.terms = g.terms :=
  ⟨(congrArg Fume.movement h : f.unflagged.movement = g.unflagged.movement),
    (congrArg Fume.terms h : f.unflagged.terms = g.unflagged.terms)⟩

/-- What a gas holds beside its range flags. -/
theorem Fume.gas_of_unflagged (k : Gas) :
    f.gases.get k = { g.gases.get k with
      overRange := (f.gases.get k).overRange, underRange := (f.gases.get k).underRange } := by
  have hk := congrArg (fun x : Fume => x.gases.get k) h
  simp only [Fume.unflagged, Fume.onFlags_get] at hk
  generalize f.gases.get k = x at hk ⊢
  generalize g.gases.get k = y at hk ⊢
  cases x
  cases y
  simpa using hk

theorem Fume.gasScore_of_unflagged (fitted : Bool) (k : Gas) :
    gasScore fitted (f.gases.get k) = gasScore fitted (g.gases.get k) := by
  rw [Fume.gas_of_unflagged h k]
  rfl

end

/-! ## The zone state controller (R155 to R159) -/

/-- The controller after an evaluation (R158). -/
def ZoneCtl.evaluated (cfg : Settings) (z : ZoneCtl) : ZoneCtl :=
  if z.evaluation cfg = z.state then z else z.enter cfg (z.evaluation cfg)

theorem State.evaluate_zone (s : State) : s.evaluate.zone = s.zone.evaluated s.settings := by
  unfold State.evaluate ZoneCtl.evaluated
  split
  · rfl
  · exact s.setZone_zone _

theorem ZoneCtl.evaluated_state (cfg : Settings) (z : ZoneCtl) : (z.evaluated cfg).state = z.evaluation cfg := by
  unfold ZoneCtl.evaluated
  split
  next h => exact h.symm
  next => rfl

/-- What an evaluation leaves of the controller. -/
@[simp] theorem ZoneCtl.evaluated_inputs (cfg : Settings) (z : ZoneCtl) :
    (z.evaluated cfg).fsLast = z.fsLast ∧ (z.evaluated cfg).purgeIn = z.purgeIn ∧
    (z.evaluated cfg).scoreCause = z.scoreCause ∧ (z.evaluated cfg).gasCause = z.gasCause ∧
    (z.evaluated cfg).ventCause = z.ventCause := by
  unfold ZoneCtl.evaluated
  split <;> exact ⟨rfl, rfl, rfl, rfl, rfl⟩

/-- The causes that other blocks give. -/
def ZoneCtl.withCauses (gas : PerGas Bool) (vent : Bool) (z : ZoneCtl) : ZoneCtl :=
  { z with gasCause := gas, ventCause := vent }

/-- The controller has been told of causes, one after another, and has evaluated each time (R157, R158). -/
def ZoneCtl.Told (cfg : Settings) : ZoneCtl → ZoneCtl → Prop :=
  Relation.ReflTransGen fun z w => ∃ gas vent, w = (z.withCauses gas vent).evaluated cfg

theorem ZoneCtl.Told.refl {cfg : Settings} {z : ZoneCtl} : ZoneCtl.Told cfg z z := Relation.ReflTransGen.refl

theorem ZoneCtl.Told.trans {cfg : Settings} {z w x : ZoneCtl} (h : ZoneCtl.Told cfg z w) (k : ZoneCtl.Told cfg w x) :
    ZoneCtl.Told cfg z x := Relation.ReflTransGen.trans h k

theorem ZoneCtl.told {cfg : Settings} (z : ZoneCtl) (gas : PerGas Bool) (vent : Bool) :
    ZoneCtl.Told cfg z ((z.withCauses gas vent).evaluated cfg) :=
  Relation.ReflTransGen.single ⟨gas, vent, rfl⟩

/-- What a cause told keeps, every chain of causes told keeps. -/
theorem ZoneCtl.Told.keeps {cfg : Settings} {P : ZoneCtl → Prop}
    (hP : ∀ z gas vent, P z → P ((z.withCauses gas vent).evaluated cfg)) {z w : ZoneCtl} (h : ZoneCtl.Told cfg z w)
    (hz : P z) : P w := by
  induction h with
  | refl => exact hz
  | tail _ hlast ih =>
    obtain ⟨gas, vent, rfl⟩ := hlast
    exact hP _ gas vent ih

theorem State.zoneTakesGas_told (s : State) (g : Gas) : ZoneCtl.Told s.settings s.zone (s.zoneTakesGas g).zone := by
  unfold State.zoneTakesGas
  rw [State.evaluate_zone]
  exact s.zone.told _ s.zone.ventCause

theorem State.ventSettle_told (s : State) : ZoneCtl.Told s.settings s.zone s.ventSettle.zone := by
  unfold State.ventSettle
  split
  · rw [State.evaluate_zone]
    exact s.zone.told s.zone.gasCause _
  · exact .refl

section
variable {cfg : Settings} {z w : ZoneCtl}

theorem ZoneCtl.Told.inputs (h : ZoneCtl.Told cfg z w) :
    w.fsLast = z.fsLast ∧ w.purgeIn = z.purgeIn ∧ w.scoreCause = z.scoreCause :=
  h.keeps (P := fun w => w.fsLast = z.fsLast ∧ w.purgeIn = z.purgeIn ∧ w.scoreCause = z.scoreCause)
    (fun z gas vent hz => by simpa [ZoneCtl.withCauses] using hz) ⟨rfl, rfl, rfl⟩

theorem ZoneCtl.evaluation_of_alarm (hp : z.purgeIn = false) (hs : z.state = .alarm) : z.evaluation cfg = .alarm := by
  simp [ZoneCtl.evaluation, hp, hs]

theorem ZoneCtl.evaluation_of_calm (hp : z.purgeIn = false) (hs : z.state.grave = false) :
    z.evaluation cfg = if cfg.alarmOn ≤ z.fsLast then .alarm else z.byCauses := by
  unfold ZoneCtl.evaluation
  cases hst : z.state <;> simp_all [ZoneState.grave]

theorem ZoneCtl.byCauses_calm (z : ZoneCtl) : z.byCauses.grave = false := by
  unfold ZoneCtl.byCauses
  split <;> rfl

/-- ALARM is not left for a cause (R158). -/
theorem ZoneCtl.Told.alarm (h : ZoneCtl.Told cfg z w) (hp : z.purgeIn = false) (hs : z.state = .alarm) :
    w.purgeIn = false ∧ w.state = .alarm ∧ w.hold = z.hold ∧ w.counters = z.counters :=
  h.keeps (P := fun w => w.purgeIn = false ∧ w.state = .alarm ∧ w.hold = z.hold ∧ w.counters = z.counters)
    (fun x gas vent ⟨hp, hs, hrest⟩ => by
      have hsame : (x.withCauses gas vent).evaluated cfg = x.withCauses gas vent :=
        if_pos ((ZoneCtl.evaluation_of_alarm (z := x.withCauses gas vent) hp hs).trans hs.symm)
      rw [hsame]
      exact ⟨hp, hs, hrest⟩)
    ⟨hp, hs, rfl, rfl⟩

/-- The zone is calm with its entries to ALARM as `z` has them, or it has entered ALARM once, its hold running. -/
def ZoneCtl.AlarmedOnce (cfg : Settings) (n : Nat) (w : ZoneCtl) : Prop :=
  w.purgeIn = false ∧ (w.state.grave = false ∧ w.counters.alarmEntries = n ∨
    w.state = .alarm ∧ w.hold = cfg.holdTimer ∧ w.counters.alarmEntries = bump n)

theorem ZoneCtl.AlarmedOnce.evaluated {n : Nat} (h : z.AlarmedOnce cfg n) : (z.evaluated cfg).AlarmedOnce cfg n := by
  obtain ⟨hp, ⟨hcalm, hn⟩ | ⟨hs, hhold, hn⟩⟩ := h
  · refine ⟨by simpa using hp, ?_⟩
    have hform := ZoneCtl.evaluation_of_calm (cfg := cfg) hp hcalm
    unfold ZoneCtl.evaluated
    split
    next => exact .inl ⟨hcalm, hn⟩
    next =>
      rw [hform]
      split
      · right; simp [ZoneCtl.enter, ZoneCounters.enter, hn]
      · left
        refine ⟨z.byCauses_calm, ?_⟩
        unfold ZoneCtl.byCauses
        split <;> exact hn
  · have hsame : z.evaluated cfg = z := if_pos ((ZoneCtl.evaluation_of_alarm hp hs).trans hs.symm)
    rw [hsame]
    exact ⟨hp, .inr ⟨hs, hhold, hn⟩⟩

theorem ZoneCtl.AlarmedOnce.told {n : Nat} (h : z.AlarmedOnce cfg n) (ht : ZoneCtl.Told cfg z w) :
    w.AlarmedOnce cfg n :=
  ht.keeps (P := fun w => w.AlarmedOnce cfg n)
    (fun x gas vent hx => ZoneCtl.AlarmedOnce.evaluated (z := x.withCauses gas vent) hx) h

/-- A calm zone below A_on: the causes alone give its state (R158). -/
def ZoneCtl.calmBelow (cfg : Settings) (z : ZoneCtl) : Prop :=
  z.purgeIn = false ∧ z.state.grave = false ∧ z.fsLast < cfg.alarmOn

theorem ZoneCtl.calmBelow.evaluated (h : z.calmBelow cfg) :
    (z.evaluated cfg).calmBelow cfg ∧ (z.evaluated cfg).state = (z.evaluated cfg).byCauses := by
  obtain ⟨hp, hcalm, hlow⟩ := h
  have hstate : (z.evaluated cfg).state = z.byCauses := by
    rw [ZoneCtl.evaluated_state, ZoneCtl.evaluation_of_calm hp hcalm, if_neg (Nat.not_le.mpr hlow)]
  have hcauses : (z.evaluated cfg).byCauses = z.byCauses := by
    simp [ZoneCtl.byCauses, ZoneCtl.causeHolds]
  exact ⟨⟨by simpa using hp, by rw [hstate]; exact z.byCauses_calm, by simpa using hlow⟩, hstate.trans hcauses.symm⟩

theorem ZoneCtl.calmBelow.told (h : z.calmBelow cfg) (ht : ZoneCtl.Told cfg z w) : w.calmBelow cfg :=
  ht.keeps (P := fun w => w.calmBelow cfg)
    (fun x gas vent hx => (ZoneCtl.calmBelow.evaluated (z := x.withCauses gas vent) hx).1) h

theorem ZoneCtl.calmBelow.byCauses_told (h : z.calmBelow cfg) (hz : z.state = z.byCauses)
    (ht : ZoneCtl.Told cfg z w) : w.state = w.byCauses :=
  (ht.keeps (P := fun w => w.calmBelow cfg ∧ w.state = w.byCauses)
    (fun x gas vent hx => ZoneCtl.calmBelow.evaluated (z := x.withCauses gas vent) hx.1) ⟨h, hz⟩).2

end

/-! ## FS presented (R28, R156, R159) -/

theorem State.reformFs_zone (s : State) :
    s.reformFs.zone = (s.zone.takeFs s.settings (s.fume.nextFs s.settings)).evaluated s.settings := by
  have htold (f : Fume) : ({ s with fume := f } : State).zoneTakesFs.zone =
      (s.zone.takeFs s.settings f.fs).evaluated s.settings := State.evaluate_zone _
  unfold State.reformFs
  dsimp only
  split <;> simp [htold]

theorem State.reformFs_requests (s : State) : s.reformFs.comms.service.queue = s.comms.service.queue := by
  have htold (f : Fume) : ({ s with fume := f } : State).zoneTakesFs.comms.service.queue = s.comms.service.queue :=
    State.evaluate_requests _
  unfold State.reformFs State.reformEs
  dsimp only
  split <;> simp [State.reworkDemand, htold]

end Sys2Proof.Machine
end

section
/-! The timers of the fume unit: O18 and O19. -/

namespace Sys2Proof.Machine

/-- FS as formed from what a gas holds beside its range flags (R28). -/
theorem Fume.nextFs_eq (cfg : Settings) (f : Fume) :
    f.nextFs cfg = (maxOption (gasScore (cfg.fitted .co) (f.gases.get .co))
      (gasScore (cfg.fitted .no2) (f.gases.get .no2))).getD f.fs := rfl

/-- What the fume unit keeps where the gases alone are updated. -/
def Fume.SameFrame (f g : Fume) : Prop :=
  f.fs = g.fs ∧ f.update = g.update ∧ f.minute = g.minute ∧ f.roll = g.roll ∧ f.movement = g.movement ∧ f.terms = g.terms

/-- What a step that forms FS at its end and finds no request waiting leaves of the fume unit. -/
theorem State.settle_formed {s u : State} (hs : s.comms.service.queue = []) (hu : s = u.reformFs) :
    (∀ g, ∃ o n, s.settle.fume.gases.get g =
      { u.fume.gases.get g with overRange := o, underRange := n }) ∧
    s.settle.fume.fs = (maxOption (gasScore (u.settings.fitted .co) s.settle.fume.gases.co)
      (gasScore (u.settings.fitted .no2) s.settle.fume.gases.no2)).getD u.fume.fs ∧
    s.settle.fume.fs = u.fume.nextFs u.settings ∧
    s.settle.fume.update = u.fume.update ∧ s.settle.fume.minute = u.fume.minute ∧ s.settle.fume.roll = u.fume.roll ∧
    s.settle.fume.movement = u.fume.movement ∧ s.settle.fume.terms = u.fume.terms := by
  obtain ⟨hflags, -⟩ := State.settle_noRequests_frame hs
  have hfume : s.fume = ({ u.fume with fs := u.fume.nextFs u.settings } : Fume).formed u.settings := by
    rw [hu, State.reformFs_fume]
  have hfs : s.settle.fume.fs = u.fume.nextFs u.settings := (Fume.fs_of_unflagged hflags).trans (by rw [hfume]; rfl)
  obtain ⟨hupdate, hminute, hroll⟩ := Fume.timers_of_unflagged hflags
  obtain ⟨hmovement, hterms⟩ := Fume.movement_of_unflagged hflags
  have hscore (g : Gas) : gasScore (u.settings.fitted g) (s.settle.fume.gases.get g) =
      gasScore (u.settings.fitted g) (u.fume.gases.get g) :=
    (Fume.gasScore_of_unflagged hflags _ g).trans (by rw [hfume]; rfl)
  refine ⟨fun g => ⟨_, _, (Fume.gas_of_unflagged hflags g).trans (by rw [hfume]; rfl)⟩, ?_, hfs,
    hupdate.trans (by rw [hfume]; rfl), hminute.trans (by rw [hfume]; rfl), hroll.trans (by rw [hfume]; rfl),
    hmovement.trans (by rw [hfume]; rfl), hterms.trans (by rw [hfume]; rfl)⟩
  exact hfs.trans (by rw [Fume.nextFs_eq, ← hscore .co, ← hscore .no2]; rfl)

/-! ## The minute boundary (R25, R26) -/

/-- What a gas holds once its minute is closed. -/
def State.closedGas (s : State) (g : Gas) : GasFume :=
  if s.settings.fitted g then (s.fume.gases.get g).closeMinute s.settings (s.settings.exposureLimit.get g)
  else s.fume.gases.get g

theorem State.closeGas_get (s : State) (g k : Gas) :
    (s.closeGas g).fume.gases.get k = if k = g then s.closedGas g else s.fume.gases.get k := by
  unfold State.closeGas State.closedGas
  split
  next hfitted =>
    split
    next hk => subst hk; exact PerGas.get_set_self ..
    next hk => exact PerGas.get_set_ne _ _ hk
  next => split <;> simp_all

theorem State.closeGas_same (s : State) (g : Gas) : (s.closeGas g).fume.SameFrame s.fume := by
  unfold State.closeGas
  split <;> exact ⟨rfl, rfl, rfl, rfl, rfl, rfl⟩

theorem State.closeGases_same (s : State) : ((s.closeGas .co).closeGas .no2).fume.SameFrame s.fume := by
  obtain ⟨h1, h2, h3, h4, h5, h6⟩ := s.closeGas_same .co
  obtain ⟨k1, k2, k3, k4, k5, k6⟩ := (s.closeGas .co).closeGas_same .no2
  exact ⟨k1.trans h1, k2.trans h2, k3.trans h3, k4.trans h4, k5.trans h5, k6.trans h6⟩

theorem State.closeGases_get (s : State) (g : Gas) :
    ((s.closeGas .co).closeGas .no2).fume.gases.get g = s.closedGas g := by
  have hno2 : (s.closeGas .co).closedGas .no2 = s.closedGas .no2 := by
    simp [State.closedGas, State.closeGas_get]
  rw [State.closeGas_get]
  cases g
  · simp [State.closeGas_get]
  · simpa using hno2

theorem exposureOf_eq (t : Tbl 15 (Option Nat)) :
    exposureOf t = if 10 ≤ (t.cells.filterMap id).length
      then some ((t.cells.filterMap id).sum / (t.cells.filterMap id).length) else none := by
  unfold exposureOf
  rw [List.sum_eq_foldl]

theorem pushBin_get (bin : Option Nat) (t : Tbl 15 (Option Nat)) :
    (∀ i : Fin 14, (pushBin bin t).get i.castSucc = t.get i.succ) ∧ (pushBin bin t).get 14 = bin := by
  refine ⟨fun i => ?_, (Tbl.get_ofFn _ _).trans (if_pos rfl)⟩
  have hnext : i.castSucc ≠ 14 ∧ i.castSucc + 1 = i.succ := by revert i; decide
  exact (Tbl.get_ofFn _ _).trans ((if_neg hnext.1).trans (by rw [hnext.2]))

/-- What the closing of a minute leaves of a gas (R25 to R27). -/
theorem GasFume.closeMinute_spec (cfg : Settings) (limit : Nat) (y : GasFume) :
    (∀ i : Fin 14, (y.closeMinute cfg limit).ring.get i.castSucc = y.ring.get i.succ) ∧
    (y.closeMinute cfg limit).ring.get 14 =
      (if 600 / cfg.tsTenths ≤ 2 * y.count then some (y.sum / y.count) else none) ∧
    (y.closeMinute cfg limit).exposure =
      (if 10 ≤ ((y.closeMinute cfg limit).ring.cells.filterMap id).length
        then some (((y.closeMinute cfg limit).ring.cells.filterMap id).sum /
          ((y.closeMinute cfg limit).ring.cells.filterMap id).length)
        else none) ∧
    (∀ e, (y.closeMinute cfg limit).exposure = some e →
      (y.closeMinute cfg limit).exposureScore = min 1023 (e * 256 / limit)) ∧
    (y.closeMinute cfg limit).sum = 0 ∧ (y.closeMinute cfg limit).count = 0 := by
  obtain ⟨holder, hnewest⟩ := pushBin_get (closingBin cfg y) y.ring
  refine ⟨holder, hnewest, exposureOf_eq _, fun e he => ?_, rfl, rfl⟩
  have hscore : (y.closeMinute cfg limit).exposureScore =
      match (y.closeMinute cfg limit).exposure with
      | some e => scoreOf e limit
      | none => 0 := rfl
  rw [hscore, he]
  rfl

theorem State.closedGas_kept (s : State) (g : Gas) :
    (s.closedGas g).acc = (s.fume.gases.get g).acc ∧ (s.closedGas g).valid = (s.fume.gases.get g).valid ∧
    (s.closedGas g).skips = (s.fume.gases.get g).skips ∧
    (s.closedGas g).shortScore = (s.fume.gases.get g).shortScore := by
  unfold State.closedGas
  split <;> exact ⟨rfl, rfl, rfl, rfl⟩

/-- Settles O19: both minutes are closed, and what follows moves no gas but in its range flags. -/
theorem minuteBoundaryClosesABinOfEveryFittedGas : Obligations.MinuteBoundaryClosesABinOfEveryFittedGas := by
  intro s hqueue hrun
  have hdone : exec .minuteBoundary s =
      done { s with fume := { s.fume with minute := .running 60000 } }.closeMinute := congrArg done (if_pos hrun)
  generalize hstart : ({ s with fume := { s.fume with minute := .running 60000 } } : State) = u at hdone
  have hgas (g : Gas) : u.closedGas g = s.closedGas g := by rw [← hstart]; rfl
  obtain ⟨cfs, cupdate, cminute, croll, cmovement, cterms⟩ := u.closeGases_same
  have hq : u.closeMinute.comms.service.queue = [] := by
    unfold State.closeMinute
    rw [State.reformFs_requests, ← hstart]
    simpa using hqueue
  obtain ⟨hgases, hfs, -, hupdate, hminute, hroll, hmovement, hterms⟩ := State.settle_formed hq rfl
  obtain ⟨-, -, hlanes, hstore⟩ := State.settle_noRequests_frame hq
  have hset : ((u.closeGas .co).closeGas .no2).settings = s.settings := by
    rw [(State.closeGas_frame _ _).2.1, (State.closeGas_frame _ _).2.1, ← hstart]
  have hget (g : Gas) : ∃ o n, u.closeMinute.settle.fume.gases.get g =
      { s.closedGas g with overRange := o, underRange := n } := by
    obtain ⟨o, n, h⟩ := hgases g
    exact ⟨o, n, by rw [h, State.closeGases_get, hgas]⟩
  refine ⟨_, hdone, ?_⟩
  dsimp only
  refine ⟨hminute.trans (cminute.trans (by rw [← hstart])), fun g hfitted => ?_, fun g hfitted => ?_,
    fun g => ?_, ?_, hupdate.trans (cupdate.trans (by rw [← hstart])), hroll.trans (croll.trans (by rw [← hstart])),
    hmovement.trans (cmovement.trans (by rw [← hstart])), hterms.trans (cterms.trans (by rw [← hstart])), ?_⟩
  · obtain ⟨o, n, h⟩ := hget g
    have hclosed : s.closedGas g =
        (s.fume.gases.get g).closeMinute s.settings (s.settings.exposureLimit.get g) := if_pos hfitted
    rw [h, hclosed]
    exact GasFume.closeMinute_spec ..
  · obtain ⟨o, n, h⟩ := hget g
    have hclosed : s.closedGas g = s.fume.gases.get g := if_neg (by simp [hfitted])
    rw [h, hclosed]
    exact ⟨rfl, rfl⟩
  · obtain ⟨o, n, h⟩ := hget g
    rw [h]
    exact s.closedGas_kept g
  · have hkept : u.fume.fs = s.fume.fs := by rw [← hstart]
    rw [hset, cfs, hkept] at hfs
    exact hfs
  · have hkept : u.mode = s.mode ∧ u.settings = s.settings ∧ u.now = s.now ∧ u.peers = s.peers ∧
        u.scanner.lanes = s.scanner.lanes ∧ u.store = s.store ∧ u.pending = s.pending := by
      rw [← hstart]
      exact ⟨rfl, rfl, rfl, rfl, rfl, rfl, rfl⟩
    simpa [hlanes, hstore] using hkept

/-! ## The gas update (R20 to R24) -/

/-- What a gas holds once it is updated. -/
def State.updatedGas (s : State) (g : Gas) : GasFume :=
  if s.settings.fitted g then
    match s.combined g with
    | some x => (s.fume.gases.get g).goodUpdate (s.settings.shortLimit.get g) x
    | none => (s.fume.gases.get g).skippedUpdate
  else s.fume.gases.get g

theorem State.updateGas_get (s : State) (g k : Gas) :
    (s.updateGas g).fume.gases.get k = if k = g then s.updatedGas g else s.fume.gases.get k := by
  have hset (f : GasFume) : (s.fume.gases.set g f).get k = if k = g then f else s.fume.gases.get k := by
    split
    next hk => subst hk; exact PerGas.get_set_self ..
    next hk => exact PerGas.get_set_ne _ _ hk
  unfold State.updateGas State.updatedGas
  split
  · cases s.combined g <;> exact hset _
  · split <;> simp_all

theorem State.updateGas_same (s : State) (g : Gas) : (s.updateGas g).fume.SameFrame s.fume := by
  unfold State.updateGas
  split
  · dsimp only
    split <;> exact ⟨rfl, rfl, rfl, rfl, rfl, rfl⟩
  · exact ⟨rfl, rfl, rfl, rfl, rfl, rfl⟩

theorem State.updateGas_combined (s : State) (g k : Gas) : (s.updateGas g).combined k = s.combined k := by
  unfold State.combined
  simp

theorem State.updateGases_get (s : State) (g : Gas) :
    ((s.updateGas .co).updateGas .no2).fume.gases.get g = s.updatedGas g := by
  have hno2 : (s.updateGas .co).updatedGas .no2 = s.updatedGas .no2 := by
    simp [State.updatedGas, State.updateGas_get, State.updateGas_combined]
  rw [State.updateGas_get]
  cases g
  · simp [State.updateGas_get]
  · simpa using hno2

theorem State.updateGases_same (s : State) : ((s.updateGas .co).updateGas .no2).fume.SameFrame s.fume := by
  obtain ⟨h1, h2, h3, h4, h5, h6⟩ := s.updateGas_same .co
  obtain ⟨k1, k2, k3, k4, k5, k6⟩ := (s.updateGas .co).updateGas_same .no2
  exact ⟨k1.trans h1, k2.trans h2, k3.trans h3, k4.trans h4, k5.trans h5, k6.trans h6⟩

theorem State.presentValidity_requests (s : State) (g : Gas) (was : Bool) :
    (s.presentValidity g was).comms.service.queue = s.comms.service.queue := by
  unfold State.presentValidity State.zoneTakesGas
  split
  · rfl
  · rw [State.evaluate_requests]
    simp [State.reworkDemand]

theorem State.presentValidity_told (s : State) (g : Gas) (was : Bool) :
    ZoneCtl.Told s.settings s.zone (s.presentValidity g was).zone := by
  unfold State.presentValidity
  split
  · exact .refl
  · have h := s.reworkDemand.zoneTakesGas_told g
    simpa using h

/-- The two usable values of a gas, as the fold over its heads takes them (R21). -/
theorem State.combined_eq_foldl (s : State) (g : Gas) :
    s.combined g = ((List.finRange 4).filter fun h => decide (gasOf h = g) &&
        decide ((s.gas.heads.get h).state = .active) && (s.gas.heads.get h).isYoung s.settings).foldl
          (fun m h => maxOption m ((s.gas.heads.get h).latest.map (·.value))) none := by
  have hvalue (m : Option Nat) (h : Fin 4) : maxOption m (usableValue s.settings (s.gas.heads.get h)) =
      if (decide ((s.gas.heads.get h).state = .active) && (s.gas.heads.get h).isYoung s.settings) = true
      then maxOption m ((s.gas.heads.get h).latest.map (·.value)) else m := by
    unfold usableValue
    simp only [Bool.and_eq_true, decide_eq_true_eq]
    split
    · rfl
    · cases m <;> rfl
  have hpair (a b : Fin 4) : maxOption (usableValue s.settings (s.gas.heads.get a))
      (usableValue s.settings (s.gas.heads.get b)) =
      maxOption (maxOption none (usableValue s.settings (s.gas.heads.get a)))
        (usableValue s.settings (s.gas.heads.get b)) := rfl
  rw [List.foldl_filter]
  cases g
  · refine (hpair 0 1).trans ?_
    rw [hvalue, hvalue]
    simp [List.finRange_succ, gasOf]
  · refine (hpair 2 3).trans ?_
    rw [hvalue, hvalue]
    simp [List.finRange_succ, gasOf]

/-! ## FS presented between causes told (R156 to R159) -/

section
variable {cfg : Settings} {z w x y : ZoneCtl} {fs : Nat}

/-- The controller told of causes, then of FS, then of causes again. -/
def ZoneCtl.ToldFs (cfg : Settings) (fs : Nat) (z y : ZoneCtl) : Prop :=
  ∃ w, ZoneCtl.Told cfg z w ∧ ZoneCtl.Told cfg ((w.takeFs cfg fs).evaluated cfg) y

theorem ZoneCtl.ToldFs.inputs (h : ZoneCtl.ToldFs cfg fs z y) :
    y.fsLast = fs ∧ y.purgeIn = z.purgeIn ∧ y.scoreCause = scoreCauseOf cfg fs z.scoreCause := by
  obtain ⟨w, hw, hy⟩ := h
  obtain ⟨-, wpurge, wcause⟩ := hw.inputs
  obtain ⟨yfs, ypurge, ycause⟩ := hy.inputs
  simp only [ZoneCtl.evaluated_inputs] at yfs ypurge ycause
  exact ⟨yfs, ypurge.trans wpurge, ycause.trans (congrArg (scoreCauseOf cfg fs) wcause)⟩

theorem ZoneCtl.AlarmedOnce.takeFs {n : Nat} (h : w.AlarmedOnce cfg n) : (w.takeFs cfg fs).AlarmedOnce cfg n := by
  obtain ⟨hp, hcalm | ⟨hs, hhold, hn⟩⟩ := h
  · exact ⟨hp, .inl hcalm⟩
  · refine ⟨hp, .inr ⟨hs, ?_, hn⟩⟩
    unfold ZoneCtl.takeFs
    dsimp only
    split
    · rfl
    · exact hhold

/-- FS at A_on or more takes a calm zone to ALARM, entered once with its hold started (R158, R159). -/
theorem ZoneCtl.ToldFs.alarms (h : ZoneCtl.ToldFs cfg fs z y) (hcalm : z.state.grave = false)
    (hp : z.purgeIn = false) (hfs : cfg.alarmOn ≤ fs) :
    y.state = .alarm ∧ y.hold = cfg.holdTimer ∧ y.counters.alarmEntries = bump z.counters.alarmEntries := by
  obtain ⟨w, hw, hy⟩ := h
  have hstart : z.AlarmedOnce cfg z.counters.alarmEntries := ⟨hp, .inl ⟨hcalm, rfl⟩⟩
  have hfed := (hstart.told hw).takeFs (fs := fs)
  have halarm : ((w.takeFs cfg fs).evaluated cfg).state = .alarm := by
    rw [ZoneCtl.evaluated_state]
    obtain ⟨hpurge, ⟨hcalm, -⟩ | ⟨hs, -⟩⟩ := hfed
    · rw [ZoneCtl.evaluation_of_calm hpurge hcalm]
      exact if_pos hfs
    · exact ZoneCtl.evaluation_of_alarm hpurge hs
  obtain ⟨hpurge, ⟨hgrave, -⟩ | ⟨-, hhold, hcount⟩⟩ := hfed.evaluated
  · rw [halarm] at hgrave
    cases hgrave
  · obtain ⟨-, hs, hkept, hcounters⟩ := hy.alarm hpurge halarm
    exact ⟨hs, hkept.trans hhold, (congrArg ZoneCounters.alarmEntries hcounters).trans hcount⟩

/-- Below A_on a calm zone is in DIVERT exactly while a cause holds (R158). -/
theorem ZoneCtl.ToldFs.byCauses (h : ZoneCtl.ToldFs cfg fs z y) (hcalm : z.calmBelow cfg) (hfs : fs < cfg.alarmOn) :
    y.state = y.byCauses := by
  obtain ⟨w, hw, hy⟩ := h
  obtain ⟨wpurge, wcalm, -⟩ := hcalm.told hw
  have hfed : (w.takeFs cfg fs).calmBelow cfg := ⟨wpurge, wcalm, hfs⟩
  exact hfed.evaluated.1.byCauses_told hfed.evaluated.2 hy

/-- ALARM stays, its hold started afresh where FS is A_off or more (R159). -/
theorem ZoneCtl.ToldFs.alarm (h : ZoneCtl.ToldFs cfg fs z y) (hs : z.state = .alarm) (hp : z.purgeIn = false) :
    y.state = .alarm ∧ y.hold = if cfg.alarmOff ≤ fs then cfg.holdTimer else z.hold := by
  obtain ⟨w, hw, hy⟩ := h
  obtain ⟨wpurge, ws, whold, -⟩ := hw.alarm hp hs
  have hsame : (w.takeFs cfg fs).evaluated cfg = w.takeFs cfg fs :=
    if_pos ((ZoneCtl.evaluation_of_alarm (z := w.takeFs cfg fs) wpurge ws).trans ws.symm)
  rw [hsame] at hy
  obtain ⟨-, ys, yhold, -⟩ := hy.alarm (z := w.takeFs cfg fs) wpurge ws
  refine ⟨ys, yhold.trans ?_⟩
  unfold ZoneCtl.takeFs
  simp [ws, whold]

end

theorem State.gasUpdate_requests (s : State) : s.gasUpdate.comms.service.queue = s.comms.service.queue := by
  unfold State.gasUpdate
  simp [State.reformFs_requests, State.presentValidity_requests]

/-- The station once both gases are updated and the changes of validity presented, before FS is formed. -/
def State.validityPresented (s : State) : State :=
  (((s.updateGas .co).updateGas .no2).presentValidity .co s.fume.gases.co.valid).presentValidity .no2
    s.fume.gases.no2.valid

theorem State.validityPresented_fume (s : State) :
    s.validityPresented.fume = ((s.updateGas .co).updateGas .no2).fume ∧
    s.validityPresented.settings = s.settings := by
  unfold State.validityPresented
  simp

theorem State.gasUpdate_toldFs {s : State} (h : s.comms.service.queue = []) :
    ZoneCtl.ToldFs s.settings (s.validityPresented.fume.nextFs s.settings) s.zone s.gasUpdate.settle.zone := by
  obtain ⟨-, hset⟩ := s.validityPresented_fume
  have hzone : s.gasUpdate.zone = (s.validityPresented.zone.takeFs s.settings
      (s.validityPresented.fume.nextFs s.settings)).evaluated s.settings := by
    rw [← hset]
    exact s.validityPresented.reformFs_zone
  obtain ⟨-, hsettle, -⟩ := State.settle_noRequests_frame (s.gasUpdate_requests.trans h)
  have hfirst : ZoneCtl.Told s.settings s.zone s.validityPresented.zone := by
    have hco := ((s.updateGas .co).updateGas .no2).presentValidity_told .co s.fume.gases.co.valid
    have hno2 := (((s.updateGas .co).updateGas .no2).presentValidity .co s.fume.gases.co.valid).presentValidity_told
      .no2 s.fume.gases.no2.valid
    simp only [State.updateGas_frame, State.presentValidity_frame] at hco hno2
    exact hco.trans hno2
  have hlast := s.gasUpdate.ventSettle_told
  rw [hzone, (State.gasUpdate_frame s).2.1, ← hsettle] at hlast
  exact ⟨_, hfirst, hlast⟩

/-- The gas update leaves of a gas its ring and its exposure. -/
theorem State.updatedGas_kept (s : State) (g : Gas) :
    (s.updatedGas g).ring = (s.fume.gases.get g).ring ∧ (s.updatedGas g).exposure = (s.fume.gases.get g).exposure ∧
    (s.updatedGas g).exposureScore = (s.fume.gases.get g).exposureScore := by
  unfold State.updatedGas
  split
  · split
    · exact ⟨rfl, rfl, rfl⟩
    · unfold GasFume.skippedUpdate
      split <;> exact ⟨rfl, rfl, rfl⟩
  · exact ⟨rfl, rfl, rfl⟩

/-- What a skipped update leaves of a gas (R22). -/
theorem GasFume.skippedUpdate_spec (y : GasFume) :
    y.skippedUpdate = { y with
      skips := if y.skips < 2 then y.skips + 1 else 3
      valid := y.valid && decide (y.skips < 2) } := by
  unfold GasFume.skippedUpdate
  split
  next h => simp [h]
  next h => simp [h]

/-- Settles O18: the gases are updated, and the zone state controller is told of FS among the causes. -/
theorem gasUpdateFiltersEveryFittedGas : Obligations.GasUpdateFiltersEveryFittedGas := by
  intro s hqueue hrun
  refine ⟨s.combined_eq_foldl, ?_⟩
  have hdone : exec .gasUpdateTimerExpiry s =
      done { s with fume := { s.fume with update := .running s.settings.tsMs } }.gasUpdate := congrArg done (if_pos hrun)
  generalize hstart : ({ s with fume := { s.fume with update := .running s.settings.tsMs } } : State) = u at hdone
  have hgas (g : Gas) : u.updatedGas g = s.updatedGas g := by rw [← hstart]; rfl
  have hkept : u.mode = s.mode ∧ u.settings = s.settings ∧ u.now = s.now ∧ u.peers = s.peers ∧
      u.scanner.lanes = s.scanner.lanes ∧ u.store = s.store ∧ u.pending = s.pending ∧ u.zone = s.zone ∧
      u.fume.fs = s.fume.fs ∧ u.comms = s.comms := by
    rw [← hstart]
    exact ⟨rfl, rfl, rfl, rfl, rfl, rfl, rfl, rfl, rfl, rfl⟩
  obtain ⟨hmode, hset, hnow, hpeers, ulanes, ustore, hpending, hzone, ufs, ucomms⟩ := hkept
  have hq : u.gasUpdate.comms.service.queue = [] := by rw [State.gasUpdate_requests, ucomms, hqueue]
  obtain ⟨hvfume, hvset⟩ := u.validityPresented_fume
  obtain ⟨cfs, cupdate, cminute, croll, cmovement, cterms⟩ := u.updateGases_same
  rw [← hvfume] at cfs cupdate cminute croll cmovement cterms
  obtain ⟨hgases, hfs, hform, hupdate, hminute, hroll, hmovement, hterms⟩ :=
    State.settle_formed (u := u.validityPresented) hq rfl
  obtain ⟨-, -, hlanes, hstore⟩ := State.settle_noRequests_frame hq
  have htold : ZoneCtl.ToldFs s.settings u.gasUpdate.settle.fume.fs s.zone u.gasUpdate.settle.zone := by
    rw [hform, hvset, ← hzone, ← hset]
    exact State.gasUpdate_toldFs (by rw [ucomms, hqueue])
  have hget (g : Gas) : ∃ o n, u.gasUpdate.settle.fume.gases.get g =
      { s.updatedGas g with overRange := o, underRange := n } := by
    obtain ⟨o, n, h⟩ := hgases g
    exact ⟨o, n, by rw [h, hvfume, State.updateGases_get, hgas]⟩
  have hframe : u.gasUpdate.settle.mode = s.mode ∧ u.gasUpdate.settle.settings = s.settings ∧
      u.gasUpdate.settle.now = s.now ∧ u.gasUpdate.settle.peers = s.peers ∧
      u.gasUpdate.settle.scanner.lanes = s.scanner.lanes ∧ u.gasUpdate.settle.store = s.store ∧
      u.gasUpdate.settle.pending = s.pending := by
    rw [hlanes, hstore]
    simp [hmode, hset, hnow, hpeers, ulanes, ustore, hpending]
  obtain ⟨zfs, zpurge, zcause⟩ := htold.inputs
  refine ⟨_, hdone, ?_⟩
  dsimp only
  generalize u.gasUpdate.settle = v at *
  refine ⟨hupdate.trans (cupdate.trans (by rw [← hstart])), fun g x hfitted hx => ?_, fun g hfitted hnone => ?_,
    fun g hfitted => ?_, fun g => ?_, ?_, zfs, zpurge, zcause, htold.alarms,
    fun hcalm hp hlow hfs => htold.byCauses ⟨hp, hcalm, hlow⟩ hfs, htold.alarm,
    hminute.trans (cminute.trans (by rw [← hstart])), hroll.trans (croll.trans (by rw [← hstart])),
    hmovement.trans (cmovement.trans (by rw [← hstart])), hterms.trans (cterms.trans (by rw [← hstart])), hframe⟩
  · obtain ⟨o, n, h⟩ := hget g
    have hgood : s.updatedGas g = (s.fume.gases.get g).goodUpdate (s.settings.shortLimit.get g) x := by
      simp [State.updatedGas, hfitted, hx]
    rw [h, hgood]
    exact ⟨rfl, rfl, rfl, rfl, rfl, rfl⟩
  · obtain ⟨o, n, h⟩ := hget g
    have hskipped : s.updatedGas g = (s.fume.gases.get g).skippedUpdate := by
      simp [State.updatedGas, hfitted, hnone]
    rw [h, hskipped, GasFume.skippedUpdate_spec]
    exact ⟨rfl, rfl, rfl, rfl, rfl, rfl⟩
  · obtain ⟨o, n, h⟩ := hget g
    have hsame : s.updatedGas g = s.fume.gases.get g := if_neg (by simp [hfitted])
    rw [h, hsame]
    exact ⟨rfl, rfl, rfl⟩
  · obtain ⟨o, n, h⟩ := hget g
    rw [h]
    exact s.updatedGas_kept g
  · rw [hvset, hset, cfs, ufs] at hfs
    exact hfs

end Sys2Proof.Machine
end

section
/-! What starts of fans leave, and the fan controller's quiet steps. -/

namespace Sys2Proof.Machine

/-! ## Starts (R42 to R46) -/

/-- A fan that a start has put into SPINUP (R47). -/
def Fan.spun (d : Nat) (f : Fan) : Fan :=
  { f with
    state := .spinup
    duty := d
    speed := some 0
    spinUp := .running Config.spinUpMs
    hold := .stopped
    check := .stopped }

/-- The counters that no start moves. -/
def FanCounters.settled (k : FanCounters) : FanCounters :=
  { k with fanStarts := 0, localStarts := 0, noticeDeferred := 0, noticeDropped := 0 }

/-- The counters of what neighbours and other stations have sent, which no frame of this station moves. -/
def PeerCounters.heard (k : PeerCounters) : PeerCounters :=
  { k with
    reportsQueued := 0, reportsFolded := 0, queueDisplaced := 0, queueRefused := 0, transitsSent := 0, transitsLost := 0 }

/-- What notices, reports and the starts they bring leave of the fan controller: a fan in WAIT_PERMIT may start. -/
structure Comms.Starts (c d : Comms) : Prop where
  fans : ∀ j, d.fanAt j = c.fanAt j ∨ (c.fanAt j).state = .waitPermit ∧ ∃ n, d.fanAt j = (c.fanAt j).spun n
  stage : d.fan.stage = c.fan.stage
  lead : d.fan.lead = c.fan.lead
  dwell : d.fan.dwell = c.fan.dwell
  rotation : d.fan.rotationLeft = c.fan.rotationLeft
  boost : d.fan.boost = c.fan.boost
  incoming : d.fan.incoming = c.fan.incoming
  noVent : d.fan.noVent = c.fan.noVent
  counters : d.fan.counters.settled = c.fan.counters.settled
  requests : d.service.queue = c.service.queue
  bus : d.link.busFreeCount = c.link.busFreeCount
  heard : d.link.peer.heard = c.link.peer.heard

namespace Comms.Starts

variable {b c d : Comms}

theorem refl : c.Starts c := ⟨fun _ => .inl rfl, rfl, rfl, rfl, rfl, rfl, rfl, rfl, rfl, rfl, rfl, rfl⟩

theorem trans (h : b.Starts c) (k : c.Starts d) : b.Starts d where
  fans j := by
    obtain hsame | ⟨hwait, n, hspun⟩ := h.fans j
    · rw [← hsame]
      exact k.fans j
    · obtain hkeep | ⟨hwait', -⟩ := k.fans j
      · exact .inr ⟨hwait, n, hkeep.trans hspun⟩
      · rw [hspun] at hwait'
        cases hwait'
  stage := k.stage.trans h.stage
  lead := k.lead.trans h.lead
  dwell := k.dwell.trans h.dwell
  rotation := k.rotation.trans h.rotation
  boost := k.boost.trans h.boost
  incoming := k.incoming.trans h.incoming
  noVent := k.noVent.trans h.noVent
  counters := k.counters.trans h.counters
  requests := k.requests.trans h.requests
  bus := k.bus.trans h.bus
  heard := k.heard.trans h.heard

/-- A change beside the fan controller, the waiting requests and the bus. -/
theorem of_fan (hf : d.fan = c.fan) (hs : d.service.queue = c.service.queue)
    (hl : d.link.busFreeCount = c.link.busFreeCount) (hp : d.link.peer.heard = c.link.peer.heard) : c.Starts d where
  fans j := .inl (by rw [Comms.fanAt, hf]; rfl)
  stage := by rw [hf]
  lead := by rw [hf]
  dwell := by rw [hf]
  rotation := by rw [hf]
  boost := by rw [hf]
  incoming := by rw [hf]
  noVent := by rw [hf]
  counters := by rw [hf]
  requests := hs
  bus := hl
  heard := hp

theorem countPeer (f : PeerCounters → PeerCounters) (h : ∀ k, (f k).heard = k.heard) : c.Starts (c.countPeer f) :=
  of_fan rfl rfl rfl (h _)

theorem freeService : c.Starts { c with service := { c.service with current := none } } := of_fan rfl rfl rfl rfl

theorem countFan (f : FanCounters → FanCounters) (h : ∀ k, (f k).settled = k.settled) : c.Starts (c.countFan f) :=
  ⟨fun _ => .inl rfl, rfl, rfl, rfl, rfl, rfl, rfl, rfl, h _, rfl, rfl, rfl⟩

theorem release (r : Option (Fin 4)) : c.Starts { c with fan := { c.fan with release := r } } :=
  ⟨fun _ => .inl rfl, rfl, rfl, rfl, rfl, rfl, rfl, rfl, rfl, rfl, rfl, rfl⟩

/-- A fan that was not waiting is left as it was. -/
theorem kept (h : c.Starts d) {j : Fin 4} (hj : (c.fanAt j).state ≠ .waitPermit) : d.fanAt j = c.fanAt j :=
  (h.fans j).resolve_right fun hwait => hj hwait.1

/-- A start changes neither whether a fan is in FAULT nor whether it is LOCKED. -/
theorem available (h : c.Starts d) (cfg : Settings) (j : Fin 4) : available cfg d.fan j = available cfg c.fan j := by
  have hj : d.fan.fans.get j = c.fan.fans.get j ∨
      (c.fan.fans.get j).state = .waitPermit ∧ ∃ n, d.fan.fans.get j = (c.fan.fans.get j).spun n := h.fans j
  unfold Machine.available
  obtain hsame | ⟨hwait, n, hspun⟩ := hj
  · rw [hsame]
  · rw [hspun, hwait]
    rfl

end Comms.Starts

theorem startFan_fans (e : Env) (i j : Fin 4) (c : Comms) : (startFan e i c).fanAt j =
    if j = i then (c.fanAt i).spun (stageDuty e.settings c.fan.stage) else c.fanAt j := by
  split
  next hj => subst hj; exact Comms.fanAt_setFan_self ..
  next hj => exact Tbl.get_set_ne _ _ hj

theorem startLocally_starts (e : Env) {i : Fin 4} {c : Comms} (hi : (c.fanAt i).state = .waitPermit) :
    c.Starts (startLocally e i c) where
  fans j := by
    have hj : (startLocally e i c).fanAt j = (startFan e i c).fanAt j := rfl
    rw [hj, startFan_fans]
    split
    next hji => subst hji; exact .inr ⟨hi, _, rfl⟩
    next => exact .inl rfl
  stage := rfl
  lead := rfl
  dwell := rfl
  rotation := rfl
  boost := rfl
  incoming := rfl
  noVent := rfl
  counters := rfl
  requests := rfl
  bus := rfl
  heard := rfl

theorem clearRelease_starts (c : Comms) : c.Starts (clearRelease c) := by
  unfold clearRelease
  split
  · exact .refl
  · split
    · exact .refl
    · exact .release none

/-- A release that is held once it has been looked at is of a fan in WAIT_PERMIT (R45). -/
theorem clearRelease_waits {c : Comms} {i : Fin 4} (h : (clearRelease c).fan.release = some i) :
    ((clearRelease c).fanAt i).state = .waitPermit := by
  unfold clearRelease at h ⊢
  split
  next hnone => rw [hnone] at h; simp [hnone] at h
  next k hk =>
    rw [hk] at h
    dsimp only at h
    split
    next hwait =>
      rw [if_pos hwait, hk] at h
      cases h
      exact hwait
    next hleft => rw [if_neg hleft] at h; cases h

theorem FanCtl.firstWaiting_waits {fc : FanCtl} {i : Fin 4} (h : fc.firstWaiting = some i) :
    (fc.fans.get i).state = .waitPermit := by
  simpa using List.find?_some h

theorem localStarts_starts (e : Env) (c : Comms) : c.Starts (localStarts e c) := by
  unfold localStarts
  refine (clearRelease_starts c).trans ?_
  dsimp only
  split
  · exact .refl
  · split
    next i hi => exact (startLocally_starts e (clearRelease_waits hi)).trans (.release none)
    next =>
      split
      · split
        next i hi => exact startLocally_starts e (FanCtl.firstWaiting_waits hi)
        next => exact .refl
      · exact .refl

theorem releaseFan_starts (i : Fin 4) (c : Comms) : c.Starts (releaseFan i c) := by
  have hcount : c.Starts (c.countFan fun k => { k with noticeDropped := bump k.noticeDropped }) :=
    .countFan _ fun _ => rfl
  unfold releaseFan
  dsimp only
  split
  · exact hcount.trans (.release _)
  · exact hcount

theorem offerFrame_heard (e : Env) (p : Payload) (c : Comms) :
    (offerFrame e p c).comms.link.peer.heard = c.link.peer.heard := by
  unfold offerFrame
  split
  · rfl
  · split
    · rfl
    · dsimp only
      split <;> rfl

theorem offerFrame_starts (e : Env) (p : Payload) (c : Comms) : c.Starts (offerFrame e p c).comms :=
  .of_fan (by simp) (by simp) (by simp) (offerFrame_heard e p c)

theorem tryNotice_starts (e : Env) : ∀ (n : Nat) (c : Comms), c.Starts (tryNotice n e c)
  | 0, _ => .refl
  | n + 1, c => by
    unfold tryNotice
    split
    · split
      · exact .refl
      · split
        · have hoffer (i : Fin 4) := offerFrame_starts e (.startNotice i) c
          dsimp only
          split
          · exact (hoffer _).trans (.countPeer _ fun _ => rfl)
          · exact (hoffer _).trans .freeService
          · exact hoffer _
          · exact (((hoffer _).trans (releaseFan_starts ..)).trans (localStarts_starts ..)).trans (tryNotice_starts e n _)
        · exact .countFan _ fun _ => rfl
    · exact .refl

theorem resumeStarts_starts (e : Env) (c : Comms) : c.Starts (resumeStarts e c) :=
  (localStarts_starts e c).trans (tryNotice_starts e 3 _)

theorem noticeDropped_starts (e : Env) (i : Fin 4) (c : Comms) : c.Starts (noticeDropped e i c) :=
  (releaseFan_starts i c).trans (resumeStarts_starts e _)

theorem withdrawNotice_starts (c : Comms) : c.Starts (withdrawNotice c) := .of_fan rfl rfl rfl rfl

theorem tryTimes_starts (e : Env) : ∀ (k : Nat) (c : Comms), c.Starts (tryTimes k e c)
  | 0, _ => .refl
  | k + 1, c => (tryNotice_starts e 3 c).trans (tryTimes_starts e k _)

theorem afterFanChange_starts (e : Env) (old c : Comms) : c.Starts (afterFanChange e old c) := by
  unfold afterFanChange
  dsimp only
  split
  · exact ((withdrawNotice_starts c).trans (localStarts_starts e _)).trans (tryTimes_starts e _ _)
  · exact (localStarts_starts e c).trans (tryTimes_starts e _ _)

/-! ## Drops and reports (R85 to R88) -/

theorem dropEnd_starts (e : Env) (p : Payload) (c : Comms) : c.Starts (dropEnd e p c) := by
  cases p with
  | report => exact .refl
  | startNotice i => exact noticeDropped_starts e i c
  | transit _ _ _ => exact .countPeer _ fun _ => rfl
  | reply _ => exact .freeService

theorem dropEnds_starts (e : Env) (p : Option Payload) (c : Comms) : c.Starts (dropEnds e p c) := by
  cases p with
  | none => exact .refl
  | some p => exact dropEnd_starts e p c

theorem offer_starts (e : Env) (p : Payload) (c : Comms) : c.Starts (offer e p c) :=
  (offerFrame_starts e p c).trans (dropEnds_starts e _ _)

theorem offerReport_starts (e : Env) (c : Comms) : c.Starts (offerReport e c) := by
  unfold offerReport
  dsimp only
  refine Comms.Starts.trans ?_ (dropEnds_starts e _ _)
  split
  · exact (offerFrame_starts e .report c).trans (.of_fan rfl rfl rfl rfl)
  · exact offerFrame_starts e .report c

theorem foldReport_starts (c : Comms) : c.Starts (foldReport c) := by
  unfold foldReport
  split
  · exact .of_fan rfl rfl rfl rfl
  · exact .countPeer _ fun _ => rfl

theorem reportEvent_starts (e : Env) (c : Comms) : c.Starts (reportEvent e c) := by
  unfold reportEvent
  split
  · exact .refl
  · split
    · exact foldReport_starts c
    · split
      · exact .of_fan rfl rfl rfl rfl
      · exact offerReport_starts e c

theorem Comms.Reported.starts {c d : Comms} (h : c.Reported d) : c.Starts d := by
  induction h with
  | refl => exact .refl
  | tail _ hlast ih =>
    obtain ⟨e, rfl⟩ := hlast
    exact ih.trans (reportEvent_starts e _)

/-! ## Selection (R40, R41) -/

/-- No run of selection puts a fan into FAULT or LOCKED or takes it out. -/
theorem Fan.select_state (d : Nat) (w : Bool) (f : Fan) :
    ((f.select d w).state = .fault ↔ f.state = .fault) ∧ ((f.select d w).state = .locked ↔ f.state = .locked) := by
  unfold Fan.select Fan.setDuty Fan.stop
  split
  next h => split <;> simp [h]
  next h => split <;> simp [h]
  next h =>
    split
    · split <;> simp [h]
    · simp [h]
  next h =>
    split
    · split <;> simp [h]
    · simp [h]
  next h => simp
  next h => simp

theorem available_applyWanted (cfg : Settings) (w : List (Fin 4)) (fc : FanCtl) (i : Fin 4) :
    available cfg (applyWanted cfg w fc) i = available cfg fc i := by
  have hget : (applyWanted cfg w fc).fans.get i = (fc.fans.get i).select (stageDuty cfg fc.stage) (decide (i ∈ w)) :=
    Tbl.get_mapIdx ..
  unfold available
  rw [hget]
  simp [Fan.select_state]

theorem settleMarks_record (w : List (Fin 4)) (fc : FanCtl) (i : Fin 4) : (settleMarks w fc).fans.get i =
    { fc.fans.get i with handover := (fc.fans.get i).handover && handoverGoesOn fc w && decide (i ∉ w) } :=
  Tbl.get_mapIdx ..

theorem markOutgoing_record (b w : List (Fin 4)) (fc : FanCtl) (i : Fin 4) : (markOutgoing b w fc).fans.get i =
    { fc.fans.get i with handover := (fc.fans.get i).handover ||
        (decide (i ∈ b) && decide (i ∉ w) && (fc.fans.get i).driveOn) } :=
  Tbl.get_mapIdx ..

theorem available_settleMarks (cfg : Settings) (w : List (Fin 4)) (fc : FanCtl) (i : Fin 4) :
    available cfg (settleMarks w fc) i = available cfg fc i := by
  unfold available
  rw [settleMarks_record]

theorem available_markOutgoing (cfg : Settings) (b w : List (Fin 4)) (fc : FanCtl) (i : Fin 4) :
    available cfg (markOutgoing b w fc) i = available cfg fc i := by
  unfold available
  rw [markOutgoing_record]

theorem select_starts (e : Env) (c : Comms) : Comms.Starts { c with fan := c.fan.selected e } (select e c) :=
  afterFanChange_starts e c _

/-- NO_VENT after a run of selection (R40). -/
theorem select_noVent (e : Env) (c : Comms) : (select e c).fan.noVent =
    (decide (0 < c.fan.stage) && !(List.finRange 4).any (available e.settings c.fan)) := by
  rw [(select_starts e c).noVent]
  have hany : available e.settings (settleMarks (wantedSet e.settings c.fan) c.fan) = available e.settings c.fan :=
    funext fun i => available_settleMarks ..
  exact congrArg (fun p => decide (0 < c.fan.stage) && !(List.finRange 4).any p) hany

theorem select_available (e : Env) (c : Comms) (i : Fin 4) :
    available e.settings (select e c).fan i = available e.settings c.fan i := by
  rw [(select_starts e c).available]
  exact (available_applyWanted ..).trans (available_settleMarks ..)

/-- A fan as a run of selection leaves it, before any start. -/
theorem selected_record (e : Env) (c : Comms) (i : Fin 4) :
    (c.fan.selected e).fans.get i = ({ c.fanAt i with
        handover := (c.fanAt i).handover && handoverGoesOn c.fan (wantedSet e.settings c.fan) &&
          decide (i ∉ wantedSet e.settings c.fan) } : Fan).select
      (stageDuty e.settings c.fan.stage) (decide (i ∈ wantedSet e.settings c.fan)) :=
  (Tbl.get_mapIdx ..).trans (congrArg (Fan.select _ _) (settleMarks_record ..))

/-! ## The stage in force (R35, R38) -/

theorem setStage_starts (e : Env) (n : Nat) (c : Comms) :
    Comms.Starts { c with fan := (c.fan.atStage e n).selected e } (setStage e n c) :=
  (afterFanChange_starts e _ _).trans (reportEvent_starts e _)

@[simp] theorem setStage_stage (e : Env) (n : Nat) (c : Comms) : (setStage e n c).fan.stage = n :=
  (setStage_starts e n c).stage

theorem setStage_available (e : Env) (n : Nat) (c : Comms) (i : Fin 4) :
    available e.settings (setStage e n c).fan i = available e.settings c.fan i := by
  rw [(setStage_starts e n c).available]
  exact (available_applyWanted ..).trans (available_settleMarks ..)

theorem setStage_noVent (e : Env) (n : Nat) (c : Comms) : (setStage e n c).fan.noVent =
    (decide (0 < n) && !(List.finRange 4).any (available e.settings c.fan)) := by
  have hselect : (setStage e n c).fan.noVent = (select e { c with fan := c.fan.atStage e n }).fan.noVent :=
    (reportEvent_starts e _).noVent
  rw [hselect, select_noVent]
  rfl

/-- What a demand worked out again does: the stage in force is set to a new one, or all stays (R38). -/
theorem reworkDemand_cases (e : Env) (c : Comms) :
    reworkDemand e c = (if stageAfter e c.fan = c.fan.stage then c else setStage e (stageAfter e c.fan) c) := by
  unfold reworkDemand stageAfter
  split
  · simp
  · split
    next hrise => rw [if_neg (by omega)]
    next =>
      split
      next hfall => rw [if_neg (by omega)]
      next => simp

theorem reworkDemand_stage (e : Env) (c : Comms) : (reworkDemand e c).fan.stage = stageAfter e c.fan := by
  rw [reworkDemand_cases]
  split
  next h => exact h.symm
  next => exact setStage_stage ..

theorem reworkDemand_available (e : Env) (c : Comms) (i : Fin 4) :
    available e.settings (reworkDemand e c).fan i = available e.settings c.fan i := by
  rw [reworkDemand_cases]
  split
  · rfl
  · exact setStage_available ..

/-- With a fan available no change of the stage sets NO_VENT (R40). -/
theorem reworkDemand_noVent (e : Env) {c : Comms} (h : c.fan.noVent = false)
    (hany : (List.finRange 4).any (available e.settings c.fan) = true) : (reworkDemand e c).fan.noVent = false := by
  rw [reworkDemand_cases]
  split
  · exact h
  · rw [setStage_noVent, hany]
    simp

theorem State.vented_iff (s : State) : s.vented = true ↔
    s.comms.fan.noVent = false ∧ (List.finRange 4).any (available s.settings s.comms.fan) = true := by
  unfold State.vented
  simp

/-! ## Quiet stations -/

/-- A bus side changed where NO_VENT, the waiting requests and the bus stand as they did leaves a quiet station quiet. -/
theorem State.quiet_comms {s : State} (h : s.quiet = true) {c : Comms} (hv : c.fan.noVent = s.comms.fan.noVent)
    (hq : c.service.queue = s.comms.service.queue) (hb : c.link.busFreeCount = s.comms.link.busFreeCount) :
    ({ s with comms := c } : State).quiet = true := by
  rw [← h]
  unfold State.quiet State.ventTold
  dsimp only
  rw [hv, hq, hb]
  rfl

/-- A command that works on the bus side of a quiet station, and leaves NO_VENT, the waiting requests and the bus as
they stand. -/
theorem done_comms {s : State} (h : s.quiet = true) {c : Comms} (hv : c.fan.noVent = s.comms.fan.noVent)
    (hq : c.service.queue = s.comms.service.queue) (hb : c.link.busFreeCount = s.comms.link.busFreeCount) :
    done { s with comms := c } = .next { s with comms := c, moment := s.moment + 1 } :=
  done_of_quiet (s.quiet_comms h hv hq hb)

/-! ## The movement roll (R30, R32) -/

theorem rollRing_get (t : Tbl 6 Nat) :
    (rollRing t).get 5 = 0 ∧ ∀ i : Fin 5, (rollRing t).get i.castSucc = t.get i.succ := by
  refine ⟨(Tbl.get_ofFn _ _).trans (if_pos rfl), fun i => ?_⟩
  have hnext : i.castSucc ≠ currentBin ∧ i.castSucc + 1 = i.succ := by revert i; decide
  exact (Tbl.get_ofFn _ _).trans ((if_neg hnext.1).trans (by rw [hnext.2]))

/-- The fume unit after a movement roll (R30, R32). -/
def State.rolled (s : State) : Fume :=
  ({ s.fume with roll := .running Config.rollMs, movement := rollRing s.fume.movement } : Fume).formed s.settings

/-- Settles O20: the ring rolls, ES is formed afresh, and the demand worked out again on the bus side. -/
theorem movementRollForgetsTheOldestBin : Obligations.MovementRollForgetsTheOldestBin := by
  intro s hquiet hvented hrun
  obtain ⟨hnoVent, hany⟩ := s.vented_iff.mp hvented
  have hdone : exec .movementRoll s = done ({ s with fume := s.rolled } : State).reworkDemand :=
    congrArg done (if_pos hrun)
  obtain ⟨hnewest, holder⟩ := rollRing_get s.fume.movement
  have hq : ({ s with fume := s.rolled } : State).quiet = true := hquiet
  have hv : (reworkDemand ({ s with fume := s.rolled } : State).env s.comms).fan.noVent = s.comms.fan.noVent :=
    (reworkDemand_noVent _ hnoVent hany).trans hnoVent.symm
  refine ⟨_, hdone.trans (done_comms hq hv (by simp) (by simp)), rfl, hnewest, holder, rfl, ?_, ?_, fun hstage => ?_⟩
  · dsimp only
    rw [List.sum_eq_foldl]
    rfl
  · exact reworkDemand_stage ..
  · exact (reworkDemand_cases ..).trans (if_pos hstage)

end Sys2Proof.Machine
end

section
/-! The fan controller's timers: O23 to O27. -/

namespace Sys2Proof.Machine

/-! ## A fan's record changed (R40, R50, R54) -/

section
variable (e : Env) {i : Fin 4} {f : Fan → Fan} {c : Comms}

theorem changeFan_starts : Comms.Starts { c.setFan i (f (c.fanAt i)) with
    fan := (c.setFan i (f (c.fanAt i))).fan.selected e } (changeFan e i f c) := select_starts e _

theorem changeFan_noVent : (changeFan e i f c).fan.noVent = (decide (0 < c.fan.stage) &&
    !(List.finRange 4).any (available e.settings (c.setFan i (f (c.fanAt i))).fan)) := select_noVent ..

theorem Fan.select_idle {x : Fan} (hx : x.state = .fault ∨ x.state = .locked) (d : Nat) (w : Bool) : x.select d w = x := by
  unfold Fan.select
  obtain h | h := hx <;> rw [h]

theorem Fan.unmarked {x : Fan} (h : x.handover = false) (a b : Bool) :
    ({ x with handover := x.handover && a && b } : Fan) = x := by
  cases x
  simp_all

/-- A fan put into FAULT or LOCKED stays as it was put. -/
theorem changeFan_record (hs : (f (c.fanAt i)).state = .fault ∨ (f (c.fanAt i)).state = .locked)
    (hm : (f (c.fanAt i)).handover = false) : (changeFan e i f c).fanAt i = f (c.fanAt i) := by
  have hrecord : ((c.setFan i (f (c.fanAt i))).fan.selected e).fans.get i = f (c.fanAt i) := by
    rw [selected_record, Comms.fanAt_setFan_self, Fan.unmarked hm, Fan.select_idle hs]
  refine ((changeFan_starts e).kept (j := i) ?_).trans hrecord
  have hstate : (((c.setFan i (f (c.fanAt i))).fan.selected e).fans.get i).state ≠ .waitPermit := by
    rw [hrecord]
    obtain h | h := hs <;> simp [h]
  exact hstate

theorem available_setFan_ne {cfg : Settings} {j : Fin 4} (h : j ≠ i) (x : Fan) :
    available cfg (c.setFan i x).fan j = available cfg c.fan j := by
  have hget : (c.setFan i x).fan.fans.get j = c.fan.fans.get j := Tbl.get_set_ne _ _ h
  unfold available
  rw [hget]

theorem not_available_setFan {cfg : Settings} {x : Fan} (h : x.state = .fault ∨ x.state = .locked) :
    available cfg (c.setFan i x).fan i = false := by
  have hget : (c.setFan i x).fan.fans.get i = x := Tbl.get_set_self ..
  unfold available
  rw [hget]
  obtain h | h := h <;> simp [h]

/-- With another fan available a changed fan sets no NO_VENT (R40). -/
theorem changeFan_vented (h : ∃ j, j ≠ i ∧ available e.settings c.fan j = true) :
    (changeFan e i f c).fan.noVent = false := by
  obtain ⟨j, hj, hav⟩ := h
  have hany : (List.finRange 4).any (available e.settings (c.setFan i (f (c.fanAt i))).fan) = true :=
    List.any_eq_true.mpr ⟨j, List.mem_finRange j, (available_setFan_ne hj _).trans hav⟩
  rw [changeFan_noVent, hany]
  simp

/-- The last fan available put into FAULT or LOCKED sets NO_VENT, with a stage in force (R40). -/
theorem changeFan_unvented (hs : (f (c.fanAt i)).state = .fault ∨ (f (c.fanAt i)).state = .locked)
    (h : ∀ j, j ≠ i → available e.settings c.fan j = false) (hstage : 1 ≤ c.fan.stage) :
    (changeFan e i f c).fan.noVent = true := by
  have hnone : (List.finRange 4).any (available e.settings (c.setFan i (f (c.fanAt i))).fan) = false := by
    rw [List.any_eq_false]
    intro j _
    by_cases hj : j = i
    · subst hj
      simp [not_available_setFan hs]
    · simp [available_setFan_ne hj, h j hj]
  rw [changeFan_noVent, hnone]
  simpa using Nat.pos_of_ne_zero (by omega)

end

/-- A fan in FAULT, as it was put there (R50). -/
theorem enterFault_record (e : Env) (i : Fin 4) (k : FaultCause) (c : Comms) :
    (enterFault e i k c).fanAt i = (c.fanAt i).fault k := changeFan_record e (.inl rfl) rfl

theorem enterFault_counters (e : Env) (i : Fin 4) (k : FaultCause) (c : Comms) :
    (enterFault e i k c).fan.counters.settled = (FanCounters.fault k c.fan.counters).settled :=
  (changeFan_starts e).counters

theorem enterFault_vented (e : Env) {i : Fin 4} (k : FaultCause) {c : Comms}
    (h : ∃ j, j ≠ i ∧ available e.settings c.fan j = true) : (enterFault e i k c).fan.noVent = false :=
  changeFan_vented e (c := c.countFan _) h

/-- A fan of a quiet station enters FAULT, another being available (R50). -/
theorem done_enterFault {s : State} (h : s.quiet = true) (hv : s.comms.fan.noVent = false) {i : Fin 4}
    {k : FaultCause} {x : Fan} (hany : ∃ j, j ≠ i ∧ available s.settings s.comms.fan j = true) :
    done { s with comms := enterFault s.env i k (s.comms.setFan i x) } =
      .next { s with comms := enterFault s.env i k (s.comms.setFan i x), moment := s.moment + 1 } := by
  obtain ⟨j, hj, hav⟩ := hany
  refine done_comms h ?_ (by simp) (by simp)
  rw [hv]
  exact enterFault_vented s.env k ⟨j, hj, (available_setFan_ne hj x).trans hav⟩

/-! ## The spin-up check (R47, R48) -/

section
variable {e : Env} {i : Fin 4} {c : Comms}

theorem spinUpExpiry_of_held (hs : (c.fanAt i).state = .spinup) (hr : (c.fanAt i).spinUp.isRunning = true)
    (hh : (c.fanAt i).hold.isRunning = true) :
    spinUpExpiry e i c = c.setFan i { c.fanAt i with spinUp := .expired } := by
  simp [spinUpExpiry, hs, hr, hh]

theorem spinUpExpiry_of_free (hs : (c.fanAt i).state = .spinup) (hr : (c.fanAt i).spinUp.isRunning = true)
    (hh : (c.fanAt i).hold.isRunning = false) : spinUpExpiry e i c = spinUpCheck e i c := by
  simp [spinUpExpiry, hs, hr, hh]

theorem passes_iff {cfg : FanCfg} {f : Fan} : f.passes cfg = true ↔ cfg.rated * f.duty / 510 ≤ f.speed.getD 0 :=
  decide_eq_true_iff

theorem not_passes_iff {cfg : FanCfg} {f : Fan} : f.passes cfg = false ↔ f.speed.getD 0 < cfg.rated * f.duty / 510 := by
  rw [← Nat.not_le, ← passes_iff, Bool.not_eq_true]

theorem spinUpCheck_of_passes (hp : (c.fanAt i).passes (e.settings.fans.get i) = true)
    (hi : c.fan.incoming ≠ some i) : spinUpCheck e i c = c.setFan i (c.fanAt i).run := by
  simp [spinUpCheck, hp, hi]

theorem spinUpCheck_of_incoming (hp : (c.fanAt i).passes (e.settings.fans.get i) = true)
    (hi : c.fan.incoming = some i) : spinUpCheck e i c = changeFan e i Fan.run c := by
  simp [spinUpCheck, hp, hi]

theorem spinUpCheck_of_fails (hp : (c.fanAt i).passes (e.settings.fans.get i) = false) :
    spinUpCheck e i c = enterFault e i .noStart c := by
  simp [spinUpCheck, hp]

end

/-! ## The end of a handover (R53) -/

/-- A fan that a run of selection does not want, and that bears no mark, neither turns nor waits. -/
theorem Fan.select_unwanted (d : Nat) {f : Fan} (h : f.handover = false) :
    (f.select d false).driveOn = false ∧ (f.select d false).state ≠ .waitPermit := by
  unfold Fan.select
  cases hs : f.state <;> simp [h, hs, Fan.driveOn, Fan.stop]

@[simp] theorem Fan.setDuty_fields (d : Nat) (f : Fan) :
    (f.setDuty d).handover = f.handover ∧ (f.setDuty d).state = f.state := by
  unfold Fan.setDuty
  split <;> exact ⟨rfl, rfl⟩

theorem Fan.select_handover (d : Nat) (w : Bool) {f : Fan} (h : f.handover = false) :
    (f.select d w).handover = false := by
  unfold Fan.select
  cases f.state <;> cases w <;> simp [h, Fan.stop]

section
variable (e : Env) {i : Fin 4} {c : Comms}

theorem wantedSet_congr {cfg : Settings} {fc fd : FanCtl} (hl : fd.lead = fc.lead) (hs : fd.stage = fc.stage)
    (ha : ∀ j, available cfg fd j = available cfg fc j) : wantedSet cfg fd = wantedSet cfg fc := by
  have hav : available cfg fd = available cfg fc := funext ha
  unfold wantedSet
  rw [hl, hs, hav]

/-- A fan that enters RUNNING stays available. -/
theorem available_setFan_run {cfg : Settings} (hs : (c.fanAt i).state = .spinup) (j : Fin 4) :
    available cfg (c.setFan i (c.fanAt i).run).fan j = available cfg c.fan j := by
  by_cases hj : j = i
  · subst hj
    have hget : (c.setFan j (c.fanAt j).run).fan.fans.get j = (c.fanAt j).run := Tbl.get_set_self ..
    have hstate : (c.fan.fans.get j).state = .spinup := hs
    unfold available
    rw [hget, hstate]
    rfl
  · exact available_setFan_ne hj _

/-- The incoming fan of a handover enters RUNNING: every mark clears, and a fan that is not wanted stops (R53). -/
theorem changeFan_run (hs : (c.fanAt i).state = .spinup) (hi : c.fan.incoming = some i)
    (hw : i ∈ wantedSet e.settings c.fan) :
    ((changeFan e i Fan.run c).fanAt i).state = .running ∧ (changeFan e i Fan.run c).fan.incoming = none ∧
    ∀ j, ((changeFan e i Fan.run c).fanAt j).handover = false ∧
      (j ∉ wantedSet e.settings c.fan → ((changeFan e i Fan.run c).fanAt j).driveOn = false) := by
  have hstarts := changeFan_starts e (i := i) (f := Fan.run) (c := c)
  have hwanted : wantedSet e.settings (c.setFan i (c.fanAt i).run).fan = wantedSet e.settings c.fan :=
    wantedSet_congr rfl rfl (available_setFan_run hs)
  have hrunning : (c.setFan i (c.fanAt i).run).fan.fans.get i = (c.fanAt i).run := Tbl.get_set_self ..
  have hends : handoverGoesOn (c.setFan i (c.fanAt i).run).fan (wantedSet e.settings c.fan) = false := by
    have hinc : (c.setFan i (c.fanAt i).run).fan.incoming = some i := hi
    unfold handoverGoesOn
    rw [hinc]
    dsimp only
    rw [hrunning]
    simp [Fan.run]
  have hrecord (j : Fin 4) := selected_record e (c.setFan i (c.fanAt i).run) j
  rw [hwanted, hends] at hrecord
  simp only [Bool.and_false, Bool.false_and] at hrecord
  have hmarks (j : Fin 4) :
      (((c.setFan i (c.fanAt i).run).fan.selected e).fans.get j).handover = false := by
    rw [hrecord]
    exact Fan.select_handover _ _ rfl
  have hi' : (((c.setFan i (c.fanAt i).run).fan.selected e).fans.get i).state = .running := by
    rw [hrecord, Comms.fanAt_setFan_self]
    simp [Fan.select, Fan.run, hw]
  refine ⟨?_, ?_, fun j => ⟨?_, fun hj => ?_⟩⟩
  · rw [hstarts.kept (j := i) (by rw [Comms.fanAt, hi']; nofun)]
    exact hi'
  · rw [hstarts.incoming]
    have hnone : ((List.finRange 4).any fun j =>
        ((settleMarks (wantedSet e.settings c.fan) (c.setFan i (c.fanAt i).run).fan).fans.get j).handover) = false := by
      rw [List.any_eq_false]
      intro j _
      rw [settleMarks_record, hends]
      simp
    show (settleMarks (wantedSet e.settings (c.setFan i (c.fanAt i).run).fan)
      (c.setFan i (c.fanAt i).run).fan).incoming = none
    rw [hwanted]
    exact if_neg (by rw [← Bool.not_eq_true] at hnone; exact hnone)
  · obtain hsame | ⟨-, n, hspun⟩ := hstarts.fans j
    · rw [hsame]
      exact hmarks j
    · rw [hspun]
      exact hmarks j
  · have hidle := Fan.select_unwanted (stageDuty e.settings (c.setFan i (c.fanAt i).run).fan.stage)
      (f := { (c.setFan i (c.fanAt i).run).fanAt j with handover := false }) rfl
    have hj' := hrecord j
    simp only [hj, decide_false] at hj'
    rw [← hj'] at hidle
    rw [hstarts.kept (j := j) hidle.2]
    exact hidle.1

end

/-! ## NO_VENT told to the zone state controller (R157, R158) -/

/-- What a change of zone state does to the bus side: starts, the demand worked out again, and a report event (R161). -/
theorem State.setZone_comms (s : State) (st : ZoneState) : ∃ (e₁ e₂ : Env) (c : Comms),
    s.comms.Starts c ∧ (s.setZone st).comms = Machine.reportEvent e₂ (Machine.reworkDemand e₁ c) ∧ e₁.settings = s.settings ∧
    e₁.es = s.env.es ∧ e₁.invalid = s.env.invalid ∧ e₁.operating = s.operating ∧ e₁.grave = st.grave := by
  have hstart : s.comms.Starts (s.zoneEntered st).comms := by
    unfold State.zoneEntered
    dsimp only
    split
    · exact .refl
    · exact .of_fan rfl rfl rfl rfl
  have hlit : (s.zoneEntered st).comms.Starts (s.zoneLit st).comms := by
    have h := (s.zoneEntered st).reformIndicators.arrivalsZoneChange_reported s.grave
    have hsame : (s.zoneLit st).comms =
        ((s.zoneEntered st).reformIndicators.arrivalsZoneChange s.grave).comms := by
      simp [State.zoneLit]
    rw [hsame]
    exact h.starts
  have hframe : (s.zoneEntered st).mode = s.mode ∧ (s.zoneEntered st).settings = s.settings ∧
      (s.zoneEntered st).fume = s.fume ∧ (s.zoneEntered st).zone.state = st := by
    unfold State.zoneEntered
    dsimp only
    split <;> exact ⟨rfl, rfl, rfl, rfl⟩
  obtain ⟨hmode, hset, hfume, hzone⟩ := hframe
  refine ⟨(s.zoneLit st).presentZone.env, (s.zoneLit st).presentZone.reworkDemand.env,
    (s.zoneLit st).presentZone.comms, (hstart.trans hlit).trans (s.zoneLit st).reformGuide_reported.starts, rfl, ?_⟩
  have hlitFrame : (s.zoneLit st).mode = s.mode ∧ (s.zoneLit st).settings = s.settings ∧
      (s.zoneLit st).fume = s.fume ∧ (s.zoneLit st).zone.state = st := by
    simp [State.zoneLit, State.reformIndicators, hmode, hset, hfume, hzone]
  obtain ⟨lmode, lset, lfume, lzone⟩ := hlitFrame
  simp [State.env, State.invalid, State.operating, State.grave, lmode, lset, lfume, lzone]

/-- A fan out of service, in FAULT or LOCKED and without a mark, with the record that it keeps. -/
structure Comms.Retired (c : Comms) (i : Fin 4) (x : Fan) : Prop where
  record : c.fanAt i = x
  idle : x.state = .fault ∨ x.state = .locked
  unmarked : x.handover = false

theorem Comms.Starts.retired {c d : Comms} (h : c.Starts d) {i : Fin 4} {x : Fan} (hc : c.Retired i x) :
    d.Retired i x := by
  obtain ⟨hx, hidle, hmark⟩ := hc
  refine ⟨(h.kept ?_).trans hx, hidle, hmark⟩
  rw [hx]
  obtain h | h := hidle <;> rw [h] <;> nofun

theorem setStage_retired {e : Env} {n : Nat} {c : Comms} {i : Fin 4} {x : Fan} (hc : c.Retired i x) :
    (setStage e n c).Retired i x := by
  obtain ⟨hx, hidle, hmark⟩ := hc
  refine (setStage_starts e n c).retired ⟨?_, hidle, hmark⟩
  have hrecord := selected_record e { c with fan := c.fan.atStage e n } i
  have hat : ({ c with fan := c.fan.atStage e n } : Comms).fanAt i = x := hx
  rw [hat, Fan.unmarked hmark, Fan.select_idle hidle] at hrecord
  exact hrecord

/-- With no fan available, a demand worked out again keeps NO_VENT where it leaves a stage in force (R40). -/
theorem reworkDemand_unvented {e : Env} {c : Comms} {i : Fin 4} {x : Fan} (hc : c.Retired i x)
    (hv : c.fan.noVent = true) (hnone : ∀ j, available e.settings c.fan j = false) (hs : 0 < stageAfter e c.fan) :
    (reworkDemand e c).Retired i x ∧ (reworkDemand e c).fan.noVent = true := by
  rw [reworkDemand_cases]
  split
  · exact ⟨hc, hv⟩
  · refine ⟨setStage_retired hc, ?_⟩
    have hany : (List.finRange 4).any (available e.settings c.fan) = false := List.any_eq_false.mpr (by simp [hnone])
    rw [setStage_noVent, hany]
    simpa using hs

theorem demand_of_grave {e : Env} {fc : FanCtl} (h : e.grave = true) : demand e fc = 4 := if_pos h

/-- The stage in force stays above 0 over a change of zone state that finds it at the demand (R37, R38). -/
theorem stageAfter_pos {e e₁ : Env} {fc fd : FanCtl} (hset : e₁.settings = e.settings) (hes : e₁.es = e.es)
    (hinv : e₁.invalid = e.invalid) (hstage : fd.stage = fc.stage) (hboost : fd.boost = fc.boost)
    (hmet : demand e fc = fc.stage) (hpos : 1 ≤ fc.stage) : 0 < stageAfter e₁ fd := by
  unfold stageAfter
  split
  · omega
  · split
    · omega
    · split
      next hfall =>
        by_cases hgrave : e.grave = true
        · rw [demand_of_grave hgrave] at hmet
          omega
        · have hsame : demand e₁ fd = demand e fc := by
            unfold demand boostStageOf
            rw [if_neg hgrave, hfall.2.2, hset, hes, hinv, hstage, hboost]
            rfl
          omega
      · omega

/-- NO_VENT told to the controller as a cause, and what the zone then does (R157, R158). -/
theorem State.ventSettle_unvented {s : State} {i : Fin 4} {x : Fan} (ho : s.operating = true)
    (hc : s.comms.Retired i x) (hv : s.comms.fan.noVent = true) (hcause : s.zone.ventCause = false)
    (hnone : ∀ j, available s.settings s.comms.fan j = false) (hmet : demand s.env s.comms.fan = s.comms.fan.stage)
    (hpos : 1 ≤ s.comms.fan.stage) :
    s.ventSettle.comms.Retired i x ∧ s.ventSettle.comms.fan.noVent = true ∧ s.ventSettle.zone.ventCause = true ∧
    (s.grave = true → s.zone.purgeIn = decide (s.zone.state = .purge) → s.ventSettle.zone.state = s.zone.state) ∧
    (s.grave = false → s.zone.purgeIn = false → s.zone.fsLast < s.settings.alarmOn →
      s.ventSettle.zone.state = .divert) := by
  have htell : s.ventSettle = ({ s with zone := s.zone.withCauses s.zone.gasCause true } : State).evaluate := by
    unfold State.ventSettle
    rw [if_pos (by simp [ho, hcause, hv]), hv]
    rfl
  generalize hu : ({ s with zone := s.zone.withCauses s.zone.gasCause true } : State) = u at htell
  have hzone : u.zone = s.zone.withCauses s.zone.gasCause true := by rw [← hu]
  have hcomms : u.comms = s.comms := by rw [← hu]
  have hset : u.settings = s.settings := by rw [← hu]
  have henv : u.env = s.env := by rw [← hu]; rfl
  have hstate : s.ventSettle.zone = u.zone.evaluated u.settings := by rw [htell, State.evaluate_zone]
  have hbus : s.ventSettle.comms.Retired i x ∧ s.ventSettle.comms.fan.noVent = true := by
    rw [htell]
    unfold State.evaluate
    split
    · rw [hcomms]
      exact ⟨hc, hv⟩
    · obtain ⟨e₁, e₂, c, hstarts, hc', eset, ees, einv, -⟩ := u.setZone_comms (u.zone.evaluation u.settings)
      rw [hcomms] at hstarts
      rw [henv] at ees einv
      have hafter : 0 < stageAfter e₁ c.fan :=
        stageAfter_pos (eset.trans hset) ees einv hstarts.stage hstarts.boost hmet hpos
      obtain ⟨hfault, hvent⟩ := reworkDemand_unvented (e := e₁) (hstarts.retired hc) (hstarts.noVent.trans hv)
        (fun j => by rw [hstarts.available, eset, hset]; exact hnone j) hafter
      rw [hc']
      exact ⟨(reportEvent_starts ..).retired hfault, (reportEvent_starts ..).noVent.trans hvent⟩
  refine ⟨hbus.1, hbus.2, ?_, fun hgrave hpurge => ?_, fun hcalm hpurge hlow => ?_⟩
  · rw [hstate, hzone, (ZoneCtl.evaluated_inputs ..).2.2.2.2]
    rfl
  · rw [hstate, hzone, ZoneCtl.evaluated_state]
    have hform : (s.zone.withCauses s.zone.gasCause true).evaluation u.settings = s.zone.state := by
      have hg : s.zone.state.grave = true := hgrave
      unfold ZoneCtl.evaluation ZoneCtl.withCauses
      dsimp only
      rw [hpurge]
      cases hst : s.zone.state <;> simp_all [ZoneState.grave]
    exact hform
  · rw [hstate, hzone, ZoneCtl.evaluated_state,
      ZoneCtl.evaluation_of_calm (z := s.zone.withCauses s.zone.gasCause true) hpurge hcalm, hset]
    refine (if_neg (Nat.not_le.mpr hlow)).trans ?_
    simp [ZoneCtl.byCauses, ZoneCtl.causeHolds, ZoneCtl.withCauses]

theorem State.setZone_bus (s : State) (st : ZoneState) :
    (s.setZone st).comms.link.busFreeCount = s.comms.link.busFreeCount := by
  obtain ⟨e₁, e₂, c, hstarts, hc, -⟩ := s.setZone_comms st
  rw [hc]
  simpa using hstarts.bus

theorem State.evaluate_bus (s : State) : s.evaluate.comms.link.busFreeCount = s.comms.link.busFreeCount := by
  unfold State.evaluate
  split
  · rfl
  · exact s.setZone_bus _

theorem State.ventSettle_bus (s : State) : s.ventSettle.comms.link.busFreeCount = s.comms.link.busFreeCount := by
  unfold State.ventSettle
  split
  · exact State.evaluate_bus _
  · rfl

/-- With no request waiting and the bus not free a step ends with NO_VENT told. -/
theorem State.settle_of_busy {s : State} (hq : s.comms.service.queue = [])
    (hb : s.comms.link.busFreeCount ≠ Config.busFreeBits) : s.settle = s.ventSettle := by
  rw [State.settle_of_noRequests hq]
  exact State.linkSettle_of_busy (by rwa [State.ventSettle_bus])

theorem done_of_settle {s u : State} (h : s.settle = u) : done s = .next { u with moment := s.moment + 1 } := by
  rw [done, h]

theorem State.quiet_iff (s : State) : s.quiet = true ↔ (s.operating = true → s.zone.ventCause = s.comms.fan.noVent) ∧
    s.comms.service.queue = [] ∧ s.comms.link.busFreeCount ≠ Config.busFreeBits := by
  unfold State.quiet State.ventTold
  cases s.operating <;> simp [and_assoc]

/-- The last fan available enters FAULT: NO_VENT is set and told (R40, R50, R157). -/
theorem done_lastFault {s : State} (h : s.quiet = true) (ho : s.operating = true) (hv : s.comms.fan.noVent = false)
    {i : Fin 4} {k : FaultCause} (hothers : ∀ j, j ≠ i → available s.settings s.comms.fan j = false)
    (hpos : 1 ≤ s.comms.fan.stage) (hmet : demand s.env s.comms.fan = s.comms.fan.stage) :
    ∃ t, done { s with comms := enterFault s.env i k s.comms } = .next t ∧
      (t.comms.fanAt i).state = .fault ∧ (t.comms.fanAt i).cause = some k ∧
      t.comms.fan.noVent = true ∧ t.zone.ventCause = true ∧
      (s.grave = true → s.zone.purgeIn = decide (s.zone.state = .purge) → t.zone.state = s.zone.state) ∧
      (s.grave = false → s.zone.purgeIn = false → s.zone.fsLast < s.settings.alarmOn → t.zone.state = .divert) := by
  obtain ⟨htold, hqueue, hbus⟩ := s.quiet_iff.mp h
  have hfault : (enterFault s.env i k s.comms).Retired i ((s.comms.fanAt i).fault k) :=
    ⟨enterFault_record .., .inl rfl, rfl⟩
  have hvent : (enterFault s.env i k s.comms).fan.noVent = true :=
    changeFan_unvented s.env (c := s.comms.countFan _) (.inl rfl) hothers hpos
  have hnone (j : Fin 4) : available s.settings (enterFault s.env i k s.comms).fan j = false := by
    refine (select_available s.env _ j).trans ?_
    by_cases hj : j = i
    · subst hj
      exact not_available_setFan (.inl rfl)
    · exact (available_setFan_ne hj _).trans (hothers j hj)
  have hdemand : demand s.env (enterFault s.env i k s.comms).fan = demand s.env s.comms.fan := by
    unfold demand boostStageOf
    simp
  have hstage : (enterFault s.env i k s.comms).fan.stage = s.comms.fan.stage := by simp
  obtain ⟨hf, hn, hcause, hrest⟩ := State.ventSettle_unvented (s := { s with comms := enterFault s.env i k s.comms })
    ho hfault hvent ((htold ho).trans hv) hnone (hdemand.trans (hmet.trans hstage.symm))
    (hpos.trans (Nat.le_of_eq hstage.symm))
  have hsettle := State.settle_of_busy (s := { s with comms := enterFault s.env i k s.comms })
    (by simpa using hqueue) (by simpa using hbus)
  refine ⟨_, done_of_settle hsettle, ?_⟩
  refine ⟨?_, ?_, hn, hcause, hrest⟩
  · exact (congrArg Fan.state hf.record).trans rfl
  · exact (congrArg Fan.cause hf.record).trans rfl

/-- Settles O23, by the outcomes of the check at the expiry of the spin-up timer. -/
theorem spinUpCheckStartsOrFaultsTheFan : Obligations.SpinUpCheckStartsOrFaultsTheFan := by
  intro i s hquiet hvent hstate hrun
  have hrest := s.atRest_of_quiet hquiet
  have hexec : exec (.spinUpTimerExpiry i) s = done { s with comms := spinUpExpiry s.env i s.comms } := rfl
  refine ⟨fun hheld => ?_, fun hfree hfast hinc => ?_, fun hfree hfast hinc hwanted hvented => ?_,
    fun hfree hslow hother => ?_, fun hfree ho hslow hothers hpos hmet => ?_⟩
  · rw [hexec, spinUpExpiry_of_held hstate hrun hheld]
    exact done_setFan hrest i _
  · rw [hexec, spinUpExpiry_of_free hstate hrun hfree, spinUpCheck_of_passes (passes_iff.mpr hfast) hinc]
    exact done_setFan hrest i _
  · rw [hexec, spinUpExpiry_of_free hstate hrun hfree, spinUpCheck_of_incoming (passes_iff.mpr hfast) hinc]
    obtain ⟨-, hany⟩ := s.vented_iff.mp hvented
    have hv : (changeFan s.env i Fan.run s.comms).fan.noVent = s.comms.fan.noVent := by
      have hsame : available s.settings (s.comms.setFan i (s.comms.fanAt i).run).fan = available s.settings s.comms.fan :=
        funext (available_setFan_run hstate)
      have hany' : (List.finRange 4).any
          (available s.env.settings (s.comms.setFan i (s.comms.fanAt i).run).fan) = true := by
        rw [← hany, ← hsame]
        rfl
      rw [changeFan_noVent, hany', hvent]
      simp
    obtain ⟨hr, hn, hmarks⟩ := changeFan_run s.env hstate hinc hwanted
    exact ⟨_, done_comms hquiet hv (by simp) (by simp), rfl, hr, hn, by simp, hmarks⟩
  · rw [hexec, spinUpExpiry_of_free hstate hrun hfree, spinUpCheck_of_fails (not_passes_iff.mpr hslow)]
    have hv := enterFault_vented s.env (c := s.comms) .noStart hother
    refine ⟨_, done_comms hquiet (hv.trans hvent.symm) (by simp) (by simp), rfl, enterFault_record .., ?_,
      by simp, by simp⟩
    exact congrArg FanCounters.noStartFaults (enterFault_counters s.env i .noStart s.comms)
  · rw [hexec, spinUpExpiry_of_free hstate hrun hfree, spinUpCheck_of_fails (not_passes_iff.mpr hslow)]
    exact done_lastFault hquiet ho hvent hothers hpos hmet

end Sys2Proof.Machine
end

section
/-! Running checks, dwell, boost, local spacing and rotation: O24 to O27. -/

namespace Sys2Proof.Machine

/-! ## Running checks (R49) -/

theorem Tbl.set_set {n : Nat} {α : Type} (t : Tbl n α) (i : Fin n) (a b : α) : (t.set i a).set i b = t.set i b :=
  Tbl.ext_get fun j => by
    by_cases hj : j = i
    · subst hj; simp
    · simp [Tbl.get_set_ne _ _ hj]

theorem Comms.setFan_setFan (c : Comms) (i : Fin 4) (x y : Fan) : (c.setFan i x).setFan i y = c.setFan i y := by
  unfold Comms.setFan
  dsimp only
  rw [Tbl.set_set]

section
variable {e : Env} {i : Fin 4} {c : Comms}

theorem holdExpiry_of_running (hs : (c.fanAt i).state = .running) (hh : (c.fanAt i).hold.isRunning = true) :
    holdExpiry e i c = c.setFan i { c.fanAt i with hold := .stopped, check := .running Config.checkMs } := by
  simp [holdExpiry, hs, hh]

/-- A spin-up check that fell due, taken at the end of the check hold and passed. -/
theorem holdExpiry_of_due (hs : (c.fanAt i).state = .spinup) (hh : (c.fanAt i).hold.isRunning = true)
    (hd : (c.fanAt i).spinUp = .expired) (hinc : c.fan.incoming ≠ some i)
    (hp : (c.fanAt i).passes (e.settings.fans.get i) = true) :
    holdExpiry e i c = c.setFan i { (c.fanAt i).run with hold := .stopped } := by
  have hcheck : holdExpiry e i c = spinUpCheck e i (c.setFan i { c.fanAt i with hold := .stopped }) := by
    simp [holdExpiry, hs, hh, hd]
  refine hcheck.trans ((spinUpCheck_of_passes ?_ ?_).trans ?_)
  · rw [Comms.fanAt_setFan_self]
    exact hp
  · exact hinc
  · rw [Comms.fanAt_setFan_self, Comms.setFan_setFan]
    rfl

theorem runningCheck_of_held (hh : (c.fanAt i).hold.isRunning = true) : runningCheck e i c = c := by
  simp [runningCheck, hh]

theorem runningCheck_of_passes (hs : (c.fanAt i).state = .running) (hc : (c.fanAt i).check.isRunning = true)
    (hh : (c.fanAt i).hold.isRunning = false) (hp : (c.fanAt i).passes (e.settings.fans.get i) = true) :
    runningCheck e i c = c.setFan i { c.fanAt i with failing := 0, check := .running Config.checkMs } := by
  simp [runningCheck, hs, hc, hh, hp]

theorem runningCheck_of_fails (hs : (c.fanAt i).state = .running) (hc : (c.fanAt i).check.isRunning = true)
    (hh : (c.fanAt i).hold.isRunning = false) (hp : (c.fanAt i).passes (e.settings.fans.get i) = false) :
    runningCheck e i c = failingCheck e i c := by
  simp [runningCheck, hs, hc, hh, hp]

theorem failingCheck_of_few (h : (c.fanAt i).failing < 2) : failingCheck e i c =
    c.setFan i { c.fanAt i with failing := (c.fanAt i).failing + 1, check := .running Config.checkMs } :=
  if_neg (by omega)

theorem failingCheck_of_third (h : 2 ≤ (c.fanAt i).failing) : failingCheck e i c = enterFault e i .stall
    (c.setFan i { c.fanAt i with failing := (c.fanAt i).failing + 1, check := .running Config.checkMs }) :=
  if_pos (by omega)

end

/-- Settles O24, by the outcomes of a running check and of the end of a check hold. -/
theorem runningChecksFindAStall : Obligations.RunningChecksFindAStall := by
  intro i s hquiet hvent
  have hrest := s.atRest_of_quiet hquiet
  have hcheck : exec (.runningCheck i) s = done { s with comms := runningCheck s.env i s.comms } := rfl
  have hhold : exec (.checkHoldTimerExpiry i) s = done { s with comms := holdExpiry s.env i s.comms } := rfl
  refine ⟨fun hs hh => ⟨?_, ?_⟩, fun hs hh hd hinc hfast => ?_, fun hs hh hc => ⟨fun hfast => ?_, fun hslow hfew => ?_,
    fun hslow hmany hother => ?_⟩⟩
  · rw [hcheck, runningCheck_of_held hh]
    exact done_of_quiet hquiet
  · rw [hhold, holdExpiry_of_running hs hh]
    exact done_setFan hrest i _
  · rw [hhold, holdExpiry_of_due hs hh hd hinc (passes_iff.mpr hfast)]
    exact done_setFan hrest i _
  · rw [hcheck, runningCheck_of_passes hs hc hh (passes_iff.mpr hfast)]
    exact done_setFan hrest i _
  · rw [hcheck, runningCheck_of_fails hs hc hh (not_passes_iff.mpr hslow), failingCheck_of_few hfew]
    exact done_setFan hrest i _
  · rw [hcheck, runningCheck_of_fails hs hc hh (not_passes_iff.mpr hslow), failingCheck_of_third hmany]
    refine ⟨_, done_enterFault hquiet hvent hother, rfl, ?_⟩
    dsimp only
    rw [enterFault_record]
    exact ⟨rfl, rfl, rfl, rfl, rfl, congrArg FanCounters.stallFaults (enterFault_counters s.env i .stall _), by simp,
      by simp⟩

/-! ## Dwell and boost (R35, R38, R56) -/

theorem stageAfter_of_fall {e : Env} {fc : FanCtl} (ho : e.operating = true) (hle : demand e fc ≤ fc.stage) :
    stageAfter e fc = if demand e fc < fc.stage ∧ fc.dwell = .expired ∧ e.grave = false
      then fc.stage - 1 else fc.stage := by
  unfold stageAfter
  rw [ho, if_neg (by simp), if_neg (by omega)]

/-- The bus side with the dwell timer expired. -/
def Comms.dwelt (c : Comms) : Comms := { c with fan := { c.fan with dwell := .expired } }

/-- The demand worked out again on the bus side of a quiet station with a fan available. -/
theorem done_reworkDemand {s : State} (hq : s.quiet = true) (hv : s.vented = true) {c : Comms}
    (hvent : c.fan.noVent = s.comms.fan.noVent) (hfans : c.fan.fans = s.comms.fan.fans)
    (hreq : c.service.queue = s.comms.service.queue) (hbus : c.link.busFreeCount = s.comms.link.busFreeCount) :
    done { s with comms := reworkDemand s.env c } =
      .next { s with comms := reworkDemand s.env c, moment := s.moment + 1 } := by
  obtain ⟨hnoVent, hany⟩ := s.vented_iff.mp hv
  have havail : available s.env.settings c.fan = available s.settings s.comms.fan := funext fun i => by
    unfold available
    rw [hfans]
    rfl
  refine done_comms hq ?_ (by simpa using hreq) (by simpa using hbus)
  rw [reworkDemand_noVent _ (hvent.trans hnoVent) (by rw [havail]; exact hany), hnoVent]

theorem reworkDemand_counters (e : Env) (c : Comms) :
    (reworkDemand e c).fan.counters.settled = c.fan.counters.settled := by
  rw [reworkDemand_cases]
  split
  · rfl
  · exact (setStage_starts ..).counters

/-- Without its boost the demand is no greater (R37). -/
theorem demand_unboosted_le (e : Env) (fc : FanCtl) : demand e { fc with boost := none } ≤ demand e fc := by
  unfold demand
  split
  · exact Nat.le_refl _
  · exact Nat.max_le.mpr ⟨Nat.le_max_left .., Nat.zero_le _⟩

/-- Settles O25: the demand is worked out again with the dwell timer expired, or without the boost. -/
theorem dwellAndBoostEndsLowerTheStageOneStep : Obligations.DwellAndBoostEndsLowerTheStageOneStep := by
  intro s hquiet hvented ho hle
  have hdwell (hrun : s.comms.fan.dwell.isRunning = true) : exec .dwellTimerExpiry s = done { s with
      comms := reworkDemand s.env s.comms.dwelt } :=
    congrArg (fun c => done { s with comms := c }) (if_pos hrun)
  refine ⟨fun hrun hlow hcalm => ?_, fun hrun hsame => ?_, fun hboost => ?_⟩
  · rw [hdwell hrun]
    refine ⟨_, done_reworkDemand (c := s.comms.dwelt) hquiet hvented rfl rfl rfl rfl, rfl, ?_⟩
    have hafter : stageAfter s.env s.comms.dwelt.fan = s.comms.fan.stage - 1 :=
      (stageAfter_of_fall (fc := s.comms.dwelt.fan) ho hle).trans (if_pos ⟨hlow, rfl, hcalm⟩)
    have hstep : stageAfter s.env s.comms.dwelt.fan ≠ s.comms.dwelt.fan.stage := by
      have hsame : s.comms.dwelt.fan.stage = s.comms.fan.stage := rfl
      omega
    dsimp only
    rw [reworkDemand_cases, if_neg hstep, hafter]
    refine ⟨setStage_stage .., (setStage_starts ..).dwell, ?_, ?_⟩
    · simp [Comms.dwelt]
    · simp [Comms.dwelt]
  · rw [hdwell hrun]
    refine (done_reworkDemand (c := s.comms.dwelt) hquiet hvented rfl rfl rfl rfl).trans ?_
    have hafter : stageAfter s.env s.comms.dwelt.fan = s.comms.dwelt.fan.stage := by
      refine (stageAfter_of_fall (fc := s.comms.dwelt.fan) ho hle).trans (if_neg fun hfall => ?_)
      obtain hsame | hgrave := hsame
      · exact absurd hfall.1 (Nat.not_lt.mpr (Nat.le_of_eq hsame.symm))
      · exact absurd hfall.2.2 (by rw [← Bool.not_eq_false] at hgrave; exact hgrave)
    rw [reworkDemand_cases, if_pos hafter]
    rfl
  · obtain ⟨b, hb⟩ := Option.isSome_iff_exists.mp hboost
    have hexec : exec .boostTimerExpiry s = done { s with
        comms := reworkDemand s.env ({ s.comms with fan := { s.comms.fan with boost := none } }.countFan
          fun k => { k with boostsEnded := bump k.boostsEnded }) } := by
      have hexp : boostExpiry s.env s.comms = reworkDemand s.env
          ({ s.comms with fan := { s.comms.fan with boost := none } }.countFan
            fun k => { k with boostsEnded := bump k.boostsEnded }) := by
        simp [boostExpiry, hb]
      exact congrArg (fun c => done { s with comms := c }) hexp
    rw [hexec]
    refine ⟨_, done_reworkDemand hquiet hvented rfl rfl rfl rfl, rfl, ?_⟩
    have hafter := stageAfter_of_fall (e := s.env) (fc := { s.comms.fan with boost := none }) ho
      ((demand_unboosted_le s.env s.comms.fan).trans hle)
    exact ⟨by simp, congrArg FanCounters.boostsEnded (reworkDemand_counters s.env _), by simp,
      (reworkDemand_stage ..).trans hafter⟩

/-! ## Local spacing (R45, R46) -/

section
variable {e : Env} {c : Comms} {i : Fin 4}

/-- A release held is made, and no other start (R45). -/
theorem localStarts_of_release (hs : c.fan.spacing.isRunning = false) (hr : c.fan.release = some i)
    (hw : (c.fanAt i).state = .waitPermit) : localStarts e c =
      { startLocally e i c with fan := { (startLocally e i c).fan with release := none } } := by
  have hkeep : clearRelease c = c := by simp [clearRelease, hr, hw]
  unfold localStarts
  rw [hkeep]
  simp [hs, hr]

theorem clearRelease_of_none (hr : c.fan.release = none) : clearRelease c = c := by simp [clearRelease, hr]

theorem localStarts_of_none (hs : c.fan.spacing.isRunning = false) (hr : c.fan.release = none) :
    localStarts e c = if c.link.state.startsLocally then
      (match c.fan.firstWaiting with
        | some i => startLocally e i c
        | none => c) else c := by
  unfold localStarts
  rw [clearRelease_of_none hr]
  simp only [hs, hr]
  rfl

/-- A try whose notice finds a place moves no fan, and no count but the deferral's (R42). -/
theorem tryNotice_of_room {n : Nat} (h : c.link.queue.length < Config.queuePlaces) :
    (tryNotice (n + 1) e c).fan = c.fan ∨ (tryNotice (n + 1) e c).fan =
      { c.fan with counters := { c.fan.counters with noticeDeferred := bump c.fan.counters.noticeDeferred } } := by
  unfold tryNotice
  split
  next hmay =>
    have hactive : c.link.state ≠ .silent := by
      simp only [Comms.mayNotify, Bool.and_eq_true, decide_eq_true_eq] at hmay
      rw [hmay.1.1.2]
      nofun
    have hoffer (i : Fin 4) : offerFrame e (.startNotice i) c = ⟨c.join e (.startNotice i), true, none⟩ := by
      simp [offerFrame, hactive, h]
    split
    · exact .inl rfl
    · split
      · rw [hoffer]
        exact .inl rfl
      · exact .inr rfl
  next => exact .inl rfl

end

/-- Settles O26, by what the expiry finds: the release, a waiting fan of an isolated or silent link, or neither. -/
theorem localSpacingStartsOneFanAtATime : Obligations.LocalSpacingStartsOneFanAtATime := by
  intro i s hquiet hrun
  have hexec : exec .localSpacingTimerExpiry s = done { s with comms := spacingExpiry s.env s.comms } := rfl
  generalize hstopped : ({ s.comms with fan := { s.comms.fan with spacing := .stopped } } : Comms) = c
  have hexp : spacingExpiry s.env s.comms = if (localStarts s.env c).fan.release = s.comms.fan.release
      then localStarts s.env c else tryNotice 3 s.env (localStarts s.env c) := by
    rw [← hstopped]
    exact if_pos hrun
  have hspacing : c.fan.spacing.isRunning = false := by rw [← hstopped]; rfl
  have hrelease : c.fan.release = s.comms.fan.release := by rw [← hstopped]
  have hlink : c.link = s.comms.link := by rw [← hstopped]
  have hfan (j : Fin 4) : c.fanAt j = s.comms.fanAt j := by rw [← hstopped]; rfl
  refine ⟨fun hnone hstate hfirst => ?_, fun hrel hwait hroom => ?_, fun hnone hiso hsil => ?_⟩
  · have hlocal : localStarts s.env c = startLocally s.env i c := by
      have hfirst' : c.fan.firstWaiting = some i := by rw [← hstopped]; exact hfirst
      rw [localStarts_of_none hspacing (hrelease.trans hnone), hlink, if_pos, hfirst']
      obtain h | h := hstate <;> rw [h] <;> rfl
    have hkept : (startLocally s.env i c).fan.release = s.comms.fan.release := hrelease
    rw [hexec, hexp, hlocal, if_pos hkept]
    refine (done_comms hquiet ?_ ?_ ?_).trans ?_
    · rw [← hstopped]; rfl
    · rw [← hstopped]; rfl
    · rw [← hstopped]; rfl
    · rw [← hstopped]; rfl
  · have hlocal := localStarts_of_release (e := s.env) hspacing (hrelease.trans hrel) (by rw [hfan]; exact hwait)
    generalize hd : ({ startLocally s.env i c with
      fan := { (startLocally s.env i c).fan with release := none } } : Comms) = d at hlocal
    have htry : spacingExpiry s.env s.comms = tryNotice 3 s.env d := by
      rw [hexp, hlocal, if_neg]
      rw [hrel, ← hd]
      nofun
    have hroom' : d.link.queue.length < Config.queuePlaces := by rw [← hd, ← hstopped]; exact hroom
    rw [hexec, htry]
    refine ⟨_, done_comms hquiet ?_ ?_ ?_, rfl, ?_⟩
    · rw [(tryNotice_starts ..).noVent, ← hd, ← hstopped]; rfl
    · rw [(tryNotice_starts ..).requests, ← hd, ← hstopped]; rfl
    · rw [(tryNotice_starts ..).bus, ← hd, ← hstopped]; rfl
    · have hself : d.fanAt i = (s.comms.fanAt i).spun (stageDuty s.settings s.comms.fan.stage) := by
        rw [← hd]
        refine (startFan_fans s.env i i c).trans ?_
        rw [if_pos rfl, hfan, ← hstopped]
        rfl
      have hother (j : Fin 4) (hj : j ≠ i) : d.fanAt j = s.comms.fanAt j := by
        rw [← hd]
        refine (startFan_fans s.env i j c).trans ?_
        rw [if_neg hj, hfan]
      have hrest : d.fan.release = none ∧ d.fan.spacing = .running (1000 * s.settings.window) ∧
          d.fan.counters.localStarts = bump s.comms.fan.counters.localStarts := by
        rw [← hd, ← hstopped]
        exact ⟨rfl, rfl, rfl⟩
      have hfans : (tryNotice 3 s.env d).fan.fans = d.fan.fans ∧ (tryNotice 3 s.env d).fan.release = d.fan.release ∧
          (tryNotice 3 s.env d).fan.spacing = d.fan.spacing ∧
          (tryNotice 3 s.env d).fan.counters.localStarts = d.fan.counters.localStarts := by
        obtain h | h := tryNotice_of_room (e := s.env) (n := 2) hroom' <;> rw [h] <;> exact ⟨rfl, rfl, rfl, rfl⟩
      obtain ⟨ffans, frelease, fspacing, fcount⟩ := hfans
      have hat (j : Fin 4) : (tryNotice 3 s.env d).fanAt j = d.fanAt j := by rw [Comms.fanAt, ffans]; rfl
      dsimp only
      rw [hat, hself, frelease, fspacing, fcount]
      exact ⟨rfl, hrest.1, hrest.2.1, hrest.2.2, fun j hj => (hat j).trans (hother j hj)⟩
  · have hlocal : localStarts s.env c = c := by
      rw [localStarts_of_none hspacing (hrelease.trans hnone), hlink, if_neg]
      cases hs : s.comms.link.state <;> simp_all [LinkState.startsLocally]
    rw [hexec, hexp, hlocal, if_pos hrelease]
    refine (done_comms hquiet ?_ ?_ ?_).trans ?_
    · rw [← hstopped]
    · rw [← hstopped]
    · rw [← hstopped]
    · rw [← hstopped]

/-! ## Rotation (R52, R53) -/

/-- The fan controller with the lead order rotated, before selection. -/
def FanCtl.rotated (cfg : Settings) (fc : FanCtl) : FanCtl :=
  { fc with
    rotationLeft := cfg.rotationMs
    lead := rotateLead fc.lead
    counters := { fc.counters with rotations := bump fc.counters.rotations } }

/-- The fan controller as the selection after a rotation leaves it, before any start. -/
def FanCtl.handedOver (e : Env) (fc : FanCtl) : FanCtl :=
  applyWanted e.settings (wantedSet e.settings (fc.rotated e.settings))
    (markOutgoing (wantedSet e.settings fc) (wantedSet e.settings (fc.rotated e.settings)) (fc.rotated e.settings))

theorem rotationExpiry_starts {e : Env} {c : Comms} (hs : 1 ≤ c.fan.stage) (hi : c.fan.incoming = none)
    (hspare : spareFan e.settings c.fan = true) :
    Comms.Starts { c with fan := c.fan.handedOver e } (rotationExpiry e c) := by
  have hrotate : rotationExpiry e c =
      rotate e { c with fan := { c.fan with rotationLeft := e.settings.rotationMs } } := by
    simp [rotationExpiry, hs, hi, hspare]
  rw [hrotate]
  exact afterFanChange_starts e _ _

theorem rotationExpiry_of_unspared {e : Env} {c : Comms} (hs : 1 ≤ c.fan.stage)
    (h : c.fan.incoming ≠ none ∨ spareFan e.settings c.fan = false) :
    rotationExpiry e c = { c with fan := { c.fan with rotationLeft := e.settings.rotationMs } } := by
  have hno : (c.fan.incoming.isNone && spareFan e.settings c.fan) = false := by
    obtain hi | hspare := h
    · cases hinc : c.fan.incoming <;> simp_all
    · simp [hspare]
  simp [rotationExpiry, hs, hno]

theorem spareFan_iff {cfg : Settings} {fc : FanCtl} :
    spareFan cfg fc = true ↔ ∃ i, available cfg fc i = true ∧ i ∉ wantedSet cfg fc := by
  simp [spareFan]

/-- A fan as the selection after a rotation leaves it, before any start. -/
theorem handedOver_record (e : Env) (fc : FanCtl) (i : Fin 4) : (fc.handedOver e).fans.get i =
    ({ fc.fans.get i with handover := (fc.fans.get i).handover || (decide (i ∈ wantedSet e.settings fc) &&
        decide (i ∉ wantedSet e.settings (fc.rotated e.settings)) && (fc.fans.get i).driveOn) } : Fan).select
      (stageDuty e.settings fc.stage) (decide (i ∈ wantedSet e.settings (fc.rotated e.settings))) :=
  (Tbl.get_mapIdx ..).trans (congrArg (Fan.select _ _) (markOutgoing_record ..))

/-- A turning fan that is wanted or marked turns on (R41, R53). -/
theorem Fan.select_turning {d : Nat} {w : Bool} {f : Fan} (ht : f.driveOn = true)
    (h : (w || f.handover) = true) : (f.select d w).state = f.state ∧ (f.select d w).handover = f.handover := by
  unfold Fan.driveOn at ht
  unfold Fan.select
  cases hs : f.state <;> simp_all

/-- A turning fan of the wanted set keeps its drive on over a rotation, under a mark where it leaves the set (R53). -/
theorem handedOver_turning {e : Env} {fc : FanCtl} {i : Fin 4} (ht : (fc.fans.get i).driveOn = true)
    (hw : i ∈ wantedSet e.settings fc) : ((fc.handedOver e).fans.get i).state = (fc.fans.get i).state ∧
      (i ∉ wantedSet e.settings (fc.rotated e.settings) → ((fc.handedOver e).fans.get i).handover = true) := by
  rw [handedOver_record]
  obtain ⟨hstate, hmark⟩ := Fan.select_turning (d := stageDuty e.settings fc.stage)
    (w := decide (i ∈ wantedSet e.settings (fc.rotated e.settings)))
    (f := { fc.fans.get i with handover := (fc.fans.get i).handover || (decide (i ∈ wantedSet e.settings fc) &&
      decide (i ∉ wantedSet e.settings (fc.rotated e.settings)) && (fc.fans.get i).driveOn) })
    ht (by by_cases hin : i ∈ wantedSet e.settings (fc.rotated e.settings) <;> simp [hin, hw, ht])
  exact ⟨hstate, fun hout => hmark.trans (by simp [hout, hw, ht])⟩

/-- A rotation leaves a fan available where one was, so it sets no NO_VENT (R40). -/
theorem handedOver_noVent {e : Env} {fc : FanCtl} (h : (List.finRange 4).any (available e.settings fc) = true) :
    (fc.handedOver e).noVent = false := by
  have hany : available e.settings (markOutgoing (wantedSet e.settings fc)
      (wantedSet e.settings (fc.rotated e.settings)) (fc.rotated e.settings)) = available e.settings fc :=
    funext fun i => (available_markOutgoing ..).trans rfl
  have hform : (fc.handedOver e).noVent = (decide (0 < fc.stage) && !(List.finRange 4).any
      (available e.settings (markOutgoing (wantedSet e.settings fc)
        (wantedSet e.settings (fc.rotated e.settings)) (fc.rotated e.settings)))) := rfl
  rw [hform, hany, h]
  simp

/-- Settles O27: the selection after the rotation marks the turning fans that leave the wanted set. -/
theorem rotationPutsTheFirstFanLastUnderHandover : Obligations.RotationPutsTheFirstFanLastUnderHandover := by
  intro s hquiet hvented hstage
  obtain ⟨hvent, hany⟩ := s.vented_iff.mp hvented
  have hexec : exec .rotationTimerExpiry s = done { s with comms := rotationExpiry s.env s.comms } := rfl
  refine ⟨fun hinc hspare => ?_, fun hnone => ?_⟩
  · have hstarts := rotationExpiry_starts (e := s.env) hstage hinc (spareFan_iff.mpr hspare)
    have hv : (rotationExpiry s.env s.comms).fan.noVent = s.comms.fan.noVent :=
      (hstarts.noVent.trans (handedOver_noVent hany)).trans hvent.symm
    rw [hexec]
    refine ⟨_, done_comms hquiet hv hstarts.requests hstarts.bus, rfl, hstarts.lead, hstarts.rotation,
      congrArg FanCounters.rotations hstarts.counters, hstarts.stage, fun i hturn hwanted => ?_⟩
    obtain ⟨hstate, hmark⟩ := handedOver_turning (e := s.env) (fc := s.comms.fan) hturn hwanted
    have hkept : (rotationExpiry s.env s.comms).fanAt i = (s.comms.fan.handedOver s.env).fans.get i := by
      refine hstarts.kept ?_
      have hnot : ((s.comms.fan.handedOver s.env).fans.get i).state ≠ .waitPermit := by
        rw [hstate]
        intro hwait
        have hdrive : (s.comms.fan.fans.get i).driveOn = true := hturn
        unfold Fan.driveOn at hdrive
        rw [hwait] at hdrive
        cases hdrive
      exact hnot
    dsimp only
    rw [hkept]
    refine ⟨hstate, fun hout => hmark ?_⟩
    rw [hstarts.lead] at hout
    exact hout
  · have hunspared : s.comms.fan.incoming ≠ none ∨ spareFan s.env.settings s.comms.fan = false := by
      refine hnone.imp_right fun hall => ?_
      rw [← Bool.not_eq_true]
      intro hspare
      obtain ⟨i, hav, hout⟩ := spareFan_iff.mp hspare
      exact hout (hall i hav)
    rw [hexec, rotationExpiry_of_unspared hstage hunspared]
    exact done_comms hquiet rfl rfl rfl

end Sys2Proof.Machine
end

section
/-! A transmit queue with room: no offer is refused, and what a change of a fan's state then starts. -/

namespace Sys2Proof.Machine

/-! ## Room in the queue (R42, R85, R88) -/

/-- The places taken, with one for a START NOTICE and one for a ZONE REPORT where none of the kind is queued. -/
def Link.reserved (l : Link) : Nat :=
  l.queue.length + (if l.queue.any (fun f => f.payload.isStartNotice) then 0 else 1) + (if l.hasReport then 0 else 1)

/-- The queue takes every notice and report that the station can add to it within `m` places, and holds a frame of the
payload `p`, which no withdrawal takes. -/
structure Comms.Spaced (m : Nat) (p : Option Payload) (c : Comms) : Prop where
  hears : c.link.state ≠ .silent
  places : c.link.reserved ≤ m
  within : m ≤ 8
  holds : ∀ x ∈ p, x.isStartNotice = false ∧ ∃ g ∈ c.link.queue, g.payload = x

/-- The queue takes every notice and report that the station can add to it, and a further frame. -/
abbrev Comms.roomy (c : Comms) : Prop := c.Spaced 7 none

section
variable {m : Nat} {p : Option Payload} {c d : Comms}

theorem Comms.Spaced.length (h : c.Spaced m p) : c.link.queue.length ≤ m := by
  have hplaces := h.places
  unfold Link.reserved at hplaces
  omega

theorem offerFrame_of_place {e : Env} {x : Payload} (hs : c.link.state ≠ .silent) (h : c.link.queue.length ≤ 7) :
    offerFrame e x c = ⟨c.join e x, true, none⟩ := by
  have hplace : c.link.queue.length < Config.queuePlaces := Nat.lt_succ_of_le h
  simp [Machine.offerFrame, hs, hplace]

theorem Comms.Spaced.offerFrame {e : Env} {x : Payload} (h : c.roomy) :
    offerFrame e x c = ⟨c.join e x, true, none⟩ := offerFrame_of_place h.hears h.length

theorem Comms.roomy_of_le (hs : c.link.state ≠ .silent) (h : c.link.queue.length ≤ 5) : c.roomy := by
  refine ⟨hs, ?_, by decide, nofun⟩
  unfold Link.reserved
  split <;> split <;> omega

/-- A change that keeps the queue's frames but for their order. -/
theorem Comms.Spaced.of_perm (h : c.Spaced m p) (hs : d.link.state = c.link.state)
    (hq : d.link.queue.Perm c.link.queue) : d.Spaced m p := by
  obtain ⟨hsilent, hres, hwithin, hholds⟩ := h
  refine ⟨hs ▸ hsilent, ?_, hwithin, fun x hx => ?_⟩
  · unfold Link.reserved Link.hasReport at hres ⊢
    rw [hq.length_eq, hq.any_eq, hq.any_eq]
    exact hres
  · obtain ⟨hnotice, g, hg, hpayload⟩ := hholds x hx
    exact ⟨hnotice, g, hq.mem_iff.mpr hg, hpayload⟩

theorem Comms.Spaced.of_queue (h : c.Spaced m p) (hs : d.link.state = c.link.state)
    (hq : d.link.queue = c.link.queue) : d.Spaced m p := h.of_perm hs (hq ▸ .refl _)

theorem Comms.join_reserved (e : Env) (p : Payload) (c : Comms) : (c.join e p).link.reserved =
    c.link.queue.length + 1 + (if p.isStartNotice || c.hasNotice then 0 else 1) +
      (if p.isReport || c.link.hasReport then 0 else 1) := by
  have hperm := enqueue_perm e.grave ⟨p, 0, true, e.moment, c.draws, false⟩ c.link.queue
  unfold Link.reserved Link.hasReport Comms.hasNotice Comms.join
  dsimp only
  rw [hperm.length_eq, hperm.any_eq, hperm.any_eq]
  rfl

theorem Comms.Spaced.join_holds {e : Env} {y : Payload} (h : c.Spaced m p) :
    ∀ x ∈ p, x.isStartNotice = false ∧ ∃ g ∈ (c.join e y).link.queue, g.payload = x := by
  intro x hx
  obtain ⟨hnotice, g, hg, hpayload⟩ := h.holds x hx
  exact ⟨hnotice, g, (enqueue_perm ..).mem_iff.mpr (List.mem_cons_of_mem _ hg), hpayload⟩

/-- A START NOTICE that joins takes the place kept for it. -/
theorem Comms.Spaced.join_notice {e : Env} {i : Fin 4} (h : c.Spaced m p) (hn : c.hasNotice = false) :
    (c.join e (.startNotice i)).Spaced m p := by
  refine ⟨h.hears, ?_, h.within, h.join_holds⟩
  have hres := h.places
  rw [join_reserved]
  unfold Link.reserved at hres
  unfold hasNotice at hn
  rw [hn] at hres
  simpa [Payload.isStartNotice, Payload.isReport] using hres

theorem Comms.Spaced.join_report {e : Env} (h : c.Spaced m p) (hn : c.link.hasReport = false) :
    (c.join e .report).Spaced m p := by
  refine ⟨h.hears, ?_, h.within, h.join_holds⟩
  have hres := h.places
  rw [join_reserved]
  unfold Link.reserved at hres
  rw [hn] at hres
  have hnotice : (Payload.report.isStartNotice || c.hasNotice) =
      c.link.queue.any (fun f => f.payload.isStartNotice) := rfl
  rw [hnotice]
  simp only [Payload.isReport, Bool.true_or, if_true]
  simp only [Bool.false_eq_true, if_false] at hres
  omega

/-- The first START NOTICE, and the first report, find the place kept for them. -/
theorem Comms.Spaced.offer_notice {e : Env} {i : Fin 4} (h : c.Spaced m p) (hn : c.hasNotice = false) :
    Machine.offerFrame e (.startNotice i) c = ⟨c.join e (.startNotice i), true, none⟩ := by
  refine offerFrame_of_place h.hears ?_
  have hres := h.places
  have hwithin := h.within
  have hnone : ¬(c.link.queue.any fun f => f.payload.isStartNotice) = true := by
    rw [Bool.not_eq_true]
    exact hn
  unfold Link.reserved at hres
  rw [if_neg hnone] at hres
  omega

theorem Comms.Spaced.offer_report {e : Env} (h : c.Spaced m p) (hn : c.link.hasReport = false) :
    Machine.offerFrame e .report c = ⟨c.join e .report, true, none⟩ := by
  refine offerFrame_of_place h.hears ?_
  have hres := h.places
  have hwithin := h.within
  unfold Link.reserved at hres
  rw [hn, if_neg Bool.false_ne_true] at hres
  omega

/-- A START NOTICE that leaves frees its place. -/
theorem withdrawNotice_roomy (h : c.Spaced m p) : (withdrawNotice c).Spaced m p := by
  obtain hsame | ⟨f, before, after, -, hf, hq, hleft⟩ := List.exists_or_eq_self_of_eraseP
    (fun f : Frame => f.payload.isStartNotice && !f.inFlight) c.link.queue
  · exact h.of_queue rfl hsame
  · have hnotice : f.payload.isStartNotice = true := by simp at hf; exact hf.1
    have hleft' : (withdrawNotice c).link.queue = before ++ after := hleft
    refine ⟨h.hears, ?_, h.within, fun x hx => ?_⟩
    · have hres := h.places
      have hnotReport : f.payload.isReport = false := by
        cases hp : f.payload <;> simp_all [Payload.isStartNotice, Payload.isReport]
      unfold Link.reserved Link.hasReport at hres ⊢
      rw [hq] at hres
      rw [hleft']
      simp only [List.any_append, List.any_cons, hnotice, hnotReport, List.length_append, List.length_cons,
        Bool.true_or, Bool.or_true, Bool.false_or, if_true] at hres ⊢
      split <;> omega
    · obtain ⟨hplain, g, hg, hpayload⟩ := h.holds x hx
      have hgf : g ≠ f := by
        rintro rfl
        rw [hpayload, hplain] at hnotice
        cases hnotice
      rw [hq] at hg
      exact ⟨hplain, g, hleft' ▸ by simpa [hgf] using hg, hpayload⟩

theorem startLocally_roomy {e : Env} {i : Fin 4} (h : c.Spaced m p) : (startLocally e i c).Spaced m p :=
  h.of_queue rfl rfl

theorem clearRelease_roomy (h : c.Spaced m p) : (clearRelease c).Spaced m p := h.of_queue (by simp) (by simp)

theorem localStarts_roomy {e : Env} (h : c.Spaced m p) : (localStarts e c).Spaced m p :=
  h.of_queue (by simp) (by simp)

end

/-- The fan controller with some number of deferrals counted. -/
def Comms.DefersOnly (c d : Comms) : Prop :=
  ∃ n, d.fan = { c.fan with counters := { c.fan.counters with noticeDeferred := n } }

theorem Comms.DefersOnly.trans {b c d : Comms} (h : b.DefersOnly c) (k : c.DefersOnly d) : b.DefersOnly d := by
  obtain ⟨n, h⟩ := h
  obtain ⟨m, k⟩ := k
  exact ⟨m, by rw [k, h]⟩

theorem Comms.DefersOnly.of_fan {c d : Comms} (h : d.fan = c.fan) : c.DefersOnly d := ⟨c.fan.counters.noticeDeferred, h⟩

section
variable {m : Nat} {p : Option Payload}

/-- A try on a queue with room moves no fan, and leaves room (R42). -/
theorem tryNotice_of_roomy {n : Nat} {e : Env} {c : Comms} (h : c.Spaced m p) :
    (tryNotice (n + 1) e c).Spaced m p ∧ c.DefersOnly (tryNotice (n + 1) e c) := by
  unfold tryNotice
  split
  next hmay =>
    have hno : c.hasNotice = false := by
      simp only [Comms.mayNotify, Bool.and_eq_true, Bool.not_eq_true'] at hmay
      exact hmay.1.2
    split
    · exact ⟨h, .of_fan rfl⟩
    · split
      · rw [h.offer_notice hno]
        exact ⟨h.join_notice hno, .of_fan rfl⟩
      · exact ⟨h.of_queue rfl rfl, _, rfl⟩
  next => exact ⟨h, .of_fan rfl⟩

theorem tryTimes_of_roomy {e : Env} : ∀ {k : Nat} {c : Comms}, c.Spaced m p →
    (tryTimes k e c).Spaced m p ∧ c.DefersOnly (tryTimes k e c)
  | 0, _, h => ⟨h, .of_fan rfl⟩
  | _ + 1, _, h =>
    have hone := tryNotice_of_roomy (n := 2) h
    have hrest := tryTimes_of_roomy hone.1
    ⟨hrest.1, hone.2.trans hrest.2⟩

/-- The bus side with a stranded notice withdrawn. -/
def Comms.unstranded (c : Comms) : Comms := if c.noticeStranded then withdrawNotice c else c

theorem Comms.unstranded_fan (c : Comms) : c.unstranded.fan = c.fan ∧ c.unstranded.link.state = c.link.state := by
  unfold Comms.unstranded
  split <;> exact ⟨rfl, rfl⟩

theorem Comms.unstranded_roomy {c : Comms} (h : c.Spaced m p) : c.unstranded.Spaced m p := by
  unfold Comms.unstranded
  split
  · exact withdrawNotice_roomy h
  · exact h

/-- After a change of fans on a queue with room: the local starts, and no others (R45, R46). -/
theorem afterFanChange_of_roomy {e : Env} {old c : Comms} (h : c.Spaced m p) :
    (afterFanChange e old c).Spaced m p ∧ (localStarts e c.unstranded).DefersOnly (afterFanChange e old c) :=
  tryTimes_of_roomy (localStarts_roomy (Comms.unstranded_roomy h))

theorem reportEvent_roomy {e : Env} {c : Comms} (h : c.Spaced m p) : (reportEvent e c).Spaced m p := by
  unfold reportEvent
  split
  · exact h
  · split
    · unfold foldReport
      split <;> exact h.of_queue rfl rfl
    next hno =>
      split
      · exact h.of_queue rfl rfl
      · unfold offerReport
        have hnone : c.link.hasReport = false := by simpa using hno
        rw [h.offer_report hnone]
        exact (h.join_report hnone).of_queue rfl rfl

theorem Comms.Reported.roomy {c d : Comms} (h : c.Reported d) (hc : c.Spaced m p) : d.Spaced m p := by
  induction h with
  | refl => exact hc
  | tail _ hlast ih =>
    obtain ⟨e, rfl⟩ := hlast
    exact reportEvent_roomy ih

theorem select_roomy {e : Env} {c : Comms} (h : c.Spaced m p) : (select e c).Spaced m p :=
  (afterFanChange_of_roomy (e := e) (old := c) (h.of_queue (d := { c with fan := c.fan.selected e }) rfl rfl)).1

theorem setStage_roomy {e : Env} {n : Nat} {c : Comms} (h : c.Spaced m p) : (setStage e n c).Spaced m p :=
  reportEvent_roomy (select_roomy (h.of_queue rfl rfl))

theorem reworkDemand_roomy {e : Env} {c : Comms} (h : c.Spaced m p) : (reworkDemand e c).Spaced m p := by
  rw [reworkDemand_cases]
  split
  · exact h
  · exact setStage_roomy h

end

theorem State.setZone_roomy {s : State} (h : s.comms.roomy) (st : ZoneState) : (s.setZone st).comms.roomy := by
  have hreorder (e : Env) : (reorderQueue e s.comms).roomy := h.of_perm rfl (reorder_perm _ _)
  have hentered : (s.zoneEntered st).comms.roomy := by
    unfold State.zoneEntered
    dsimp only
    split
    · exact h
    · exact hreorder _
  have hlit : (s.zoneLit st).comms.roomy := by
    have hsame : (s.zoneLit st).comms = ((s.zoneEntered st).reformIndicators.arrivalsZoneChange s.grave).comms := by
      simp [State.zoneLit]
    rw [hsame]
    exact ((s.zoneEntered st).reformIndicators.arrivalsZoneChange_reported s.grave).roomy hentered
  exact reportEvent_roomy (reworkDemand_roomy ((s.zoneLit st).reformGuide_reported.roomy hlit))

theorem State.evaluate_roomy {s : State} (h : s.comms.roomy) : s.evaluate.comms.roomy := by
  unfold State.evaluate
  split
  · exact h
  · exact State.setZone_roomy h _

theorem State.ventSettle_roomy {s : State} (h : s.comms.roomy) : s.ventSettle.comms.roomy := by
  unfold State.ventSettle
  split
  · exact State.evaluate_roomy (s := { s with zone := { s.zone with ventCause := s.comms.fan.noVent } }) h
  · exact h

end Sys2Proof.Machine
end

section
/-! The responder at a station ready to answer: O55, O57 to O59, and O42. -/

namespace Sys2Proof.Machine

/-! ## A request taken at once (R175) -/

/-- The station with its clock line released, as the responder finds it when it takes the only request. -/
def State.lineReleased (s : State) : State :=
  { s with comms := { s.comms with link := s.comms.link.endStretch } }

/-- The outcome of a request that the responder takes at once and answers `a`: NO_VENT told, the request kept with its
reply, and the reply offered. -/
def Answered.kept (a : Answered) (r : Request) : State :=
  (a.state.ventSettle.keepCurrent r (replyOf r.kind a.result a.data)).onComms fun e c =>
    offer e (.reply (replyOf r.kind a.result a.data)) c

theorem State.ready_iff (s : State) : s.ready = true ↔
    s.quiet = true ∧ s.mayServe = true ∧ s.comms.link.state ≠ .silent ∧ s.comms.link.queue.length < 8 := by
  simp [State.ready, and_assoc]

/-- A ready station answers a request in the step in which it comes (R175). -/
theorem done_requested {s : State} (h : s.ready = true) {kind argument : Byte} {data : List Byte} {a : Answered}
    (ha : s.lineReleased.answer ⟨kind, argument, data⟩ = a)
    (hbus : a.state.comms.link.busFreeCount = s.comms.link.busFreeCount) :
    done (s.requested kind argument data) =
      .next { a.kept ⟨kind, argument, data⟩ with moment := s.moment + 1 } := by
  obtain ⟨hquiet, hserve, -, -⟩ := s.ready_iff.mp h
  obtain ⟨htold, hqueue, hbusy⟩ := s.quiet_iff.mp hquiet
  have hcomms : (s.requested kind argument data).comms =
      { s.comms with service := { s.comms.service with queue := [⟨kind, argument, data⟩] } } := by
    simp [State.requested, Comms.enterRequest, Service.hasPlace, hqueue, Config.servicePlaces]
  have hrequested : s.requested kind argument data =
      { s with comms := { s.comms with service := { s.comms.service with queue := [⟨kind, argument, data⟩] } } } :=
    congrArg (fun c => { s with comms := c }) hcomms
  rw [hrequested]
  generalize hu : ({ s with
    comms := { s.comms with service := { s.comms.service with queue := [⟨kind, argument, data⟩] } } } : State) = u
  have huq : u.comms.service.queue = [⟨kind, argument, data⟩] := by rw [← hu]
  have hvent : u.ventSettle = u := by
    refine State.ventSettle_of_told ?_
    rw [← hu]
    have htold' : s.ventTold = true := by
      unfold State.ventTold
      cases ho : s.operating <;> simp_all
    exact htold'
  have hmay : u.mayServe = true := by rw [← hu]; exact hserve
  have hpopped : u.popRequest [] = s.lineReleased := by
    rw [← hu]
    unfold State.popRequest State.lineReleased
    dsimp only
    rw [← hqueue]
  have hpump : u.pumpService = a.kept ⟨kind, argument, data⟩ := by
    unfold State.pumpService
    rw [huq]
    have hone : pump 1 u = u.serve ⟨kind, argument, data⟩ [] := by
      unfold pump
      rw [if_pos hmay, huq]
      rfl
    refine hone.trans ?_
    unfold State.serve
    rw [hpopped, ha]
    rfl
  have hlink : (a.kept ⟨kind, argument, data⟩).comms.link.busFreeCount ≠ Config.busFreeBits := by
    have hkept : (a.kept ⟨kind, argument, data⟩).comms.link.busFreeCount =
        a.state.ventSettle.comms.link.busFreeCount := (offer_starts ..).bus
    rw [hkept, State.ventSettle_bus, hbus]
    exact hbusy
  refine (done_of_settle (u := a.kept ⟨kind, argument, data⟩) ?_).trans ?_
  · unfold State.settle
    rw [hvent, hpump, State.linkSettle_of_busy hlink]
  · rw [← hu]

/-- A frame offered to a queue with a place joins it, and nothing is dropped (R85). -/
theorem offer_of_room {e : Env} {p : Payload} {c : Comms} (hs : c.link.state ≠ .silent)
    (hq : c.link.queue.length < Config.queuePlaces) : offer e p c = c.join e p := by
  simp [offer, offerFrame, hs, hq, dropEnds]

/-- An answer that leaves the bus side as it stands but for the responder, and NO_VENT told: the reply joins the
queue. -/
theorem done_answered {s : State} (h : s.ready = true) {kind argument : Byte} {data : List Byte} {a : Answered}
    {w : Service} (ha : s.lineReleased.answer ⟨kind, argument, data⟩ = a)
    (hcomms : a.state.comms = { s.lineReleased.comms with service := w })
    (hmode : a.state.mode = s.mode) (hzone : a.state.zone = s.zone) (hmoment : a.state.moment = s.moment) :
    done (s.requested kind argument data) = .next { a.state with
      comms := { (s.replied ⟨kind, argument, data⟩ (replyOf kind a.result a.data)).comms with
        service := { w with current := some ⟨⟨kind, argument, data⟩, replyOf kind a.result a.data⟩ } }
      moment := s.moment + 1 } := by
  obtain ⟨hquiet, -, hsilent, hroom⟩ := s.ready_iff.mp h
  obtain ⟨htold, -, -⟩ := s.quiet_iff.mp hquiet
  have hvent : a.state.ventSettle = a.state := by
    refine State.ventSettle_of_told ?_
    unfold State.ventTold State.operating
    rw [hcomms, hmode, hzone]
    have htold' : s.operating = true → s.zone.ventCause = s.lineReleased.comms.fan.noVent := htold
    unfold State.operating at htold'
    by_cases hm : s.mode = .operating <;> simp_all
  have hreply : (a.kept ⟨kind, argument, data⟩).comms =
      { (s.replied ⟨kind, argument, data⟩ (replyOf kind a.result a.data)).comms with
        service := { w with current := some ⟨⟨kind, argument, data⟩, replyOf kind a.result a.data⟩ } } := by
    unfold Answered.kept
    rw [hvent]
    have hjoin := offer_of_room (e := (a.state.keepCurrent ⟨kind, argument, data⟩ (replyOf kind a.result a.data)).env)
      (p := .reply (replyOf kind a.result a.data))
      (c := (a.state.keepCurrent ⟨kind, argument, data⟩ (replyOf kind a.result a.data)).comms)
      (by unfold State.keepCurrent; dsimp only; rw [hcomms]; exact hsilent)
      (by unfold State.keepCurrent; dsimp only; rw [hcomms]; exact hroom)
    refine hjoin.trans ?_
    unfold State.keepCurrent Comms.join State.env State.grave
    dsimp only
    rw [hcomms, hmoment, hzone]
    rfl
  rw [done_requested h ha (by rw [hcomms]; rfl), ← hreply]
  unfold Answered.kept
  rw [hvent]
  rfl

/-- An answer without an effect: the reply alone follows. -/
theorem done_plain {s : State} (h : s.ready = true) {kind argument : Byte} {data : List Byte} {r : ResultCode}
    {d : List Byte} (ha : s.lineReleased.answer ⟨kind, argument, data⟩ = ⟨s.lineReleased, r, d⟩) :
    done (s.requested kind argument data) = .next (s.replied ⟨kind, argument, data⟩ (replyOf kind r d)) :=
  done_answered (w := s.comms.service) h ha rfl rfl rfl rfl

/-! ## Queries and unknown kinds (R175 to R177) -/

/-- A request kind without a meaning (R175). -/
theorem State.answer_of_unknown (s : State) {r : Request} (h : r.kind.toNat = 0 ∨ 14 ≤ r.kind.toNat) :
    s.answer r = s.plain .badIndex := by
  unfold State.answer
  split
  case h_14 => rfl
  all_goals omega

theorem replyDataLength_of_unknown {k : Byte} (h : k.toNat = 0 ∨ 14 ≤ k.toNat) : replyDataLength k = 0 := by
  have hne (n : Byte) (hn : 1 ≤ n.toNat ∧ n.toNat ≤ 13) : k ≠ n := by
    rintro rfl
    omega
  unfold replyDataLength
  rw [if_neg (not_or.mpr ⟨hne 1 (by decide), hne 2 (by decide)⟩), if_neg (hne 12 (by decide)),
    if_neg (hne 13 (by decide))]

theorem State.statusPart_cases (s : State) (a : Byte) : s.answerData (s.statusPart a.toNat) =
    if a = 0 then ⟨s, .done, s.statusPart0⟩ else if a = 1 then ⟨s, .done, s.statusPart1⟩
      else if a = 2 then ⟨s, .done, s.statusPart2⟩ else ⟨s, .badIndex, []⟩ := by
  have hiff (n : Byte) : (a = n) = (a.toNat = n.toNat) := propext BitVec.toNat_inj.symm
  unfold State.statusPart
  simp only [hiff]
  split_ifs <;> simp_all [State.answerData, State.plain]

/-- A counter group that COUNTER QUERY reads as 0 in COMMISSION: any but LINK and STORE (R177). -/
theorem State.counterGroups_read (s : State) (g : Fin 11) (hlink : g.val ≠ 3) (hstore : g.val ≠ 10) :
    ∃ l, s.counterGroups[g.val]? = some (s.readGroup l) :=
  match g, hlink, hstore with
  | 0, _, _ | 1, _, _ | 2, _, _ | 4, _, _ | 5, _, _ | 6, _, _ | 7, _, _ | 8, _, _ | 9, _, _ => ⟨_, rfl⟩
  | 3, h, _ => absurd rfl h
  | 10, _, h => absurd rfl h

theorem State.counterPage_of_group {s : State} {g page : Nat} {l : List Nat} (h : s.counterGroups[g]? = some l) :
    s.counterPage g page = if page = 0 ∨ 6 * page < l.length then some (pageOf l page) else none := by
  unfold State.counterPage
  rw [h]
  dsimp only
  split
  · rw [if_neg (by omega)]
  · rw [if_pos (by omega)]

theorem State.counterPage_of_none {s : State} {g page : Nat} (h : 11 ≤ g) : s.counterPage g page = none := by
  have hnone : s.counterGroups[g]? = none := List.getElem?_eq_none h
  unfold State.counterPage
  rw [hnone]

theorem pageOf_eq (l : List Nat) (b : Nat) : pageOf l b = (List.range 6).flatMap fun j =>
    [byte (l.getD (6 * b + j) 0 / 256), byte (l.getD (6 * b + j) 0)] := rfl

/-- Settles O55, by the kinds of request. -/
theorem queriesAndUnknownKindsChangeNothing : Obligations.QueriesAndUnknownKindsChangeNothing := by
  intro a b s hready
  refine ⟨?_, fun ho g hlink hstore counters hcounters => ?_, fun g hg counters hcounters => ?_, fun hg => ?_, fun hb => ?_⟩
  · have hcases := s.lineReleased.statusPart_cases a
    by_cases h0 : a = 0
    · subst h0
      exact done_plain hready hcases
    by_cases h1 : a = 1
    · subst h1
      exact done_plain hready hcases
    by_cases h2 : a = 2
    · subst h2
      exact done_plain hready hcases
    rw [if_neg h0, if_neg h1, if_neg h2] at hcases ⊢
    exact done_plain hready hcases
  · intro n hn
    obtain ⟨l, hl⟩ := s.counterGroups_read g hlink hstore
    have hcounters : s.readGroup l = counters := Option.some.inj (hl.symm.trans hcounters)
    exact State.eq_zero_of_mem_readGroup ho (hcounters ▸ hn)
  · have hpage : s.lineReleased.counterPage a.toNat b.toNat = if b.toNat = 0 ∨ 6 * b.toNat < counters.length
        then some (pageOf counters b.toNat) else none := by
      rw [hg]
      exact State.counterPage_of_group hcounters
    have hzero : b = 0 ↔ b.toNat = 0 := (BitVec.toNat_inj (y := 0)).symm
    have hanswer : s.lineReleased.answer ⟨2, a, [b]⟩ =
        s.lineReleased.answerData (s.lineReleased.counterPage a.toNat b.toNat) := rfl
    rw [hpage] at hanswer
    split
    next hb =>
      rw [if_pos (hb.imp_left hzero.mp)] at hanswer
      exact done_plain hready hanswer
    next hb =>
      rw [if_neg fun hor => hb (hor.imp_left hzero.mpr)] at hanswer
      exact done_plain hready hanswer
  · have hnone : s.lineReleased.counterPage a.toNat b.toNat = none := State.counterPage_of_none hg
    exact done_plain hready (congrArg s.lineReleased.answerData hnone)
  · have hplain := done_plain hready (s.lineReleased.answer_of_unknown (r := ⟨b, a, []⟩) hb)
    have hreply : replyOf b .badIndex [] = ⟨b, .badIndex, []⟩ := by
      simp [replyOf, replyDataLength_of_unknown hb]
    rw [hreply] at hplain
    exact hplain

end Sys2Proof.Machine
end

section
/-! Heads, detectors and the store cleared and written over the bus: O57 to O59, and O42. -/

namespace Sys2Proof.Machine

/-! ## What a byte names (R16, R51, R54, R115) -/

section
variable {n : Nat} {x : Byte} {p : Fin n → Bool}

theorem indexOf_filter_of_some {i : Fin n} (h : x.toNat = i.val) (hp : p i = true) :
    (indexOf n x).filter p = some i := by
  have hi : indexOf n x = some i := by
    unfold indexOf
    rw [dif_pos (h ▸ i.isLt)]
    exact congrArg some (Fin.ext h)
  rw [hi]
  simp [hp]

theorem indexOf_filter_of_none (h : ∀ i : Fin n, x.toNat = i.val → p i = false) : (indexOf n x).filter p = none := by
  unfold indexOf
  split
  next hlt => simp [Option.filter, h ⟨x.toNat, hlt⟩ rfl]
  next => rfl

end

/-! ## Heads (R16) -/

section
variable {s : State} {x : Byte}

theorem State.answerClearHead_of_none (ho : s.operating = true) (h : s.settings.headOf x = none) :
    s.answerClearHead x = s.plain .badIndex := by
  simp [State.answerClearHead, ho, h]

theorem State.answerClearHead_of_faulted (ho : s.operating = true) {h : Fin 4} (hh : s.settings.headOf x = some h)
    (hf : (s.gas.heads.get h).faulted = true) : s.answerClearHead x =
      (s.onGas fun g => g.setHead h ((g.heads.get h).clear (s.settings.heads.get h).zc)).plain .done := by
  simp [State.answerClearHead, ho, hh, hf]

theorem State.answerClearHead_of_sound (ho : s.operating = true) {h : Fin 4} (hh : s.settings.headOf x = some h)
    (hf : (s.gas.heads.get h).faulted = false) : s.answerClearHead x = s.plain .notFaulted := by
  simp [State.answerClearHead, ho, hh, hf]

/-! ## Detectors (R115) -/

theorem State.answerClearDetector_bay (ho : s.operating = true) : s.answerClearDetector x 0 = s.answerClearBay x := by
  simp [State.answerClearDetector, ho]

theorem State.answerClearDetector_lane (ho : s.operating = true) : s.answerClearDetector x 1 = s.answerClearLane x := by
  simp [State.answerClearDetector, ho]

theorem State.answerClearDetector_other (ho : s.operating = true) {d : Byte} (h0 : d ≠ 0) (h1 : d ≠ 1) :
    s.answerClearDetector x d = s.plain .badIndex := by
  unfold State.answerClearDetector
  rw [ho]
  exact (if_neg (by simp)).trans ((if_neg h0).trans (if_neg h1))

theorem State.answerClearBay_of_none (h : s.settings.bayOf x = none) : s.answerClearBay x = s.plain .badIndex := by
  simp [State.answerClearBay, h]

theorem State.answerClearLane_of_none (h : s.settings.laneOf x = none) : s.answerClearLane x = s.plain .badIndex := by
  simp [State.answerClearLane, h]

theorem State.answerClearBay_of_some {b : Fin 48} (h : s.settings.bayOf x = some b) : s.answerClearBay x =
    if s.bayState b = .fault then (s.clearBay b).plain .done else s.plain .notFaulted := by
  simp [State.answerClearBay, h]

theorem State.answerClearLane_of_some {p : Fin 4} (h : s.settings.laneOf x = some p) : s.answerClearLane x =
    if (s.laneAt p).state = .fault then (s.startLane p (s.laneAt p).loops).plain .done else s.plain .notFaulted := by
  simp [State.answerClearLane, h]

end

/-- A bay cleared of its fault (R115). -/
theorem State.clearBay_eq (s : State) (b : Fin 48) : ∃ y : Bay,
    s.clearBay b = { s with scanner := { s.scanner with bays := s.scanner.bays.set b y } } ∧
    y.state = .unknown ∧ y.candidate = none ∧ y.agreeing = 0 ∧ y.noAnswer = 0 ∧ y.indicator = .dark := by
  refine ⟨_, rfl, rfl, rfl, rfl, rfl, ?_⟩
  show indicatorOf s.grave (s.settings.bays.get b).cls .unknown = .dark
  unfold indicatorOf
  split <;> rfl

theorem State.presenceStart_eq (s : State) (k : Option (Fin 8)) :
    s.presenceStart k = { s with lamps := (s.presenceStart k).lamps } := by
  cases k <;> rfl

theorem State.laneAt_setLane (s : State) (p : Fin 4) (l : Lane) : (s.setLane p l).laneAt p = l := Tbl.get_set_self ..

theorem State.setLane_setLane (s : State) (p : Fin 4) (l m : Lane) : (s.setLane p l).setLane p m = s.setLane p m := by
  unfold State.setLane
  dsimp only
  rw [Tbl.set_set]

theorem State.presenceBegins_setLane (s : State) (p : Fin 4) (l : Lane) : ∃ lamps : Lamps,
    (s.setLane p l).presenceBegins p =
      { s.setLane p { l with presence := s.settings.queueTimer } with lamps := lamps } := by
  unfold State.presenceBegins
  rw [State.presenceStart_eq, State.laneAt_setLane, State.setLane_setLane]
  exact ⟨_, rfl⟩

/-- A lane that starts to decode from its levels (R110, R115). -/
theorem State.startLane_eq (s : State) (p : Fin 4) (loops : Loops) : ∃ lamps : Lamps,
    s.startLane p loops = { s with
      scanner := { s.scanner with lanes := s.scanner.lanes.set p ⟨loops, .clear,
        if anyActive loops then .running (1000 * s.settings.queueTime) else .stopped, false,
        if loops.a then .running 300000 else .stopped, if loops.b then .running 300000 else .stopped⟩ }
      lamps := lamps } ∧
    (anyActive loops = false → lamps = s.lamps) := by
  unfold State.startLane
  dsimp only
  split
  next hactive =>
    obtain ⟨lamps, hbegins⟩ := s.presenceBegins_setLane p
      ⟨loops, .clear, .stopped, false, stuckTimer loops.a, stuckTimer loops.b⟩
    refine ⟨lamps, hbegins.trans ?_, fun hidle => absurd hactive (by simp [hidle])⟩
    rfl
  next hidle => exact ⟨_, rfl, fun _ => rfl⟩

/-- Settles O57, by what the argument names and whether that is in fault. -/
theorem headsAndDetectorsAreCleared : Obligations.HeadsAndDetectorsAreCleared := by
  intro x h p b s hready
  refine ⟨fun ho => ⟨?_, fun d => ?_⟩, fun ho => ⟨fun hnone => ?_, fun hnone => ?_, fun hnone => ?_,
    fun d h0 h1 => ?_⟩, fun ho hx hpresent => ⟨fun hf => ?_, fun hf => ?_⟩,
    fun ho hx huse hopen => ⟨fun hf => ?_, fun hf => ?_⟩, fun ho hx howned => ⟨fun hf => ?_, fun hf => ?_⟩⟩
  · have hanswer : s.lineReleased.answerClearHead x = s.lineReleased.plain .wrongMode :=
      if_pos (by rw [Bool.not_eq_true']; exact ho)
    exact done_plain hready hanswer
  · have hanswer : s.lineReleased.answerClearDetector x d = s.lineReleased.plain .wrongMode :=
      if_pos (by rw [Bool.not_eq_true']; exact ho)
    exact done_plain hready hanswer
  · exact done_plain hready (State.answerClearHead_of_none (s := s.lineReleased) ho (indexOf_filter_of_none hnone))
  · have hbay : s.settings.bayOf x = none := indexOf_filter_of_none fun c hc => by
      have hgone := hnone c hc
      rcases hgone with h | h <;> simp [h]
    exact done_plain hready ((State.answerClearDetector_bay (s := s.lineReleased) ho).trans
      (State.answerClearBay_of_none (s := s.lineReleased) hbay))
  · exact done_plain hready ((State.answerClearDetector_lane (s := s.lineReleased) ho).trans
      (State.answerClearLane_of_none (indexOf_filter_of_none hnone)))
  · exact done_plain hready (State.answerClearDetector_other (s := s.lineReleased) ho h0 h1)
  · have hanswer := State.answerClearHead_of_faulted (s := s.lineReleased) ho (indexOf_filter_of_some hx hpresent) hf
    refine ⟨_, done_answered (w := s.comms.service) hready hanswer rfl rfl rfl rfl, rfl, ?_, fun k hk => ?_⟩
    · show ((s.gas.setHead h _).arbitrate s.settings).heads.get h = _
      rw [GasFront.arbitrate_heads]
      exact GasFront.setHead_get_self ..
    · show ((s.gas.setHead h _).arbitrate s.settings).heads.get k = _
      rw [GasFront.arbitrate_heads]
      exact GasFront.setHead_get_ne _ hk
  · exact done_plain hready (State.answerClearHead_of_sound (s := s.lineReleased) ho
      (indexOf_filter_of_some hx hpresent) hf)
  · have hbay : s.settings.bayOf x = some b := indexOf_filter_of_some hx (by simp [huse, hopen])
    have hanswer := (State.answerClearDetector_bay (s := s.lineReleased) ho).trans
      ((State.answerClearBay_of_some (s := s.lineReleased) hbay).trans (if_pos hf))
    obtain ⟨y, hy, hfields⟩ := s.lineReleased.clearBay_eq b
    rw [hy] at hanswer
    refine ⟨_, done_answered (w := s.comms.service) hready hanswer rfl rfl rfl rfl, ?_⟩
    have hget : (s.scanner.bays.set b y).get b = y := Tbl.get_set_self ..
    refine ⟨congrArg (fun z => { s.replied ⟨7, x, [0]⟩ ⟨7, .done, []⟩ with
      scanner := { s.scanner with bays := s.scanner.bays.set b z } }) hget.symm, ?_⟩
    rw [← hget] at hfields
    exact hfields
  · have hbay : s.settings.bayOf x = some b := indexOf_filter_of_some hx (by simp [huse, hopen])
    exact done_plain hready ((State.answerClearDetector_bay (s := s.lineReleased) ho).trans
      ((State.answerClearBay_of_some (s := s.lineReleased) hbay).trans (if_neg hf)))
  · have hanswer := (State.answerClearDetector_lane (s := s.lineReleased) ho).trans
      ((State.answerClearLane_of_some (s := s.lineReleased) (indexOf_filter_of_some hx howned)).trans (if_pos hf))
    obtain ⟨lamps, hlane, hlamps⟩ := s.lineReleased.startLane_eq p (s.laneAt p).loops
    have hloops : s.lineReleased.startLane p (s.lineReleased.laneAt p).loops =
      s.lineReleased.startLane p (s.laneAt p).loops := rfl
    rw [hloops, hlane] at hanswer
    refine ⟨_, done_answered (w := s.comms.service) hready hanswer rfl rfl rfl rfl, ?_, ?_, hlamps⟩
    · exact congrArg (fun l => { s.replied ⟨7, x, [1]⟩ ⟨7, .done, []⟩ with
        scanner := { s.scanner with lanes := s.scanner.lanes.set p l }, lamps := lamps }) (Tbl.get_set_self ..).symm
    · exact Tbl.get_set_self ..
  · exact done_plain hready ((State.answerClearDetector_lane (s := s.lineReleased) ho).trans
      ((State.answerClearLane_of_some (s := s.lineReleased) (indexOf_filter_of_some hx howned)).trans (if_neg hf)))

end Sys2Proof.Machine
end

section
/-! The store over the bus, the ends of its writes, and a request that waits: O58, O59 and O42. -/

namespace Sys2Proof.Machine

/-! ## The staging buffer (R170) -/

theorem Image.setByte_get (im : Image) (i : Nat) (x : Byte) (j : Fin 512) :
    (Image.setByte im i x).get j = if j.val = i then x else im.get j := by
  unfold Image.setByte Tbl.get
  simp only [List.getElem_set, eq_comm]

/-- What the image holds once bytes are put in from an offset. -/
theorem Image.setChunk_get : ∀ (l : List Byte) (im : Image) (o : Nat) (j : Fin 512),
    (Image.setChunk im o l).get j = if o ≤ j.val then l.getD (j.val - o) (im.get j) else im.get j
  | [], im, o, j => by simp [Image.setChunk]
  | x :: rest, im, o, j => by
    rw [Image.setChunk, Image.setChunk_get rest, Image.setByte_get]
    obtain hlt | heq | hgt := Nat.lt_trichotomy j.val o
    · have hout : ¬o + 1 ≤ j.val ∧ j.val ≠ o ∧ ¬o ≤ j.val := by omega
      simp [hout]
    · simp [heq]
    · have hin : o + 1 ≤ j.val ∧ j.val ≠ o ∧ o ≤ j.val := by omega
      have hnext : j.val - o = (j.val - (o + 1)) + 1 := by omega
      simp only [hin, if_true, if_false]
      rw [hnext]
      rfl

theorem offsetOk_iff {x : Byte} : offsetOk (offsetOf x) = true ↔ x.toNat % 2 = 0 ∧ x.toNat ≤ 126 := by
  unfold offsetOk offsetOf
  simp only [Bool.and_eq_true, decide_eq_true_eq]
  omega

section
variable {s : State} {x : Byte} {d : List Byte}

theorem State.answerWrite_of_operating (ho : s.operating = true) : s.answerWrite x d = s.plain .wrongMode := if_pos ho

theorem State.answerWrite_of_bad (ho : s.operating = false) (hx : offsetOk (offsetOf x) = false) :
    s.answerWrite x d = s.plain .badIndex := by
  simp [State.answerWrite, ho, hx]

theorem State.answerWrite_of_busy (ho : s.operating = false) (hx : offsetOk (offsetOf x) = true)
    (hb : s.store.busy = true) : s.answerWrite x d = s.plain .busy := by
  simp [State.answerWrite, ho, hx, hb]

/-- The station with bytes put into its staging buffer. -/
def State.staged (s : State) (x : Byte) (d : List Byte) : State :=
  { s with store := { s.store with staging := Image.setChunk s.store.staging (offsetOf x) (d.take 8) } }

theorem State.answerWrite_of_ready (ho : s.operating = false) (hx : offsetOk (offsetOf x) = true)
    (hb : s.store.busy = false) : s.answerWrite x d = (s.staged x d).plain .done := by
  simp [State.answerWrite, ho, hx, hb, State.staged]

theorem State.answerRead_of_bad (hx : offsetOk (offsetOf x) = false) : s.answerRead x = s.plain .badIndex := by
  simp [State.answerRead, hx]

theorem State.answerRead_of_ready (hx : offsetOk (offsetOf x) = true) (h : s.operating = true ∨ s.store.busy = false) :
    s.answerRead x = ⟨s, .done,
      Image.chunk (if s.operating then s.store.loaded else s.store.staging) (offsetOf x)⟩ := by
  unfold State.answerRead
  cases ho : s.operating <;> simp_all

theorem State.answerRead_of_busy (hx : offsetOk (offsetOf x) = true) (ho : s.operating = false)
    (hb : s.store.busy = true) : s.answerRead x = s.plain .busy := by
  simp [State.answerRead, hx, ho, hb]

theorem State.answerCommit_of_operating (ho : s.operating = true) : s.answerCommit = s.plain .wrongMode := if_pos ho

theorem State.answerCommit_of_busy (ho : s.operating = false) (hb : s.store.busy = true) :
    s.answerCommit = s.plain .busy := by
  simp [State.answerCommit, ho, hb]

theorem State.answerCommit_of_error (ho : s.operating = false) (hb : s.store.busy = false)
    (he : s.store.writeError = true) : s.answerCommit = s.plain .storeError := by
  simp [State.answerCommit, ho, hb, he]

theorem State.answerCommit_of_valid (ho : s.operating = false) (hb : s.store.busy = false)
    (he : s.store.writeError = false) (hf : firstFailure s.store.staging = none) : s.answerCommit =
      ⟨{ s with store := { s.store with status := .commitWrite } }, .done, [0, 0]⟩ := by
  simp [State.answerCommit, ho, hb, he, hf]

theorem State.answerCommit_of_refused (ho : s.operating = false) (hb : s.store.busy = false)
    (he : s.store.writeError = false) {o : Nat} (hf : firstFailure s.store.staging = some o) : s.answerCommit =
      ⟨s.countStore fun k => { k with configRefused := bump k.configRefused }, .badConfig, word16 o⟩ := by
  simp [State.answerCommit, ho, hb, he, hf]

end

/-- Settles O58, by the kinds of request and the store's state. -/
theorem storeRequestsAndRestartAreAnswered : Obligations.StoreRequestsAndRestartAreAnswered := by
  intro x data s hready
  have hbad (h : x.toNat % 2 = 1 ∨ 126 < x.toNat) : offsetOk (offsetOf x) = false := by
    rw [← Bool.not_eq_true, offsetOk_iff]
    omega
  have hgood (h : x.toNat % 2 = 0) (h' : x.toNat ≤ 126) : offsetOk (offsetOf x) = true := offsetOk_iff.mpr ⟨h, h'⟩
  refine ⟨?_, ?_, fun ho => ⟨?_, ?_⟩, fun hx => ?_, fun heven hle hor => ?_, fun ho hx => ?_,
    fun ho hb => ⟨?_, fun heven hle => ⟨?_, ?_⟩⟩, fun ho hb he => ?_, fun ho hb heven hle => ?_,
    fun ho hb he => ⟨fun hnone => ?_, fun o ho' => ?_⟩⟩
  · have hanswer : s.lineReleased.answer ⟨8, 0, []⟩ = s.lineReleased.answerClearStore := rfl
    unfold State.answerClearStore at hanswer
    split
    next hb =>
      exact done_plain hready (hanswer.trans (if_pos hb))
    next hb =>
      have hstep := hanswer.trans (if_neg hb)
      split
      next he => exact done_answered (w := s.comms.service) hready (hstep.trans (if_pos he)) rfl rfl rfl rfl
      next he => exact done_plain hready (hstep.trans (if_neg he))
  · obtain ⟨hquiet, -⟩ := s.ready_iff.mp hready
    obtain ⟨-, hqueue, -⟩ := s.quiet_iff.mp hquiet
    have hanswer : s.lineReleased.answer ⟨10, 0, []⟩ = s.lineReleased.answerRestart := rfl
    have hdone := done_answered (w := ⟨s.comms.service.queue, s.comms.service.current, true⟩) hready hanswer
      rfl rfl rfl rfl
    rw [hqueue] at hdone
    exact ⟨_, hdone, rfl⟩
  · exact done_plain hready (State.answerWrite_of_operating (s := s.lineReleased) ho)
  · exact done_plain hready (State.answerCommit_of_operating (s := s.lineReleased) ho)
  · exact done_plain hready (State.answerRead_of_bad (s := s.lineReleased) (hbad hx))
  · exact done_plain hready (State.answerRead_of_ready (s := s.lineReleased) (hgood heven hle) hor)
  · exact done_plain hready (State.answerWrite_of_bad (s := s.lineReleased) ho (hbad hx))
  · exact done_plain hready (State.answerCommit_of_busy (s := s.lineReleased) ho hb)
  · exact done_plain hready (State.answerWrite_of_busy (s := s.lineReleased) ho (hgood heven hle) hb)
  · exact done_plain hready (State.answerRead_of_busy (s := s.lineReleased) (hgood heven hle) ho hb)
  · exact done_plain hready (State.answerCommit_of_error (s := s.lineReleased) ho hb he)
  · have hanswer := State.answerWrite_of_ready (s := s.lineReleased) (d := data.cells) ho (hgood heven hle) hb
    have hstaged (j : Fin 512) : (s.lineReleased.staged x data.cells).store.staging.get j =
        if 4 * x.toNat ≤ j.val then (data.cells.take 8).getD (j.val - 4 * x.toNat) (s.store.staging.get j)
        else s.store.staging.get j := Image.setChunk_get ..
    refine ⟨_, done_answered (w := s.comms.service) hready hanswer rfl rfl rfl rfl, rfl, fun j k hj => ?_,
      fun j hj => ?_⟩
    · refine (hstaged j).trans ?_
      have hk : j.val - 4 * x.toNat = k.val := by omega
      rw [if_pos (by omega), hk, List.take_of_length_le (Nat.le_of_eq data.size)]
      exact List.getD_eq_getElem _ _ (by rw [data.size]; exact k.isLt)
    · refine (hstaged j).trans ?_
      split
      next hle =>
        refine List.getD_eq_default _ _ ?_
        rw [List.take_of_length_le (Nat.le_of_eq data.size), data.size]
        omega
      next => rfl
  · exact done_answered (kind := 13) (argument := 0) (data := []) (w := s.comms.service) hready
      (State.answerCommit_of_valid (s := s.lineReleased) ho hb he hnone) rfl rfl rfl rfl
  · exact done_answered (kind := 13) (argument := 0) (data := []) (w := s.comms.service) hready
      (State.answerCommit_of_refused (s := s.lineReleased) ho hb he ho') rfl rfl rfl rfl

/-! ## The ends of writes (R168, R172) -/

/-- A store at a new status leaves a station at rest where it lets the responder take no more than before. -/
theorem State.atRest_store {s : State} (h : s.atRest = true) {x : Store}
    (hm : ({ s with store := x } : State).mayServe = true → s.mayServe = true) :
    ({ s with store := x } : State).atRest = true := by
  simp only [State.atRest, Bool.and_eq_true] at h ⊢
  obtain ⟨⟨htold, htaken⟩, hframes⟩ := h
  refine ⟨⟨htold, ?_⟩, hframes⟩
  unfold State.requestsTaken at htaken ⊢
  dsimp only
  cases hserve : ({ s with store := x } : State).mayServe with
  | false => rfl
  | true =>
    rw [hm hserve] at htaken
    exact htaken

/-- A restart that is due for the store alone is due for nothing but a commit. -/
theorem State.mayServe_store {s : State} {x : Store}
    (h : x.status = .committed ∨ s.store.status ≠ .committed)
    (hm : ({ s with store := x } : State).mayServe = true) : s.mayServe = true := by
  simp only [State.mayServe, State.restartDue, Bool.and_eq_true, Bool.not_eq_true', Bool.or_eq_false_iff] at hm ⊢
  obtain ⟨⟨hidle, hpending⟩, -, hcommit⟩ := hm
  refine ⟨⟨hidle, hpending⟩, by simp [hpending], ?_⟩
  obtain hx | hs := h
  · have hreplying : s.comms.service.commitReplying = true := by simpa [hx] using hcommit
    simp [hreplying]
  · simp [hs]

/-- Settles O59, by the write that runs and what is read back. -/
theorem storeWritesAreReadBack : Obligations.StoreWritesAreReadBack := by
  intro written readBack image s hrest
  refine ⟨fun hlock => ?_, fun hcommit => ?_⟩
  · have hstore : s.store.endLockWrite readBack = if readBack = written
        then { s.store with lockRecord := readBack, status := .ready }
        else ({ s.store with lockRecord := readBack, status := .ready } : Store).writeFailed := by
      unfold Store.endLockWrite
      rw [hlock]
    have hexec : exec (.lockWriteEnd readBack) s = done { s with store := s.store.endLockWrite readBack } := rfl
    have hkept := State.atRest_store hrest (x := s.store.endLockWrite readBack)
      (State.mayServe_store (.inr (by rw [hlock]; nofun)))
    rw [hexec, done_of_atRest hkept, hstore]
    split
    next heq => rw [heq]
    next => rfl
  · have hexec : exec (.commitWriteEnd image) s = done { s with store := s.store.endCommitWrite image } := rfl
    have hstore : s.store.endCommitWrite image = if image = s.store.staging
        then { s.store with stored := image, storedBad := false, status := .committed }
        else ({ s.store with stored := image, storedBad := true, status := .ready } : Store).writeFailed := by
      unfold Store.endCommitWrite
      rw [hcommit]
    have hkept := State.atRest_store hrest (x := s.store.endCommitWrite image)
      (State.mayServe_store (.inr (by rw [hcommit]; nofun)))
    refine ⟨_, hexec.trans (done_of_atRest hkept), rfl, ?_⟩
    dsimp only
    rw [hstore]
    split
    next heq =>
      refine ⟨rfl, rfl, fun _ => ⟨heq, rfl, rfl, fun hidle => ?_⟩, fun hne => absurd heq hne⟩
      simp [State.restartDue, Service.commitReplying, hidle]
    next hne => exact ⟨rfl, rfl, fun heq => absurd heq hne, fun _ => ⟨rfl, rfl, rfl, rfl⟩⟩

/-! ## A request that waits (R73, R175) -/

theorem State.requestReceived_of_own {s : State} {sender target : Nat} {r : Request}
    (ht : target = if s.operating then s.settings.unit else 0) (hc : s.operating = true → sender ≠ s.settings.unit) :
    s.requestReceived sender target r = { s.counted with comms := s.counted.comms.enterRequest r } := by
  unfold State.requestReceived
  cases ho : s.operating with
  | true =>
    rw [ho] at ht
    have hclash : s.isClash sender = false := by simp [State.isClash, ho, hc ho]
    have hunit : target = s.answeringUnit := by simp [State.answeringUnit, ho, ht]
    simp only [Bool.true_or, if_true]
    rw [hclash, if_pos hunit]
    rfl
  | false =>
    rw [ho] at ht
    have hclash : s.isClash sender = false := by simp [State.isClash, ho]
    have hzero : target = 0 := ht
    have hunit : target = s.answeringUnit := by simp [State.answeringUnit, ho, hzero]
    simp only [hzero, Bool.false_or, decide_true, if_true]
    rw [hclash, ← hzero, if_pos hunit]
    rfl

theorem State.requestReceived_of_other {s : State} {sender target : Nat} {r : Request} (ho : s.operating = true)
    (ht : target ≠ s.settings.unit) (hc : sender ≠ s.settings.unit) : s.requestReceived sender target r = s.counted := by
  have hclash : s.isClash sender = false := by simp [State.isClash, ho, hc]
  have hunit : target ≠ s.answeringUnit := by simp [State.answeringUnit, ho, ht]
  unfold State.requestReceived
  simp only [ho, Bool.true_or, if_true]
  rw [hclash, if_neg hunit]
  rfl

theorem State.requestReceived_of_unaddressed {s : State} {sender target : Nat} {r : Request} (ho : s.operating = false)
    (ht : target ≠ 0) : s.requestReceived sender target r = s.otherFrame := by
  unfold State.requestReceived
  simp [ho, ht]

/-- A request that reaches a responder with a current one only waits, or is discarded. -/
theorem done_enterRequest {s : State} (h : s.atRest = true) (hbusy : s.comms.service.current.isSome = true)
    (r : Request) : done { s.counted with comms := s.counted.comms.enterRequest r } =
      .next { s.counted with comms := s.counted.comms.enterRequest r, moment := s.moment + 1 } := by
  refine done_of_atRest ?_
  simp only [State.atRest, Bool.and_eq_true] at h ⊢
  obtain ⟨⟨htold, -⟩, -⟩ := h
  have hkept : (s.counted.comms.enterRequest r).fan = s.comms.fan ∧
      (s.counted.comms.enterRequest r).service.current = s.comms.service.current ∧
      (s.counted.comms.enterRequest r).link.busFreeCount = 0 := by
    unfold Comms.enterRequest
    split <;> exact ⟨rfl, rfl, rfl⟩
  obtain ⟨hfan, hcurrent, hbus⟩ := hkept
  refine ⟨⟨?_, ?_⟩, State.framesStarted_of_busy (by dsimp only; rw [hbus]; nofun)⟩
  · unfold State.ventTold at htold ⊢
    dsimp only
    rw [hfan]
    exact htold
  · unfold State.requestsTaken State.mayServe
    dsimp only
    rw [hcurrent]
    cases hc : s.comms.service.current with
    | none => rw [hc] at hbusy; cases hbusy
    | some _ => rfl

/-- Settles O42: the request enters the queue of a busy responder, or is counted and goes. -/
theorem serviceRequestWaitsBehindTheCurrentOne : Obligations.ServiceRequestWaitsBehindTheCurrentOne := by
  intro sender target kind argument data s hrest hbusy hsender
  have hexec : exec (.serviceRequestTaken sender target kind argument data) s =
      done (s.requestReceived sender.toNat target.toNat ⟨kind, argument, data⟩) := rfl
  rw [hexec]
  refine ⟨fun ht hroom => ?_, fun ht hfull => ?_, fun ho ht => ?_, fun ho ht => ?_⟩
  · rw [State.requestReceived_of_own ht hsender, done_enterRequest hrest hbusy]
    have henter : s.counted.comms.enterRequest ⟨kind, argument, data⟩ = { s.counted.comms with
        service := { s.comms.service with queue := s.comms.service.queue ++ [⟨kind, argument, data⟩] } } :=
      if_pos (decide_eq_true hroom)
    rw [henter]
    rfl
  · rw [State.requestReceived_of_own ht hsender, done_enterRequest hrest hbusy]
    have hnone : s.counted.comms.service.hasPlace = false := decide_eq_false (Nat.not_lt.mpr hfull)
    have henter : s.counted.comms.enterRequest ⟨kind, argument, data⟩ =
        s.counted.comms.countLink fun k => { k with serviceOverruns := bump k.serviceOverruns } :=
      if_neg (by simp [hnone])
    rw [henter]
    rfl
  · rw [State.requestReceived_of_other ho ht (hsender ho)]
    exact done_otherFrame hrest _
  · rw [State.requestReceived_of_unaddressed ho ht]
    exact done_otherFrame hrest id

end Sys2Proof.Machine
end

section
/-! Fan requests over the bus: O56. -/

namespace Sys2Proof.Machine

/-! ## Answers that move the fan controller -/

/-- An answer whose effect leaves room in the queue: NO_VENT is told, and the reply joins, moving no fan. -/
theorem done_roomy {s : State} (h : s.ready = true) {kind argument : Byte} {data : List Byte} {a : Answered}
    (ha : s.lineReleased.answer ⟨kind, argument, data⟩ = a)
    (hbus : a.state.comms.link.busFreeCount = s.comms.link.busFreeCount) (hroom : a.state.comms.roomy) :
    ∃ c, done (s.requested kind argument data) =
        .next { a.state.ventSettle with comms := c, moment := s.moment + 1 } ∧
      c.fan = a.state.ventSettle.comms.fan ∧
      c.service.current = some ⟨⟨kind, argument, data⟩, replyOf kind a.result a.data⟩ := by
  have hvent := State.ventSettle_roomy hroom
  have hjoin (e : Env) (c : Comms) (hs : c.link.state = a.state.ventSettle.comms.link.state)
      (hq : c.link.queue = a.state.ventSettle.comms.link.queue) :
      offer e (.reply (replyOf kind a.result a.data)) c = c.join e (.reply (replyOf kind a.result a.data)) :=
    offer_of_room (hs ▸ hvent.1) (hq ▸ Nat.lt_succ_of_le hvent.length)
  have hkept : (a.kept ⟨kind, argument, data⟩).comms =
      (a.state.ventSettle.keepCurrent ⟨kind, argument, data⟩ (replyOf kind a.result a.data)).comms.join
        (a.state.ventSettle.keepCurrent ⟨kind, argument, data⟩ (replyOf kind a.result a.data)).env
        (.reply (replyOf kind a.result a.data)) := hjoin _ _ rfl rfl
  refine ⟨(a.kept ⟨kind, argument, data⟩).comms, done_requested h ha hbus, ?_, ?_⟩
  · rw [hkept]
    rfl
  · rw [hkept]
    rfl

/-- Such an answer where NO_VENT stands as it was told. -/
theorem done_fanned {s : State} (h : s.ready = true) {kind argument : Byte} {data : List Byte} {a : Answered}
    (ha : s.lineReleased.answer ⟨kind, argument, data⟩ = a)
    (hbus : a.state.comms.link.busFreeCount = s.comms.link.busFreeCount) (hroom : a.state.comms.roomy)
    (hvent : a.state.comms.fan.noVent = s.comms.fan.noVent) (hmode : a.state.mode = s.mode)
    (hzone : a.state.zone = s.zone) :
    ∃ c, done (s.requested kind argument data) = .next { a.state with comms := c, moment := s.moment + 1 } ∧
      c.fan = a.state.comms.fan ∧
      c.service.current = some ⟨⟨kind, argument, data⟩, replyOf kind a.result a.data⟩ := by
  obtain ⟨hquiet, -⟩ := s.ready_iff.mp h
  obtain ⟨htold, -, -⟩ := s.quiet_iff.mp hquiet
  have hsame : a.state.ventSettle = a.state := by
    refine State.ventSettle_of_told ?_
    unfold State.ventTold
    have ho : a.state.operating = s.operating := by unfold State.operating; rw [hmode]
    rw [ho, hvent, hzone]
    cases ho : s.operating <;> simp_all
  obtain ⟨c, hdone, hfan, hcurrent⟩ := done_roomy h ha hbus hroom
  rw [hsame] at hdone hfan
  exact ⟨c, hdone, hfan, hcurrent⟩

/-! ## What starts follow a change of a fan (R45, R46) -/

section
variable {e : Env} {c : Comms} {i : Fin 4}

/-- Local starts put a waiting fan into SPINUP at the duty of the stage in force. -/
theorem localStarts_fans (j : Fin 4) : (localStarts e c).fanAt j = c.fanAt j ∨
    (localStarts e c).fanAt j = (c.fanAt j).spun (stageDuty e.settings c.fan.stage) := by
  have hclear : (clearRelease c).fanAt j = c.fanAt j ∧ (clearRelease c).fan.stage = c.fan.stage := by
    unfold clearRelease
    split
    · exact ⟨rfl, rfl⟩
    · split <;> exact ⟨rfl, rfl⟩
  have hstart (k : Fin 4) : (startLocally e k (clearRelease c)).fanAt j = c.fanAt j ∨
      (startLocally e k (clearRelease c)).fanAt j = (c.fanAt j).spun (stageDuty e.settings c.fan.stage) := by
    have hfan : (startLocally e k (clearRelease c)).fanAt j = (startFan e k (clearRelease c)).fanAt j := rfl
    rw [hfan, startFan_fans]
    split
    next hj => subst hj; rw [hclear.1, hclear.2]; exact .inr rfl
    next => exact .inl hclear.1
  unfold localStarts
  dsimp only
  split
  · exact .inl hclear.1
  · split
    · exact hstart _
    · split
      · split
        · exact hstart _
        · exact .inl hclear.1
      · exact .inl hclear.1

/-- A release that local starts leave is of a fan in WAIT_PERMIT. -/
theorem localStarts_release (h : (localStarts e c).fan.release = some i) :
    ((localStarts e c).fanAt i).state = .waitPermit := by
  unfold localStarts at h ⊢
  dsimp only at h ⊢
  split at h
  next hrun => rw [if_pos hrun]; exact clearRelease_waits h
  next hrun =>
    split at h
    · cases h
    next hnone =>
      have hkept : (clearRelease c).fan.release = some i := by
        split at h
        · split at h <;> exact h
        · exact h
      rw [hnone] at hkept
      cases hkept

/-- With an ACTIVE link and no release held no fan starts (R45, R46). -/
theorem localStarts_of_active (hl : c.link.state = .active) (hr : c.fan.release = none) : localStarts e c = c := by
  unfold localStarts
  rw [clearRelease_of_none hr]
  dsimp only
  rw [hr, hl]
  split <;> rfl

end

/-! ## A fan locked, freed or cleared (R51, R54, R55) -/

section
variable {e : Env} {c : Comms} {i : Fin 4} {f : Fan → Fan}

/-- The bus side once a fan's record is changed and selection has run, before what follows from it. -/
def Comms.refitted (e : Env) (i : Fin 4) (f : Fan → Fan) (c : Comms) : Comms :=
  { c.setFan i (f (c.fanAt i)) with fan := (c.setFan i (f (c.fanAt i))).fan.selected e }

theorem changeFan_of_roomy (h : c.roomy) : (changeFan e i f c).roomy ∧
    (localStarts e (c.refitted e i f).unstranded).DefersOnly (changeFan e i f c) :=
  afterFanChange_of_roomy (h.of_queue (d := c.refitted e i f) rfl rfl)

theorem Comms.DefersOnly.fanAt {d : Comms} (h : c.DefersOnly d) (j : Fin 4) : d.fanAt j = c.fanAt j := by
  obtain ⟨n, hn⟩ := h
  unfold Comms.fanAt
  rw [hn]

/-- No release is held for a fan put into FAULT or LOCKED. -/
theorem changeFan_release (h : c.roomy) (hs : (f (c.fanAt i)).state = .fault ∨ (f (c.fanAt i)).state = .locked)
    (hm : (f (c.fanAt i)).handover = false) : (changeFan e i f c).fan.release ≠ some i := by
  obtain ⟨-, hdefer⟩ := changeFan_of_roomy (e := e) (i := i) (f := f) h
  intro hrel
  have hfan := hdefer.fanAt i
  rw [changeFan_record e hs hm] at hfan
  obtain ⟨n, hn⟩ := hdefer
  rw [hn] at hrel
  have hwait := localStarts_release (e := e) hrel
  rw [← hfan] at hwait
  obtain h | h := hs <;> rw [h] at hwait <;> cases hwait

theorem Fan.select_released (d : Nat) (w b : Bool) (x : Fan) : ({ x.release with handover := b } : Fan).select d w =
    { x with state := if w then .waitPermit else .stopped, cause := none, handover := b } := by
  cases w <;> rfl

/-- A fan whose lock or fault has ended, as selection leaves it: waiting where it is wanted (R41). -/
theorem refitted_release : ∃ b, (c.refitted e i Fan.release).fanAt i = { c.fanAt i with
    state := if i ∈ wantedSet e.settings (c.setFan i (c.fanAt i).release).fan then .waitPermit else .stopped
    cause := none
    handover := b } := by
  have hrecord := selected_record e (c.setFan i (c.fanAt i).release) i
  rw [Comms.fanAt_setFan_self] at hrecord
  have hat : (c.refitted e i Fan.release).fanAt i = ((c.setFan i (c.fanAt i).release).fan.selected e).fans.get i := rfl
  rw [hat, hrecord, Fan.select_released]
  simp only [decide_eq_true_eq]
  exact ⟨_, rfl⟩

/-- What selection and the starts after it leave of a fan whose lock or fault has ended. -/
theorem freeFan_spec (h : c.roomy) :
    ((freeFan e i c).fanAt i).cause = none ∧
    ((freeFan e i c).fanAt i).duty = (if ((freeFan e i c).fanAt i).driveOn then stageDuty e.settings c.fan.stage
      else (c.fanAt i).duty) ∧
    (c.link.state = .active → c.fan.release = none → ((freeFan e i c).fanAt i).state =
      if i ∈ wantedSet e.settings (freeFan e i c).fan then .waitPermit else .stopped) := by
  obtain ⟨-, hdefer⟩ := changeFan_of_roomy (e := e) (i := i) (f := Fan.release) h
  have hat : (freeFan e i c).fanAt i = (localStarts e (c.refitted e i Fan.release).unstranded).fanAt i := hdefer.fanAt i
  obtain ⟨hunfan, hunstate⟩ := (c.refitted e i Fan.release).unstranded_fan
  have hunat : (c.refitted e i Fan.release).unstranded.fanAt i = (c.refitted e i Fan.release).fanAt i := by
    unfold Comms.fanAt
    rw [hunfan]
  obtain ⟨b, hrec⟩ := refitted_release (e := e) (c := c) (i := i)
  have hidle : ((c.refitted e i Fan.release).fanAt i).driveOn = false := by
    rw [hrec]
    by_cases hw : i ∈ wantedSet e.settings (c.setFan i (c.fanAt i).release).fan <;> simp [Fan.driveOn, hw]
  have hwanted : wantedSet e.settings (freeFan e i c).fan =
      wantedSet e.settings (c.setFan i (c.fanAt i).release).fan :=
    wantedSet_congr (changeFan_starts e).lead (changeFan_starts e).stage fun j => select_available ..
  refine ⟨?_, ?_, fun hl hr => ?_⟩
  · rw [hat]
    obtain hsame | hspun := localStarts_fans (e := e) (c := (c.refitted e i Fan.release).unstranded) i
    · rw [hsame, hunat, hrec]
    · rw [hspun, hunat, hrec]
      rfl
  · rw [hat]
    obtain hsame | hspun := localStarts_fans (e := e) (c := (c.refitted e i Fan.release).unstranded) i
    · rw [hsame, hunat, hidle, hrec]
      rfl
    · rw [hspun, hunfan]
      rfl
  · have hnone := localStarts_of_active (e := e) (c := (c.refitted e i Fan.release).unstranded)
      (hunstate.trans hl) (by rw [hunfan]; exact hr)
    rw [hat, hnone, hunat, hrec, hwanted]

end

/-! ## The answers (R51, R54 to R56) -/

section
variable {s : State} {x m : Byte} {lock : Bool} {i : Fin 4}

theorem State.answerLock_of_commission (ho : s.operating = false) : s.answerLock lock x = s.plain .wrongMode := by
  simp [State.answerLock, ho]

theorem State.answerClearFan_of_commission (ho : s.operating = false) : s.answerClearFan x = s.plain .wrongMode := by
  simp [State.answerClearFan, ho]

theorem State.answerBoost_of_commission (ho : s.operating = false) : s.answerBoost x m = s.plain .wrongMode := by
  simp [State.answerBoost, ho]

variable (ho : s.operating = true)
include ho

theorem State.answerLock_of_none (h : s.settings.fanOf x = none) : s.answerLock lock x = s.plain .badIndex := by
  simp [State.answerLock, ho, h]

theorem State.answerClearFan_of_none (h : s.settings.fanOf x = none) : s.answerClearFan x = s.plain .badIndex := by
  simp [State.answerClearFan, ho, h]

theorem State.answerLock_of_same (hi : s.settings.fanOf x = some i) (h : s.fanLocked i = lock) :
    s.answerLock lock x = s.plain .done := by
  simp [State.answerLock, ho, hi, h]

theorem State.answerLock_of_busy (hi : s.settings.fanOf x = some i) (h : s.fanLocked i ≠ lock)
    (hb : s.store.busy = true) : s.answerLock lock x = s.plain .busy := by
  simp [State.answerLock, ho, hi, h, hb]

/-- The answer to a lock or unlock that changes a fan (R54, R55, R168). -/
theorem State.answerLock_of_changed (hi : s.settings.fanOf x = some i) (h : s.fanLocked i ≠ lock)
    (hb : s.store.busy = false) : s.answerLock lock x =
      (if s.store.writeError then (s.onComms fun e c => if lock then lockFan e i c else freeFan e i c).plain .storeError
        else (s.onComms fun e c => if lock then lockFan e i c else freeFan e i c).beginLockWrite.plain .done) := by
  simp [State.answerLock, ho, hi, h, hb]

theorem State.answerClearFan_of_sound (hi : s.settings.fanOf x = some i) (h : (s.comms.fanAt i).state ≠ .fault) :
    s.answerClearFan x = s.plain .notFaulted := by
  simp [State.answerClearFan, ho, hi, h]

theorem State.answerClearFan_of_faulted (hi : s.settings.fanOf x = some i) (h : (s.comms.fanAt i).state = .fault) :
    s.answerClearFan x = (s.onComms fun e c => freeFan e i c).plain .done := by
  simp [State.answerClearFan, ho, hi, h]

theorem State.answerBoost_of_ok (h : 1 ≤ x.toNat ∧ x.toNat ≤ 3 ∧ 1 ≤ m.toNat ∧ m.toNat ≤ 240) :
    s.answerBoost x m = (s.onComms fun e c => setBoost e x.toNat m.toNat c).plain .done := by
  simp [State.answerBoost, ho, h]

theorem State.answerBoost_of_bad (h : ¬(1 ≤ x.toNat ∧ x.toNat ≤ 3 ∧ 1 ≤ m.toNat ∧ m.toNat ≤ 240)) :
    s.answerBoost x m = s.plain .badIndex := by
  unfold State.answerBoost
  rw [ho]
  exact (if_neg (by simp)).trans (if_neg h)

end

/-- The store once the locks are to be written, or WRITE_ERROR stands (R168). -/
def State.lockStore (s : State) (c : Comms) : Store :=
  if s.store.writeError then s.store
  else { s.store with
    status := .lockWrite (lockRecordOf fun j => decide ((c.fanAt j).state = .locked))
    counters := { s.store.counters with lockWrites := bump s.store.counters.lockWrites } }

/-- A lock or unlock answered: the bus side it leaves, and the store. -/
theorem State.answerLock_changed {s : State} {x : Byte} {lock : Bool} {i : Fin 4} (ho : s.operating = true)
    (hi : s.settings.fanOf x = some i) (h : s.fanLocked i ≠ lock) (hb : s.store.busy = false) {c : Comms}
    (hc : c = if lock then lockFan s.env i s.comms else freeFan s.env i s.comms) :
    s.answerLock lock x =
      ⟨{ s with comms := c, store := s.lockStore c }, if s.store.writeError then .storeError else .done, []⟩ := by
  rw [State.answerLock_of_changed ho hi h hb, hc]
  unfold State.lockStore
  split <;> rfl

theorem replyOf_bare {k : Byte} (hk : replyDataLength k = 0) (r : ResultCode) : replyOf k r [] = ⟨k, r, []⟩ := by
  cases r <;> simp [replyOf, hk]

theorem State.lineReleased_roomy {s : State} (h : s.ready = true) (hlen : s.comms.link.queue.length ≤ 5) :
    s.lineReleased.comms.roomy := by
  obtain ⟨-, -, hsilent, -⟩ := s.ready_iff.mp h
  exact Comms.roomy_of_le hsilent hlen

theorem State.lockStore_congr {s : State} {c d : Comms} (h : d.fan = c.fan) : s.lockStore d = s.lockStore c := by
  have hat : d.fanAt = c.fanAt := by unfold Comms.fanAt; rw [h]
  unfold State.lockStore
  rw [hat]

theorem lockFan_roomy {e : Env} {i : Fin 4} {c : Comms} (h : c.roomy) : (lockFan e i c).roomy := by
  have hcounted : (c.countFan fun k => { k with lockedFans := bump k.lockedFans }).roomy := h.of_queue rfl rfl
  exact (changeFan_of_roomy hcounted).1

theorem changeFan_bus (e : Env) (i : Fin 4) (f : Fan → Fan) (c : Comms) :
    (changeFan e i f c).link.busFreeCount = c.link.busFreeCount := (changeFan_starts e).bus

/-- A lock or unlock that a ready station answers, where another fan is available (R54, R55, R168). -/
theorem done_lock {s : State} (h : s.ready = true) {k x : Byte} {lock : Bool} {i : Fin 4}
    (hanswer : ∀ u : State, u.answer ⟨k, x, []⟩ = u.answerLock lock x) (hk : replyDataLength k = 0)
    (ho : s.operating = true) (hi : s.settings.fanOf x = some i) (hlock : s.fanLocked i ≠ lock)
    (hb : s.store.busy = false) {c : Comms}
    (hc : c = if lock then lockFan s.env i s.lineReleased.comms else freeFan s.env i s.lineReleased.comms)
    (hroom : c.roomy) (hvent : c.fan.noVent = s.comms.fan.noVent)
    (hbus : c.link.busFreeCount = s.comms.link.busFreeCount) :
    ∃ t, done (s.requested k x []) = .next t ∧
      t = { s with comms := t.comms, store := t.store, moment := s.moment + 1 } ∧ t.comms.fan = c.fan ∧
      t.comms.service.current =
        some ⟨⟨k, x, []⟩, ⟨k, if s.store.writeError then .storeError else .done, []⟩⟩ ∧
      t.store = s.lockStore t.comms := by
  have hchanged := (hanswer s.lineReleased).trans
    (State.answerLock_changed (s := s.lineReleased) ho hi hlock hb hc)
  obtain ⟨d, hdone, hfan, hcurrent⟩ := done_fanned h hchanged hbus hroom hvent rfl rfl
  rw [replyOf_bare hk] at hcurrent
  exact ⟨_, hdone, rfl, hfan, hcurrent, (State.lockStore_congr hfan).symm⟩

theorem lockFan_bus (e : Env) (i : Fin 4) (c : Comms) :
    (lockFan e i c).link.busFreeCount = c.link.busFreeCount := changeFan_bus e i Fan.lock (c.countFan _)

/-- The last fan available is locked: NO_VENT is set and told (R40, R54, R157). -/
theorem State.ventSettle_lastLocked {s : State} (ho : s.operating = true) (hcause : s.zone.ventCause = false)
    {i : Fin 4} (hothers : ∀ j, j ≠ i → available s.settings s.comms.fan j = false) (hpos : 1 ≤ s.comms.fan.stage)
    (hmet : demand s.env s.comms.fan = s.comms.fan.stage) (x : Store) :
    let t : State := { s with comms := lockFan s.env i s.comms, store := x }
    t.ventSettle.comms.Retired i (s.comms.fanAt i).lock ∧ t.ventSettle.comms.fan.noVent = true ∧
    t.ventSettle.zone.ventCause = true ∧
    (s.grave = true → s.zone.purgeIn = decide (s.zone.state = .purge) → t.ventSettle.zone.state = s.zone.state) ∧
    (s.grave = false → s.zone.purgeIn = false → s.zone.fsLast < s.settings.alarmOn →
      t.ventSettle.zone.state = .divert) := by
  have hretired : (lockFan s.env i s.comms).Retired i (s.comms.fanAt i).lock :=
    ⟨changeFan_record s.env (.inr rfl) rfl, .inr rfl, rfl⟩
  have hvent : (lockFan s.env i s.comms).fan.noVent = true :=
    changeFan_unvented s.env (c := s.comms.countFan _) (.inr rfl) hothers hpos
  have hnone (j : Fin 4) : available s.settings (lockFan s.env i s.comms).fan j = false := by
    refine (select_available s.env _ j).trans ?_
    by_cases hj : j = i
    · subst hj
      exact not_available_setFan (.inr rfl)
    · exact (available_setFan_ne hj _).trans (hothers j hj)
  have hstage : (lockFan s.env i s.comms).fan.stage = s.comms.fan.stage := by simp
  have hdemand : demand s.env (lockFan s.env i s.comms).fan = demand s.env s.comms.fan := by
    unfold demand boostStageOf
    simp
  exact State.ventSettle_unvented (s := { s with comms := lockFan s.env i s.comms, store := x }) ho hretired hvent
    hcause hnone (hdemand.trans (hmet.trans hstage.symm)) (hpos.trans (Nat.le_of_eq hstage.symm))

/-- Settles O56, by the mode, what the argument names, and the fan's state. -/
theorem fanRequestsActAtOnce : Obligations.FanRequestsActAtOnce := by
  intro x m i s hready hlen
  have hroom := State.lineReleased_roomy hready hlen
  refine ⟨fun ho => ⟨?_, ?_, ?_, ?_⟩, fun ho hnone => ?_, fun ho hx hpresent hvent hother => ?_,
    fun ho hx hpresent hvent hothers hlocked hb hstage hmet => ?_, fun ho hvented => ⟨fun h1 h3 hm1 hm2 => ?_,
    fun hbad => ?_⟩⟩
  · exact done_plain hready (State.answerLock_of_commission (s := s.lineReleased) (lock := true) ho)
  · exact done_plain hready (State.answerLock_of_commission (s := s.lineReleased) (lock := false) ho)
  · exact done_plain hready (State.answerClearFan_of_commission (s := s.lineReleased) ho)
  · exact done_plain hready (State.answerBoost_of_commission (s := s.lineReleased) (m := m) ho)
  · have hfan : s.settings.fanOf x = none := indexOf_filter_of_none fun j hj => by
      obtain hbig | hall := hnone
      · have := j.isLt
        omega
      · exact hall j hj
    exact ⟨done_plain hready (State.answerLock_of_none (s := s.lineReleased) (lock := true) ho hfan),
      done_plain hready (State.answerLock_of_none (s := s.lineReleased) (lock := false) ho hfan),
      done_plain hready (State.answerClearFan_of_none (s := s.lineReleased) ho hfan)⟩
  · have hi : s.settings.fanOf x = some i := indexOf_filter_of_some hx hpresent
    have hlockedIff (b : Bool) : s.fanLocked i = b ↔ decide ((s.comms.fanAt i).state = .locked) = b := Iff.rfl
    refine ⟨fun hl => ?_, fun hl => ?_, fun hf => ?_, fun hl hb => ?_, fun hl hb => ?_, fun hl hb => ?_, fun hf => ?_⟩
    · exact done_plain hready (State.answerLock_of_same (s := s.lineReleased) (lock := true) ho hi (decide_eq_true hl))
    · exact done_plain hready
        (State.answerLock_of_same (s := s.lineReleased) (lock := false) ho hi (decide_eq_false hl))
    · exact done_plain hready (State.answerClearFan_of_sound (s := s.lineReleased) ho hi hf)
    · exact done_plain hready (State.answerLock_of_busy (s := s.lineReleased) (lock := true) ho hi
        (by rw [ne_eq, Bool.not_eq_true]; exact decide_eq_false hl) hb)
    · obtain ⟨t, hdone, ht, hfan, hcurrent, hstore⟩ := done_lock hready (k := 3) (x := x) (lock := true) (fun _ => rfl)
        rfl ho hi (by rw [ne_eq, Bool.not_eq_true]; exact decide_eq_false hl) hb rfl (lockFan_roomy hroom)
        ((changeFan_vented s.env (c := s.lineReleased.comms.countFan _) hother).trans hvent.symm) (by simp; rfl)
      have hat (j : Fin 4) : t.comms.fanAt j = (lockFan s.env i s.lineReleased.comms).fanAt j := by
        unfold Comms.fanAt
        rw [hfan]
        rfl
      refine ⟨t, hdone, ht, ?_, ?_, ?_, ?_, hcurrent, hstore⟩
      · rw [hat]
        exact changeFan_record s.env (.inr rfl) rfl
      · rw [hfan]
        exact congrArg FanCounters.lockedFans (changeFan_starts s.env).counters
      · rw [hfan]
        exact changeFan_release (hroom.of_queue rfl rfl) (.inr rfl) rfl
      · rw [hfan]
        exact (changeFan_starts s.env).stage
    · obtain ⟨t, hdone, ht, hfan, hcurrent, hstore⟩ := done_lock hready (k := 4) (x := x) (lock := false) (fun _ => rfl)
        rfl ho hi (by rw [ne_eq, Bool.not_eq_false]; exact decide_eq_true hl) hb rfl
        (changeFan_of_roomy hroom).1
        ((changeFan_vented s.env (c := s.lineReleased.comms) hother).trans hvent.symm) (by simp; rfl)
      have hat : t.comms.fanAt i = (freeFan s.env i s.lineReleased.comms).fanAt i := by
        unfold Comms.fanAt
        rw [hfan]
        rfl
      obtain ⟨-, hduty, hstate⟩ := freeFan_spec (e := s.env) (i := i) hroom
      refine ⟨t, hdone, ht, ?_, fun hlink hrel => ?_, ?_, hcurrent, hstore⟩
      · rw [hat]
        exact hduty
      · rw [hat, hfan]
        exact hstate hlink hrel
      · have hcount := congrArg FanCounters.lockedFans
          (changeFan_starts s.env (i := i) (f := Fan.release) (c := s.lineReleased.comms)).counters
        rw [hfan]
        exact hcount
    · obtain ⟨c, hdone, hfan, hcurrent⟩ := done_fanned hready (kind := 5) (argument := x) (data := [])
        (State.answerClearFan_of_faulted (s := s.lineReleased) ho hi hf) (changeFan_bus ..)
        (changeFan_of_roomy hroom).1
        ((changeFan_vented s.env (c := s.lineReleased.comms) hother).trans hvent.symm) rfl rfl
      have hat : c.fanAt i = (freeFan s.env i s.lineReleased.comms).fanAt i := by
        unfold Comms.fanAt
        rw [hfan]
        rfl
      obtain ⟨hcause, -, hstate⟩ := freeFan_spec (e := s.env) (i := i) hroom
      refine ⟨_, hdone, rfl, ?_, fun hlink hrel => ?_, hcurrent⟩
      · dsimp only
        rw [hat]
        exact hcause
      · dsimp only
        rw [hat, hfan]
        exact hstate hlink hrel
  · have hi : s.settings.fanOf x = some i := indexOf_filter_of_some hx hpresent
    obtain ⟨hquiet, -⟩ := s.ready_iff.mp hready
    obtain ⟨htold, -, -⟩ := s.quiet_iff.mp hquiet
    have hnot : s.lineReleased.fanLocked i ≠ true := by
      rw [ne_eq, Bool.not_eq_true]
      exact decide_eq_false hlocked
    have hanswer := State.answerLock_changed (s := s.lineReleased) (lock := true) ho hi hnot hb
      (c := lockFan s.env i s.lineReleased.comms) rfl
    obtain ⟨c, hdone, hfan, hcurrent⟩ := done_roomy hready (kind := 3) (argument := x) (data := []) hanswer
      (lockFan_bus ..) (lockFan_roomy hroom)
    obtain ⟨hretired, hnoVent, hcause, -, hdivert⟩ := State.ventSettle_lastLocked (s := s.lineReleased) ho
      ((htold ho).trans hvent) hothers hstage hmet (s.lineReleased.lockStore (lockFan s.env i s.lineReleased.comms))
    have hframe := State.ventSettle_frame ({ s.lineReleased with
      comms := lockFan s.env i s.lineReleased.comms
      store := s.lineReleased.lockStore (lockFan s.env i s.lineReleased.comms) } : State)
    have hat : c.fanAt i = (s.comms.fanAt i).lock := by
      refine Eq.trans ?_ hretired.record
      unfold Comms.fanAt
      rw [hfan]
      rfl
    rw [replyOf_bare rfl] at hcurrent
    refine ⟨_, hdone, hframe.1, hframe.2.1, hframe.2.2.2.2.1, ?_, ?_, ?_, hcause, hdivert, hcurrent⟩
    · dsimp only
      rw [hat]
      rfl
    · dsimp only
      rw [hat]
      rfl
    · dsimp only
      rw [hfan]
      exact hnoVent
  · obtain ⟨hvent, hany⟩ := s.vented_iff.mp hvented
    have hanswer := State.answerBoost_of_ok (s := s.lineReleased) ho ⟨h1, h3, hm1, hm2⟩
    obtain ⟨c, hdone, hfan, hcurrent⟩ := done_fanned hready (kind := 9) (argument := x) (data := [m]) hanswer
      (by simp [State.onComms]; rfl) (reworkDemand_roomy (hroom.of_queue rfl rfl))
      ((reworkDemand_noVent (c := { s.lineReleased.comms with fan := { s.comms.fan with
        boost := some ⟨x.toNat, 60000 * m.toNat⟩ } }) s.env hvent hany).trans hvent.symm) rfl rfl
    refine ⟨_, hdone, rfl, ?_, ?_, ?_, hcurrent⟩
    · dsimp only
      rw [hfan]
      simp [State.onComms, setBoost]
    · dsimp only
      rw [hfan]
      exact reworkDemand_stage ..
    · dsimp only
      rw [hfan]
      simp [State.onComms, setBoost]
      rfl
  · have hno : ¬(1 ≤ x.toNat ∧ x.toNat ≤ 3 ∧ 1 ≤ m.toNat ∧ m.toNat ≤ 240) := by omega
    exact done_plain hready (State.answerBoost_of_bad (s := s.lineReleased) ho hno)

end Sys2Proof.Machine
end


section
/-! The timers of the bay string, the signs and the lamps: commands after which nothing is left for the end of the
step. -/

namespace Sys2Proof.Machine

/-! ## Sign records (R139, R181) -/

theorem Slot.bytes_length : ∀ x : Slot, x.bytes.length = 2
  | .dark => rfl
  | .closed => rfl
  | .full => rfl
  | .arrow _ _ => rfl

theorem Legend.bytes_length : ∀ x : Legend, x.bytes.length = 3
  | .counts _ _ => rfl
  | .closed => rfl

/-- The bytes of slot `j` among those of the slots before and after it. -/
theorem take_drop_slots : ∀ (l : List Slot) (j : Nat) (h : j < l.length),
    ((l.flatMap Slot.bytes).drop (2 * j)).take 2 = (l[j]).bytes
  | [], j, h => absurd h (Nat.not_lt_zero j)
  | x :: l, 0, _ => by simp [← x.bytes_length]
  | x :: l, j + 1, h => by
    have hdrop : 2 * (j + 1) = x.bytes.length + 2 * j := by rw [x.bytes_length]; omega
    rw [List.flatMap_cons, hdrop, List.drop_append, List.drop_eq_nil_of_le (Nat.le_add_right _ _),
      Nat.add_sub_cancel_left, List.nil_append, take_drop_slots l j (Nat.lt_of_succ_lt_succ h)]
    rfl

/-- A record's bytes before its check are laid out as 13.3 has them (R181). -/
theorem isSignBody_signRecord (i : Fin 2) (g : Sign) :
    isSignBody i g (byte i.val :: (g.legend.bytes ++ g.slots.cells.flatMap Slot.bytes)) := by
  have hlen : (g.slots.cells.flatMap Slot.bytes).length = 8 := by
    simp [List.length_flatMap, Slot.bytes_length, g.slots.size]
  refine ⟨by simp [hlen, Legend.bytes_length], rfl, ?_, fun j => ?_⟩
  · rw [List.drop_one, List.tail_cons, ← g.legend.bytes_length, List.take_left]
    cases g.legend <;> rfl
  · have hdrop : (byte i.val :: (g.legend.bytes ++ g.slots.cells.flatMap Slot.bytes)).drop (4 + 2 * j.val) =
        (g.slots.cells.flatMap Slot.bytes).drop (2 * j.val) := by
      rw [show 4 + 2 * j.val = (g.legend.bytes.length + 2 * j.val) + 1 by rw [Legend.bytes_length]; omega,
        List.drop_succ_cons, List.drop_append, List.drop_eq_nil_of_le (Nat.le_add_right _ _),
        Nat.add_sub_cancel_left, List.nil_append]
    rw [hdrop, take_drop_slots _ j.val (g.slots.size.symm ▸ j.isLt)]
    show (g.slots.get j).bytes = _
    cases g.slots.get j <;> rfl

/-- The idle link starts the record of the marked sign whose turn it is. -/
theorem Guide.startRecord_of_some {g : Guide} {i : Fin 2} (hl : g.line = none) (hn : g.nextSign = some i) :
    g.startRecord = { g with
      signs := g.signs.set i { g.signs.get i with mark := false }
      line := some ⟨i, signRecord i (g.signs.get i), 4⟩
      lastSign := i
      counters := { g.counters with signRecords := bump g.counters.signRecords } } := by
  unfold Guide.startRecord
  rw [hl, hn]
  rfl

theorem Guide.startRecord_of_none {g : Guide} (hn : g.nextSign = none) : g.startRecord = g := by
  unfold Guide.startRecord
  rw [hn]
  split <;> simp_all

theorem Guide.startRecord_of_line {g : Guide} (hl : g.line ≠ none) : g.startRecord = g := by
  unfold Guide.startRecord
  split <;> simp_all

theorem otherSign_eq : ∀ {i j : Fin 2}, j ≠ i → (if j = 0 then 1 else 0 : Fin 2) = i := by decide

/-- The other sign goes first where it is marked. -/
theorem Guide.nextSign_of_other {g : Guide} {i : Fin 2} (hi : g.lastSign ≠ i) (hm : (g.signs.get i).mark = true) :
    g.nextSign = some i := by
  simp [Guide.nextSign, otherSign_eq hi, hm]

/-- The only marked sign goes. -/
theorem Guide.nextSign_of_only {g : Guide} {i : Fin 2} (hm : ∀ j, (g.signs.get j).mark = decide (j = i)) :
    g.nextSign = some i := by
  rcases eq_or_ne g.lastSign i with rfl | hi
  · have hother : ∀ j : Fin 2, (if j = 0 then 1 else 0 : Fin 2) ≠ j := by decide
    simp [Guide.nextSign, hm, hother]
  · exact g.nextSign_of_other hi (by simp [hm])

theorem Guide.nextSign_of_unmarked {g : Guide} (hm : ∀ j, (g.signs.get j).mark = false) : g.nextSign = none := by
  simp [Guide.nextSign, hm]

/-- Settles O51: a record starts where the link is idle and a sign is marked, and the marks choose the sign. -/
theorem signRecordsGoOutInTurn : Obligations.SignRecordsGoOutInTurn := by
  intro i s h
  have hbody := isSignBody_signRecord i (s.guide.signs.get i)
  refine ⟨fun hr hl hi => ?_, fun hr hl => ?_, fun hm => ?_, fun hm => ?_⟩
  · have hstart := Guide.startRecord_of_some (g := s.guide.markBoth) (i := i) hl
      (Guide.nextSign_of_other (g := s.guide.markBoth) hi (by simp [Guide.markBoth]))
    refine ⟨_, (congrArg done (if_pos hr)).trans (done_of_atRest h), ?_, fun j => ?_, ?_⟩
    · simp only [hstart]; rfl
    · simp only [hstart]
      rcases eq_or_ne j i with rfl | hj
      · simp [Guide.markBoth]
      · rw [Tbl.get_set_ne _ _ hj]
        simp [Guide.markBoth, hj]
    · simp only [hstart]
      refine ⟨_, congrArg (fun x => some (⟨i, x, 4⟩ : OnLine)) ?_, hbody⟩
      simp [signRecord, Guide.markBoth]
  · have hstart := Guide.startRecord_of_line (g := s.guide.markBoth) hl
    refine ⟨_, (congrArg done (if_pos hr)).trans (done_of_atRest h), ?_, fun j => ?_⟩
    · simp only [hstart]; rfl
    · simp only [hstart]
      simp [Guide.markBoth]
  · have hstart := Guide.startRecord_of_some (g := { s.guide with line := none }) rfl (Guide.nextSign_of_only hm)
    refine ⟨_, done_of_atRest h, ?_, ?_⟩
    · simp only [hstart]
    · simp only [hstart]
      exact ⟨_, rfl, hbody⟩
  · have hstart := Guide.startRecord_of_none (g := { s.guide with line := none }) (Guide.nextSign_of_unmarked hm)
    show done { s with guide := ({ s.guide with line := none } : Guide).startRecord } = _
    rw [hstart]
    exact done_of_atRest h

/-! ## Lamps (R145, R149, R150) -/

theorem mem_windowCounts {first width n : Nat} :
    n ∈ (Finset.range 1023).filter (fun n => (Window.mk first width).on n) ↔ n < 1023 ∧ (n + 1023 - first) % 1023 < width := by
  rw [Finset.mem_filter, Finset.mem_range, Window.on, decide_eq_true_iff]
  rfl

theorem length_filter_range (p : Nat → Bool) (n : Nat) :
    ((List.range n).filter p).length = ((Finset.range n).filter fun x => p x = true).card := by
  simpa [Nat.count, List.countP_eq_length_filter] using Nat.count_eq_card_filter_range (fun x => p x = true) n

/-- A window of the PWM period is on for its width. -/
theorem window_counts (first width : Nat) (hf : first < 1023) (hw : width ≤ 1023) :
    ((List.range 1023).filter fun n => (Window.mk first width).on n).length = width := by
  have hcard : ((Finset.range 1023).filter fun n => (Window.mk first width).on n).card = (Finset.range width).card := by
    refine Finset.card_nbij' (fun n => (n + 1023 - first) % 1023) (fun n => (n + first) % 1023) ?_ ?_ ?_ ?_ <;>
      intro n hn <;> rw [Finset.mem_coe] at hn
    · rw [mem_windowCounts] at hn
      exact Finset.mem_coe.2 (Finset.mem_range.2 hn.2)
    · rw [Finset.mem_range] at hn
      exact Finset.mem_coe.2 (mem_windowCounts.2 (by dsimp only; omega))
    · rw [mem_windowCounts] at hn
      dsimp only
      omega
    · rw [Finset.mem_range] at hn
      dsimp only
      omega
  exact (length_filter_range _ _).trans (hcard.trans (Finset.card_range width))

theorem Channel.ramp_eq (fade : Nat) (ch : Channel) : ch.ramp fade = { ch with
    level := if ch.level < ch.target then min ch.target (ch.level + 21)
      else max ch.target (ch.level - max 1 (1023 / (fade * 100))) } := by
  unfold Channel.ramp
  split <;> rfl

/-- Settles O52: the channels change alone, each by its own record and settings. -/
theorem lampsFadeAndDrawTheirWindows : Obligations.LampsFadeAndDrawTheirWindows := by
  intro k s h
  refine ⟨fun left hp => ?_, fun hr => ?_, fun hp => ?_, fun hp => ?_⟩
  · have hc : (s.lamps.channels.get k).presence.isCounting = true := by rw [hp]; rfl
    refine ⟨_, (congrArg done (if_pos hc)).trans (done_of_atRest h), ?_, ?_⟩
    · simp [State.countLamp, State.onChannel, Tbl.modify]
    · simp [State.countLamp, State.onChannel, Channel.retarget, targetOf, freeTarget, PresenceTimer.isLive, Config.top]
  · exact ⟨_, (congrArg done (if_pos hr)).trans (done_of_atRest h), rfl, fun j =>
      (Tbl.get_mapIdx _ _ j).trans (Channel.ramp_eq _ _)⟩
  · refine ⟨_, (congrArg done (if_pos hp)).trans (done_of_atRest h), rfl, fun j => ?_⟩
    dsimp only
    rw [Tbl.get_mapIdx]
    exact ⟨rfl, fun hl => window_counts _ _ (Nat.mod_lt _ (by decide)) hl⟩
  · exact (congrArg done (if_neg (by simp [hp]))).trans (done_of_atRest h)

/-! ## Scans and flashes (R102, R109) -/

theorem BayState.isPolled_iff (x : BayState) :
    x.isPolled = true ↔ x = .unknown ∨ x = .free ∨ x = .held ∨ x = .occupied := by
  cases x <;> simp [BayState.isPolled]

/-- Settles O43: the two timers send the bays their colours, and the scan lists the bays to poll in index order. -/
theorem scansPollAndFlashesToggle : Obligations.ScansPollAndFlashesToggle := by
  intro s h
  refine ⟨fun hr => ⟨_, (congrArg done (if_pos hr)).trans (done_of_atRest h), rfl, ?_, fun b => ?_, fun b => ?_⟩,
    fun hr => ⟨_, (congrArg done (if_pos hr)).trans (done_of_atRest h), rfl, fun b hb => ?_, fun b hb => ?_⟩⟩
  · exact List.Pairwise.filter (fun b => (s.bayState b).isPolled) (List.pairwise_lt_finRange 48)
  · refine (List.mem_filter.trans ?_).trans (s.bayState b).isPolled_iff
    exact and_iff_right (List.mem_finRange b)
  · refine (Tbl.get_map _ _ b).trans ?_
    generalize s.scanner.bays.get b = bay
    obtain ⟨state, candidate, agreeing, noAnswer, indicator, shown⟩ := bay
    cases indicator <;> rfl
  · exact (Tbl.get_map _ _ b).trans (if_neg hb)
  · refine (Tbl.get_map _ _ b).trans ((if_pos hb).trans ?_)
    simp only [Bay.resend, hb, colourOf]
    cases s.scanner.flashOn <;> rfl

end Sys2Proof.Machine
end


section
/-! The guidance unit after it has re-formed: the best offer, the advertised figures and the signs (R133 to R138). -/

namespace Sys2Proof.Machine

/-! ## The best of the offers (R133, R136) -/

/-- The offer is a candidate or stands alone, and no candidate of the ports looked at goes before it. -/
structure Placed.Leads (candidates : Tbl 4 (Option Offer)) (ports : List (Fin 4)) (x : Placed) : Prop where
  placed : ∀ p, x.port = some p → p ∈ ports ∧ candidates.get p = some x.offer
  first : ∀ p ∈ ports, ∀ o ∈ candidates.get p, o.value < x.offer.value ∨ o.value = x.offer.value ∧
    (x.offer.hops < o.hops ∨ x.offer.hops = o.hops ∧ ∀ q ∈ x.port, q ≤ p)

theorem Offer.beats_iff (x y : Offer) :
    x.beats y = true ↔ y.value < x.value ∨ x.value = y.value ∧ x.hops < y.hops := by
  simp [Offer.beats]

section
variable {candidates : Tbl 4 (Option Offer)} {ports : List (Fin 4)} {x : Placed} {p : Fin 4}

theorem betterOf_leads (h : x.Leads candidates ports) (hp : ∀ q ∈ ports, q < p) :
    (betterOf candidates x p).Leads candidates (ports ++ [p]) := by
  have hkeep (q : Fin 4) (hq : x.port = some q) : q ∈ ports ++ [p] ∧ candidates.get q = some x.offer :=
    ⟨List.mem_append_left _ (h.placed q hq).1, (h.placed q hq).2⟩
  unfold betterOf
  split
  next o ho =>
    split
    next hbeats =>
      rw [Offer.beats_iff] at hbeats
      refine ⟨fun q hq => ?_, fun q hq y hy => ?_⟩
      · cases hq
        exact ⟨by simp, ho⟩
      · rcases List.mem_append.mp hq with hq | hq
        · have hqx := h.first q hq y hy
          dsimp only
          omega
        · obtain rfl := List.mem_singleton.mp hq
          obtain rfl : o = y := by simpa [ho] using hy
          simp
    next hbeats =>
      rw [Offer.beats_iff] at hbeats
      refine ⟨hkeep, fun q hq y hy => ?_⟩
      rcases List.mem_append.mp hq with hq | hq
      · exact h.first q hq y hy
      · obtain rfl := List.mem_singleton.mp hq
        obtain rfl : o = y := by simpa [ho] using hy
        have hbefore : ∀ r ∈ x.port, r ≤ q := fun r hr => le_of_lt (hp r (h.placed r hr).1)
        rcases Nat.lt_trichotomy x.offer.hops o.hops with hh | hh | hh
        · omega
        · by_cases hv : o.value = x.offer.value
          · exact .inr ⟨hv, .inr ⟨hh, hbefore⟩⟩
          · omega
        · omega
  next hnone =>
    refine ⟨hkeep, fun q hq y hy => ?_⟩
    rcases List.mem_append.mp hq with hq | hq
    · exact h.first q hq y hy
    · obtain rfl := List.mem_singleton.mp hq
      simp [hnone] at hy

theorem foldl_betterOf_leads : ∀ {more ports : List (Fin 4)} {x : Placed}, x.Leads candidates ports →
    (ports ++ more).Pairwise (· < ·) → (more.foldl (betterOf candidates) x).Leads candidates (ports ++ more)
  | [], ports, x, h, _ => by simpa using h
  | p :: more, ports, x, h, hsorted => by
    have hp : ∀ q ∈ ports, q < p := fun q hq =>
      (List.pairwise_append.mp hsorted).2.2 q hq p (List.mem_cons_self ..)
    have hmore := foldl_betterOf_leads (betterOf_leads h hp) (more := more) (by simpa using hsorted)
    simpa using hmore

end

/-- The best offer is the own offer, or a candidate that beats it. -/
def Placed.ownOrBetter (own : Offer) (x : Placed) : Prop :=
  (x.port = none → x.offer = own) ∧
    ∀ p, x.port = some p → own.value < x.offer.value ∨ own.value = x.offer.value ∧ x.offer.hops < own.hops

theorem betterOf_ownOrBetter {own : Offer} (candidates : Tbl 4 (Option Offer)) {x : Placed} (h : x.ownOrBetter own)
    (p : Fin 4) : (betterOf candidates x p).ownOrBetter own := by
  unfold betterOf
  split
  next o _ =>
    split
    next hbeats =>
      rw [Offer.beats_iff] at hbeats
      refine ⟨nofun, fun q _ => ?_⟩
      obtain ⟨hnone, hsome⟩ := h
      dsimp only
      cases hport : x.port with
      | none =>
        rw [hnone hport] at hbeats
        omega
      | some r =>
        have hr := hsome r hport
        omega
    next => exact h
  next => exact h

theorem foldl_ownOrBetter {own : Offer} (candidates : Tbl 4 (Option Offer)) :
    ∀ (ports : List (Fin 4)) (x : Placed), x.ownOrBetter own → (ports.foldl (betterOf candidates) x).ownOrBetter own
  | [], _, h => h
  | p :: ports, _, h => foldl_ownOrBetter candidates ports _ (betterOf_ownOrBetter candidates h p)

theorem bestOffer_leads (own : Offer) (candidates : Tbl 4 (Option Offer)) :
    (bestOffer own candidates).Leads candidates (List.finRange 4) :=
  foldl_betterOf_leads (ports := []) ⟨nofun, nofun⟩ (List.pairwise_lt_finRange 4)

theorem bestOffer_ownOrBetter (own : Offer) (candidates : Tbl 4 (Option Offer)) :
    (bestOffer own candidates).ownOrBetter own :=
  foldl_ownOrBetter candidates _ _ ⟨fun _ => rfl, nofun⟩

/-- What stands of the best candidate once some ports have been looked at. -/
def standsBest (candidates : Tbl 4 (Option Offer)) (ports : List (Fin 4)) : Option Placed → Prop
  | none => ∀ p ∈ ports, candidates.get p = none
  | some x => x.Leads candidates ports ∧ x.port.isSome = true

section
variable {candidates : Tbl 4 (Option Offer)} {ports : List (Fin 4)} {p : Fin 4}

theorem betterOf_port {x : Placed} (h : x.port.isSome = true) : (betterOf candidates x p).port.isSome = true := by
  unfold betterOf
  split
  · split
    · rfl
    · exact h
  · exact h

theorem betterCandidate_stands {cur : Option Placed} (h : standsBest candidates ports cur) (hp : ∀ q ∈ ports, q < p) :
    standsBest candidates (ports ++ [p]) (betterCandidate candidates cur p) := by
  unfold betterCandidate
  split
  next x _ =>
    obtain ⟨hleads, hport⟩ := h
    exact ⟨betterOf_leads hleads hp, betterOf_port hport⟩
  next o ho =>
    have hnone : ∀ q ∈ ports, candidates.get q = none := h
    refine ⟨⟨fun q hq => ?_, fun q hq y hy => ?_⟩, rfl⟩
    · cases hq
      exact ⟨by simp, ho⟩
    · rcases List.mem_append.mp hq with hq | hq
      · simp [hnone q hq] at hy
      · obtain rfl := List.mem_singleton.mp hq
        obtain rfl : o = y := by simpa [ho] using hy
        simp
  next ho =>
    have hnone : ∀ q ∈ ports, candidates.get q = none := h
    intro q hq
    rcases List.mem_append.mp hq with hq | hq
    · exact hnone q hq
    · obtain rfl := List.mem_singleton.mp hq
      exact ho

theorem foldl_betterCandidate_stands : ∀ {more ports : List (Fin 4)} {cur : Option Placed},
    standsBest candidates ports cur → (ports ++ more).Pairwise (· < ·) →
    standsBest candidates (ports ++ more) (more.foldl (betterCandidate candidates) cur)
  | [], ports, cur, h, _ => by simpa using h
  | p :: more, ports, cur, h, hsorted => by
    have hp : ∀ q ∈ ports, q < p := fun q hq =>
      (List.pairwise_append.mp hsorted).2.2 q hq p (List.mem_cons_self ..)
    have hmore := foldl_betterCandidate_stands (betterCandidate_stands h hp) (more := more) (by simpa using hsorted)
    simpa using hmore

end

theorem bestCandidate_stands (candidates : Tbl 4 (Option Offer)) :
    standsBest candidates (List.finRange 4) (bestCandidate candidates) :=
  foldl_betterCandidate_stands (ports := []) (cur := none) nofun (List.pairwise_lt_finRange 4)

/-! ## The emphasised port (R136) -/

theorem emphasisOf_of_normal (best : Placed) (candidates : Tbl 4 (Option Offer)) :
    emphasisOf .normal best candidates = if 1 ≤ best.offer.value then best.port else none := rfl

/-- Outside NORMAL the port of the best candidate is emphasised, where its value is 1 or more. -/
theorem emphasisOf_some {zone : ZoneState} (hz : zone ≠ .normal) {best : Placed} {candidates : Tbl 4 (Option Offer)}
    {p : Fin 4} (h : emphasisOf zone best candidates = some p) :
    ∃ o ∈ candidates.get p, 1 ≤ o.value ∧ ∀ q, ∀ x ∈ candidates.get q,
      x.value < o.value ∨ x.value = o.value ∧ (o.hops < x.hops ∨ o.hops = x.hops ∧ p ≤ q) := by
  have hstands := bestCandidate_stands candidates
  unfold emphasisOf at h
  rw [if_neg hz] at h
  split at h
  next x hx =>
    rw [hx] at hstands
    obtain ⟨hleads, -⟩ := hstands
    unfold worthyPort at h
    split at h
    next hworth =>
      refine ⟨x.offer, (hleads.placed p h).2, hworth, fun q y hy => ?_⟩
      obtain hless | ⟨hv, hhops | ⟨hhops, hports⟩⟩ := hleads.first q (List.mem_finRange q) y hy
      · exact .inl hless
      · exact .inr ⟨hv, .inl hhops⟩
      · exact .inr ⟨hv, .inr ⟨hhops, hports p h⟩⟩
    next => cases h
  next => cases h

theorem emphasisOf_none {zone : ZoneState} (hz : zone ≠ .normal) {best : Placed} {candidates : Tbl 4 (Option Offer)}
    (h : emphasisOf zone best candidates = none) (q : Fin 4) : ∀ x ∈ candidates.get q, x.value = 0 := by
  intro y hy
  have hstands := bestCandidate_stands candidates
  unfold emphasisOf at h
  rw [if_neg hz] at h
  split at h
  next x hx =>
    rw [hx] at hstands
    obtain ⟨hleads, hport⟩ := hstands
    unfold worthyPort at h
    split at h
    next => rw [h] at hport; cases hport
    next hworthless =>
      have hfirst := hleads.first q (List.mem_finRange q) y hy
      omega
  next hx =>
    rw [hx] at hstands
    have hnone : candidates.get q = none := hstands q (List.mem_finRange q)
    simp [hnone] at hy

/-! ## The guidance unit re-formed (R135) -/

theorem Guide.startRecord_signs (g : Guide) (i : Fin 2) :
    (g.startRecord.signs.get i).slots = (g.signs.get i).slots ∧
    (g.startRecord.signs.get i).legend = (g.signs.get i).legend := by
  unfold Guide.startRecord
  split
  next j _ _ =>
    dsimp only
    by_cases hij : i = j
    · subst hij
      rw [Tbl.get_set_self]
      exact ⟨rfl, rfl⟩
    · rw [Tbl.get_set_ne _ _ hij]
      exact ⟨rfl, rfl⟩
  next => exact ⟨rfl, rfl⟩

theorem Guide.startRecord_offers (g : Guide) : g.startRecord.own = g.own ∧
    g.startRecord.candidates = g.candidates ∧ g.startRecord.best = g.best ∧ g.startRecord.bestPort = g.bestPort ∧
    g.startRecord.emphasised = g.emphasised := by
  unfold Guide.startRecord
  split <;> exact ⟨rfl, rfl, rfl, rfl, rfl⟩

/-- What the guidance unit holds once it has re-formed. -/
structure State.GuideReformed (s : State) (g : Guide) : Prop where
  own : g.own = s.guide.own
  candidates : g.candidates = s.guide.candidates
  best : g.best = (bestOffer s.guide.own s.guide.candidates).offer
  bestPort : g.bestPort = (bestOffer s.guide.own s.guide.candidates).port
  emphasised : g.emphasised =
    emphasisOf s.zone.state (bestOffer s.guide.own s.guide.candidates) s.guide.candidates
  advert : (⟨g.advGeneral, g.advAccessible, g.advOffer⟩ : Advert) = s.reformBest.advert
  slots : ∀ i, (g.signs.get i).slots = (s.settings.slots.get i).map s.reformBest.slotOf
  legend : ∀ i, (g.signs.get i).legend = s.legendOf

/-- The signs are formed again from the best offer as it then is. -/
theorem State.reformSigns_signs (s : State) (i : Fin 2) :
    (s.reformSigns.guide.signs.get i).slots = (s.settings.slots.get i).map s.slotOf ∧
    (s.reformSigns.guide.signs.get i).legend = s.legendOf := by
  obtain ⟨hslots, hlegend⟩ := Guide.startRecord_signs ({ s.guide with
    signs := s.guide.signs.mapIdx fun i g => g.reform ((s.settings.slots.get i).map s.slotOf) s.legendOf } : Guide) i
  have hget := Tbl.get_mapIdx (fun i (g : Sign) => g.reform ((s.settings.slots.get i).map s.slotOf) s.legendOf)
    s.guide.signs i
  exact ⟨hslots.trans (congrArg Sign.slots hget), hlegend.trans (congrArg Sign.legend hget)⟩

theorem State.reformAdvert_guide (s : State) : ∃ k, s.reformAdvert.guide = { s.guide with
    advGeneral := s.advert.general, advAccessible := s.advert.accessible, advOffer := s.advert.offer
    counters := k } := by
  unfold State.reformAdvert
  dsimp only
  split
  · exact ⟨_, rfl⟩
  · exact ⟨_, rfl⟩

theorem State.reformGuide_reformed (s : State) : s.GuideReformed s.reformGuide.guide := by
  obtain ⟨k, hadvert⟩ := s.reformBest.reformSigns.reformAdvert_guide
  obtain ⟨hown, hcandidates, hbest, hport, hemphasised⟩ := Guide.startRecord_offers ({ s.reformBest.guide with
    signs := s.reformBest.guide.signs.mapIdx fun i g =>
      g.reform ((s.settings.slots.get i).map s.reformBest.slotOf) s.reformBest.legendOf } : Guide)
  have hsame : s.reformBest.reformSigns.advert = s.reformBest.advert := by
    have hoffer : s.reformBest.reformSigns.guide.best = s.reformBest.guide.best := hbest
    unfold State.advert
    rw [hoffer]
    rfl
  have hguide : s.reformGuide.guide = s.reformBest.reformSigns.reformAdvert.guide := rfl
  rw [hguide, hadvert]
  exact ⟨hown, hcandidates, hbest, hport, hemphasised, hsame, fun i => (s.reformBest.reformSigns_signs i).1,
    fun i => (s.reformBest.reformSigns_signs i).2⟩

/-- The guidance is formed where a station of the same zone state, settings, bays and neighbours has just re-formed. -/
theorem State.guidanceFormed_of_reformed {s t : State} (h : s.GuideReformed t.guide) (hz : t.zone.state = s.zone.state)
    (hset : t.settings = s.settings) (hbays : t.scanner.bays = s.scanner.bays) (hpeers : t.peers = s.peers) :
    t.guidanceFormed := by
  have hcount (cls : BayClass) : t.freeCount cls = s.freeCount cls := by
    unfold State.freeCount
    rw [hbays, hset]
  have hleads := bestOffer_leads s.guide.own s.guide.candidates
  obtain ⟨hown, hbetter⟩ := bestOffer_ownOrBetter s.guide.own s.guide.candidates
  have hadvert := h.advert
  rw [Advert.mk.injEq] at hadvert
  obtain ⟨hgeneral, haccessible, hoffer⟩ := hadvert
  unfold State.guidanceFormed
  dsimp only
  rw [h.own, h.candidates, h.best, h.bestPort, hgeneral, haccessible, hoffer, h.emphasised, hz, hcount, hcount]
  refine ⟨hown, fun p hp => ⟨(hleads.placed p hp).2, hbetter p hp⟩, fun p => hleads.first p (List.mem_finRange p),
    fun hnormal => ?_, fun hzone => ?_, fun i => ⟨?_, fun j => ?_⟩⟩
  · have hformed : s.reformBest.advert =
        ⟨s.freeCount .general, s.freeCount .accessible, (bestOffer s.guide.own s.guide.candidates).offer⟩ :=
      if_pos hnormal
    rw [hformed, hnormal]
    exact ⟨rfl, rfl, rfl, rfl⟩
  · have hformed : s.reformBest.advert = ⟨0, 0, Offer.zero s.settings.unit⟩ := if_neg hzone
    rw [hformed, hset]
    exact ⟨rfl, rfl, rfl, fun p hp => emphasisOf_some hzone hp, fun hnone => emphasisOf_none hzone hnone⟩
  · rw [h.legend]
    unfold State.legendOf State.grave
    rw [hz]
  · have hslot : ((t.guide.signs.get i).slots.get j) = s.reformBest.slotOf ((s.settings.slots.get i).get j) := by
      rw [h.slots]
      exact Tbl.get_map ..
    rw [hslot, hset, hpeers]
    unfold State.slotOf
    cases (s.settings.slots.get i).get j with
    | none => rfl
    | some p =>
      dsimp only
      have hplace : s.reformBest.settings.placeOfPort p = s.settings.placeOfPort p := rfl
      rw [hplace]
      cases s.settings.placeOfPort p with
      | none => rfl
      | some n =>
        have hcontents : (s.reformBest.peers.get n).contents = (s.peers.get n).contents := rfl
        dsimp only [Option.bind_some]
        rw [hcontents]
        cases (s.peers.get n).contents with
        | none => rfl
        | some c =>
          dsimp only
          have hcandidate : s.reformBest.guide.candidates.get p = s.guide.candidates.get p := rfl
          rw [hcandidate]
          split
          · rfl
          · cases s.guide.candidates.get p with
            | none => rfl
            | some o =>
              dsimp only
              by_cases ho : o.value = 0
              · simp [ho]
              · rw [if_neg ho, if_pos (Nat.one_le_iff_ne_zero.mpr ho)]
                rfl

theorem State.guidanceFormed_reformGuide (s : State) : s.reformGuide.guidanceFormed :=
  State.guidanceFormed_of_reformed s.reformGuide_reformed (by simp) (by simp) (by simp) (by simp)

end Sys2Proof.Machine
end


section
/-! Changes of a neighbour entry, as the fume unit, the fan controller and the guidance unit take them (R29, R92 to R94,
R131, R132). -/

namespace Sys2Proof.Machine

/-! ## A station with a fan available -/

/-- What notices, reports and a demand worked out again leave of the bus side. -/
structure Comms.Calm (cfg : Settings) (c d : Comms) : Prop where
  available : ∀ i, available cfg d.fan i = available cfg c.fan i
  noVent : c.fan.noVent = false → (List.finRange 4).any (Machine.available cfg c.fan) = true → d.fan.noVent = false
  requests : d.service.queue = c.service.queue
  bus : d.link.busFreeCount = c.link.busFreeCount
  counters : d.link.counters = c.link.counters
  heard : d.link.peer.heard = c.link.peer.heard

namespace Comms.Calm

variable {cfg : Settings} {b c d : Comms}

theorem refl : c.Calm cfg c := ⟨fun _ => rfl, fun h _ => h, rfl, rfl, rfl, rfl⟩

theorem trans (h : b.Calm cfg c) (k : c.Calm cfg d) : b.Calm cfg d where
  available i := (k.available i).trans (h.available i)
  noVent hv hany := k.noVent (h.noVent hv hany) (by rwa [funext h.available])
  requests := k.requests.trans h.requests
  bus := k.bus.trans h.bus
  counters := k.counters.trans h.counters
  heard := k.heard.trans h.heard

theorem of_starts (h : c.Starts d) (hcounters : d.link.counters = c.link.counters) : c.Calm cfg d :=
  ⟨h.available cfg, fun hv _ => h.noVent.trans hv, h.requests, h.bus, hcounters, h.heard⟩

end Comms.Calm

theorem Comms.Reported.calm {cfg : Settings} {c d : Comms} (h : c.Reported d) : c.Calm cfg d := by
  refine .of_starts h.starts ?_
  induction h with
  | refl => rfl
  | tail _ hlast ih =>
    obtain ⟨e, rfl⟩ := hlast
    rw [← ih]
    simp

theorem reworkDemand_calm (e : Env) (c : Comms) : c.Calm e.settings (reworkDemand e c) where
  available := reworkDemand_available e c
  noVent := reworkDemand_noVent e
  requests := by simp
  bus := by simp
  counters := by simp
  heard := by
    rw [reworkDemand_cases]
    split
    · rfl
    · exact (setStage_starts ..).heard

/-- A command that ends a quiet station with a fan available leaves nothing for the end of the step. -/
theorem done_calm {s t : State} (hq : s.quiet = true) (hv : s.vented = true) (hmode : t.mode = s.mode)
    (hzone : t.zone = s.zone) (hcomms : s.comms.Calm s.settings t.comms) :
    done t = .next { t with moment := t.moment + 1 } := by
  obtain ⟨hnoVent, hany⟩ := s.vented_iff.mp hv
  obtain ⟨htold, hempty, hbusy⟩ := s.quiet_iff.mp hq
  refine done_of_quiet (t.quiet_iff.mpr ⟨fun ho => ?_, hcomms.requests.trans hempty, hcomms.bus ▸ hbusy⟩)
  rw [hzone, hcomms.noVent hnoVent hany, ← hnoVent]
  exact htold (by unfold State.operating at ho ⊢; rwa [hmode] at ho)

/-- The same after another party's frame has been counted. -/
theorem State.counted_quiet {s : State} (h : s.quiet = true) : s.counted.quiet = true := by
  obtain ⟨htold, hempty, -⟩ := s.quiet_iff.mp h
  exact s.counted.quiet_iff.mpr ⟨htold, hempty, (nofun : (0 : Nat) ≠ 16)⟩

/-! ## What an entry brings (R29, R94, R131, R132) -/

theorem State.presentTerm_calm (s : State) (n : Fin 8) : s.comms.Calm s.settings (s.presentTerm n).comms :=
  reworkDemand_calm { s with fume := (s.presentTerm n).fume }.env s.comms

/-- The assist terms with that of a neighbour entry as it stands. -/
def State.termsWith (s : State) (n : Fin 8) : Tbl 8 (Option Nat) :=
  s.fume.terms.set n (assistOf (s.settings.neighbours.get n).weight (s.peers.get n))

theorem State.presentTerm_fume (s : State) (n : Fin 8) :
    (s.presentTerm n).fume = ({ s.fume with terms := s.termsWith n } : Fume).formed s.settings := rfl

theorem State.presentEntry_reported (s : State) (n : Fin 8) : s.comms.Reported (s.presentEntry n).comms := by
  unfold State.presentEntry
  split
  · exact .refl
  next p _ =>
    have hcomms : (s.reformCandidate p).comms = s.comms := by simp
    rw [← hcomms]
    exact State.reformGuide_reported _

theorem State.presentNeighbour_calm (s : State) (n : Fin 8) :
    s.comms.Calm s.settings (s.presentNeighbour n).comms :=
  (s.presentTerm_calm n).trans ((s.presentTerm n).presentEntry_reported n).calm

theorem State.presentNeighbour_fume (s : State) (n : Fin 8) : 
    (s.presentNeighbour n).fume = ({ s.fume with terms := s.termsWith n } : Fume).formed s.settings := by
  unfold State.presentNeighbour
  rw [← State.presentTerm_fume]
  simp

theorem zoneStateOfCode_normal_iff (n : Nat) : zoneStateOfCode n = some .normal ↔ n = 0 := by
  unfold zoneStateOfCode
  split
  · simp_all
  · split
    · simp_all
    · split
      · simp_all
      · split <;> simp_all

theorem zoneStateOfCode_named {n : Nat} (h : n ≤ 3) : ∃ z, zoneStateOfCode n = some z := by
  obtain rfl | rfl | rfl | rfl : n = 0 ∨ n = 1 ∨ n = 2 ∨ n = 3 := by omega
  all_goals exact ⟨_, rfl⟩

theorem zoneStateOfCode_unnamed {n : Nat} (h : 4 ≤ n) : zoneStateOfCode n = none := by
  unfold zoneStateOfCode
  rw [if_neg (by omega), if_neg (by omega), if_neg (by omega), if_neg (by omega)]

/-- The tests of R131 as one condition. -/
theorem testReport_eligible_iff (unit : Nat) (r : Report) : testReport unit r = .eligible ↔
    r.zoneState = 0 ∧ r.origin ≠ unit ∧ 1 ≤ r.origin ∧ r.origin ≤ 62 ∧ r.nextHop ≠ unit ∧ r.hops < 8 := by
  unfold testReport
  simp only [ne_eq, zoneStateOfCode_normal_iff]
  have hlimit : Config.hopLimit = 8 := rfl
  split
  next hzone => simp [hzone]
  next hzone =>
    split
    next horigin => simp; omega
    next horigin =>
      split
      next hhop => simp [hhop]
      next hhop =>
        split
        next hhops => simp; omega
        next hhops => simp; omega

/-- The candidate of a port with a neighbour entry of contents (R131, R132). -/
theorem State.reformCandidate_candidate {s : State} {p : Fin 4} {n : Fin 8} {x : Contents}
    (hplace : s.settings.placeOfPort p = some n) (hx : (s.peers.get n).contents = some x) :
    (s.reformCandidate p).guide.candidates.get p =
      (if x.report.zoneState = 0 ∧ x.report.origin ≠ s.settings.unit ∧ 1 ≤ x.report.origin ∧ x.report.origin ≤ 62 ∧
          x.report.nextHop ≠ s.settings.unit ∧ x.report.hops < 8
        then some (candidateOf (s.settings.neighbours.get n) (decide ((s.peers.get n).fresh = .stale)) x.report)
        else none) := by
  have hform : (s.reformCandidate p).guide.candidates.get p = match testReport s.settings.unit x.report with
      | .eligible => some (candidateOf (s.settings.neighbours.get n) (decide ((s.peers.get n).fresh = .stale)) x.report)
      | _ => none := by
    unfold State.reformCandidate
    simp only [hplace, hx]
    exact (Tbl.get_set_self ..).trans rfl
  rw [hform]
  split
  next htest => rw [if_pos ((testReport_eligible_iff ..).mp htest)]
  next htest => rw [if_neg fun h => htest ((testReport_eligible_iff ..).mpr h)]

/-- An empty entry brings no candidate. -/
theorem State.reformCandidate_cleared {s : State} {p : Fin 4} {n : Fin 8}
    (hplace : s.settings.placeOfPort p = some n) (hx : (s.peers.get n).contents = none) :
    (s.reformCandidate p).guide.candidates.get p = none := by
  unfold State.reformCandidate
  simp only [hplace, hx]
  exact Tbl.get_set_self ..

/-- The candidates after an entry has been presented at its port. -/
theorem State.presentNeighbour_candidates {s : State} {n : Fin 8} {p : Fin 4}
    (hp : (s.settings.neighbours.get n).port = some p) :
    (s.presentNeighbour n).guide.candidates = (s.reformCandidate p).guide.candidates := by
  have hport : ((s.presentTerm n).settings.neighbours.get n).port = some p := by simpa using hp
  unfold State.presentNeighbour State.presentEntry
  rw [hport]
  dsimp only
  rw [(State.reformGuide_reformed _).candidates]
  unfold State.reformCandidate
  have hset : (s.presentTerm n).settings = s.settings := by simp
  have hpeers : (s.presentTerm n).peers = s.peers := by simp
  have hguide : (s.presentTerm n).guide = s.guide := by simp
  rw [hset, hpeers, hguide]
  split
  · rfl
  · dsimp only
    split <;> rfl

theorem State.presentNeighbour_formed {s : State} {n : Fin 8} {p : Fin 4}
    (hp : (s.settings.neighbours.get n).port = some p) : (s.presentNeighbour n).guidanceFormed := by
  have hport : ((s.presentTerm n).settings.neighbours.get n).port = some p := by simpa using hp
  unfold State.presentNeighbour State.presentEntry
  rw [hport]
  exact State.guidanceFormed_reformGuide _

/-- Whether the guidance is formed rests on the guidance unit, the zone state, the settings, the bays and the
neighbours. -/
theorem State.guidanceFormed_congr {s t : State} (hguide : t.guide = s.guide) (hz : t.zone.state = s.zone.state)
    (hset : t.settings = s.settings) (hbays : t.scanner.bays = s.scanner.bays) (hpeers : t.peers = s.peers)
    (h : s.guidanceFormed) : t.guidanceFormed := by
  unfold State.guidanceFormed State.freeCount State.grave at *
  rw [hguide, hz, hset, hbays, hpeers]
  exact h

/-! ## Stale and lost (R93) -/

/-- A presentation on a quiet station with a fan available. -/
theorem done_presentNeighbour {u : State} (hq : u.quiet = true) (hv : u.vented = true) (n : Fin 8) :
    ∃ t, done (u.presentNeighbour n) = .next t ∧
      t = { u with
        fume := { u.fume with terms := t.fume.terms, es0 := t.fume.es0, es := t.fume.es }
        comms := t.comms
        guide := t.guide
        moment := u.moment + 1 } ∧
      t.fume = ({ u.fume with terms := u.termsWith n } : Fume).formed u.settings ∧
      u.comms.Calm u.settings t.comms ∧ t.guide = (u.presentNeighbour n).guide := by
  have hcalm := u.presentNeighbour_calm n
  have hform := u.presentNeighbour_fume n
  obtain ⟨hmode, hset, hnow, hmoment, hgas, hpeers, hscanner, htracker, hlamps, hzone, hstore, hpending⟩ :=
    u.presentNeighbour_frame n
  refine ⟨_, done_calm hq hv hmode hzone hcalm, ?_, hform, hcalm, rfl⟩
  rw [State.mk.injEq]
  refine ⟨hmode, hset, hnow, by rw [hmoment], hgas, ?_, rfl, hpeers, hscanner, htracker, rfl, hlamps, hzone, hstore,
    hpending⟩
  dsimp only
  rw [hform]
  rfl

/-- The entry that its stale timer has turned STALE. -/
def State.staled (s : State) (n : Fin 8) : State :=
  s.setPeer n { s.peers.get n with fresh := .stale, stale := .stopped }

/-- The entry that its lost timer has turned LOST. -/
def State.forgot (s : State) (n : Fin 8) : State :=
  (s.setPeer n Neighbour.reset).countPeer fun k => { k with neighboursLost := bump k.neighboursLost }

/-- Settles O39: the entry changes by its timer, and is presented. -/
theorem silentNeighbourTurnsStaleThenLost : Obligations.SilentNeighbourTurnsStaleThenLost := by
  intro n s hq hv
  refine ⟨fun hfresh hrun => ?_, fun hstale hrun => ?_⟩
  · obtain ⟨t, hdone, hframe, hfume, -, hguide⟩ := done_presentNeighbour (u := s.staled n) hq hv n
    have hpeer : (s.staled n).peers.get n = { s.peers.get n with fresh := .stale, stale := .stopped } :=
      Tbl.get_set_self ..
    refine ⟨t, (congrArg done (if_pos ⟨hfresh, hrun⟩)).trans hdone, hframe, fun x hx => ⟨?_, fun p hp hplace => ?_⟩⟩
    · rw [hfume]
      refine (Tbl.get_set_self ..).trans ?_
      rw [hpeer]
      simp [assistOf, hx, Config.top, State.staled, State.setPeer]
    · rw [hguide, State.presentNeighbour_candidates (s := s.staled n) hp,
        State.reformCandidate_candidate (s := s.staled n) hplace (by rw [hpeer]; exact hx), hpeer]
      rfl
  · obtain ⟨t, hdone, hframe, hfume, hcalm, hguide⟩ := done_presentNeighbour (u := s.forgot n) hq hv n
    have hpeer : (s.forgot n).peers.get n = Neighbour.reset := Tbl.get_set_self ..
    have hterms : t.fume.terms = s.fume.terms.set n none := by
      rw [hfume]
      show s.fume.terms.set n (assistOf _ _) = _
      rw [hpeer]
      rfl
    refine ⟨t, (congrArg done (if_pos ⟨hstale, hrun⟩)).trans hdone, ?_, congrArg PeerCounters.neighboursLost hcalm.heard,
      fun p hp hplace => ?_⟩
    · rw [← hterms]
      exact hframe
    · rw [hguide, State.presentNeighbour_candidates (s := s.forgot n) hp]
      exact State.reformCandidate_cleared (s := s.forgot n) hplace (by rw [hpeer]; rfl)

/-! ## Reports taken (R92) -/

/-- The bus side that has counted a report. -/
def Comms.reported (c : Comms) : Comms :=
  { c with link := { c.link with
      busFreeCount := 0
      stuck := .stopped
      stuckSpell := false
      counters := { c.link.counters with framesTaken := bump c.link.counters.framesTaken }
      peer := { c.link.peer with reportsTaken := bump c.link.peer.reportsTaken } } }

/-- The entry that a report fills. -/
def Contents.entry (cfg : Settings) (x : Contents) : Neighbour :=
  ⟨some x, .fresh, .running (1000 * cfg.staleTime), .running (1000 * cfg.lostTime)⟩

/-- The station whose entry a report has filled. -/
def State.reported (s : State) (n : Fin 8) (r : Report) : State :=
  { s with comms := s.comms.reported, peers := s.peers.set n (Contents.entry s.settings ⟨r, s.now⟩) }

theorem State.reportReceived_of_place {s : State} {sender : Nat} {n : Fin 8} {r : Report}
    (hn : s.settings.placeOfUnit sender = some n) (hz : r.zoneState ≤ 3) :
    s.counted.reportReceived sender r =
      if (s.peers.get n).changedBy r then (s.reported n r).presentNeighbour n else s.reported n r := by
  obtain ⟨z, hz⟩ := zoneStateOfCode_named hz
  have hn' : s.counted.settings.placeOfUnit sender = some n := hn
  unfold State.reportReceived
  rw [hn', hz]
  rfl

theorem State.reportReceived_of_none {s : State} {sender : Nat} {r : Report}
    (h : s.settings.placeOfUnit sender = none ∨ 4 ≤ r.zoneState) :
    s.counted.reportReceived sender r = s.counted.countPeer .ignored := by
  unfold State.reportReceived
  obtain hn | hz := h
  · have hn' : s.counted.settings.placeOfUnit sender = none := hn
    rw [hn']
  · rw [zoneStateOfCode_unnamed hz]
    split
    next hzone => cases hzone
    next => rfl

theorem Neighbour.changedBy_iff (x : Neighbour) (r : Report) :
    x.changedBy r = true ↔ x.fresh ≠ .fresh ∨ x.contents.map (·.report) ≠ some r := by
  simp [Neighbour.changedBy]

theorem State.reported_quiet {s : State} (h : s.quiet = true) (n : Fin 8) (r : Report) :
    (s.reported n r).quiet = true :=
  (s.reported n r).quiet_iff.mpr (s.counted.quiet_iff.mp (State.counted_quiet h))

/-- A report that changes its entry, presented. -/
theorem State.presented_report {s t : State} {n : Fin 8} {r : Report}
    (hfume : t.fume = ({ s.fume with terms := (s.reported n r).termsWith n } : Fume).formed s.settings)
    (hguide : t.guide = ((s.reported n r).presentNeighbour n).guide) (hzone : t.zone = s.zone)
    (hset : t.settings = s.settings) (hbays : t.scanner.bays = s.scanner.bays)
    (hpeers : t.peers = (s.reported n r).peers) :
    t.fume.terms = s.fume.terms.set n (some (min 1023 r.fs * (s.settings.neighbours.get n).weight / 8)) ∧
    t.fume.es0 = t.fume.terms.cells.foldl (fun m x => max m (x.getD 0)) s.fume.fs ∧
    t.fume.es = min 1023 (t.fume.es0 + (s.fume.m * s.settings.km + s.fume.q * s.settings.kq) / 4) ∧
    ∀ p, (s.settings.neighbours.get n).port = some p → s.settings.placeOfPort p = some n →
      t.guide.candidates.get p =
        (if r.zoneState = 0 ∧ r.origin ≠ s.settings.unit ∧ 1 ≤ r.origin ∧ r.origin ≤ 62 ∧
            r.nextHop ≠ s.settings.unit ∧ r.hops < 8
          then some ⟨r.value * (256 - (s.settings.neighbours.get n).cost) / 256, r.free, r.hops + 1, r.origin,
            some (s.settings.neighbours.get n).unit⟩
          else none) ∧
      t.guidanceFormed := by
  have hpeer : (s.reported n r).peers.get n = Contents.entry s.settings ⟨r, s.now⟩ := Tbl.get_set_self ..
  refine ⟨?_, ?_, ?_, fun p hp hplace => ⟨?_, ?_⟩⟩
  · rw [hfume]
    show s.fume.terms.set n (assistOf _ _) = _
    rw [hpeer]
    rfl
  · rw [hfume]
    rfl
  · rw [hfume]
    rfl
  · rw [hguide, State.presentNeighbour_candidates (s := s.reported n r) hp,
      State.reformCandidate_candidate (s := s.reported n r) hplace (x := ⟨r, s.now⟩) (by rw [hpeer]; rfl), hpeer]
    rfl
  · exact State.guidanceFormed_congr hguide (by rw [hzone]; simp [State.reported]) (by rw [hset]; simp [State.reported])
      (by rw [hbays]; simp [State.reported]) (by rw [hpeers]; simp)
      (State.presentNeighbour_formed (s := s.reported n r) hp)

/-- Settles O38: the entry is filled, and presented where that changes it. -/
theorem zoneReportFillsTheNeighbourEntry : Obligations.ZoneReportFillsTheNeighbourEntry := by
  intro sender payload s hq hv ho hsender
  have hexec : exec (.zoneReportTaken sender payload) s =
      done (s.counted.reportReceived sender.toNat (reportOf payload)) :=
    congrArg done (State.taken_of_passed _ ho hsender)
  generalize reportOf payload = r at *
  refine ⟨fun n hn hz => ?_, fun hnone => ?_⟩
  · rw [State.reportReceived_of_place hn hz] at hexec
    have hrq := State.reported_quiet hq n r
    by_cases hchanged : (s.peers.get n).changedBy r = true
    · rw [if_pos hchanged] at hexec
      obtain ⟨t, hdone, hframe, hfume, hcalm, hguide⟩ := done_presentNeighbour hrq hv n
      refine ⟨t, hexec.trans hdone, hframe, congrArg PeerCounters.reportsTaken hcalm.heard,
        congrArg LinkCounters.framesTaken hcalm.counters, fun hfresh hsame => ?_, fun _ => ?_⟩
      · obtain hchanged | hchanged := (Neighbour.changedBy_iff ..).mp hchanged
        · exact absurd hfresh hchanged
        · exact absurd hsame hchanged
      · exact State.presented_report hfume hguide (by rw [hframe]; rfl) (by rw [hframe]; rfl) (by rw [hframe]; rfl)
          (by rw [hframe])
    · rw [if_neg hchanged] at hexec
      have hsame := mt (Neighbour.changedBy_iff ..).mpr hchanged
      exact ⟨_, hexec.trans (done_of_quiet hrq), rfl, rfl, rfl, fun _ _ => ⟨rfl, rfl⟩, fun h => absurd h hsame⟩
  · rw [State.reportReceived_of_none hnone] at hexec
    refine hexec.trans ((done_of_quiet ?_).trans ?_)
    · exact (s.counted.countPeer .ignored).quiet_iff.mpr (s.counted.quiet_iff.mp (State.counted_quiet hq))
    · unfold State.countPeer State.counted State.countLink State.otherFrame Comms.countLink Comms.countPeer
      rfl

end Sys2Proof.Machine
end


section
/-! Start notices of other stations: entry, replacement and expiry (R42, R95 to R97). -/

namespace Sys2Proof.Machine

section
variable {now unit fan w : Nat} {c : Comms}

/-- An entry in the place of one of the same unit and fan. -/
theorem enterNotice_of_same (h : ∃ x ∈ c.notices, x.unit = unit ∧ x.fan = fan) :
    enterNotice now unit fan w c = { c with
      notices := (c.notices.filter fun x => !(decide (x.unit = unit) && decide (x.fan = fan))) ++
        [⟨unit, fan, now, w, 1000 * w⟩] } := by
  have hany : c.notices.any (Notice.isOf unit fan) = true := by
    simpa [Notice.isOf] using h
  exact if_pos hany

/-- A new entry joins the list, and where the list is full its first leaves. -/
theorem enterNotice_of_new (h : ∀ x ∈ c.notices, ¬(x.unit = unit ∧ x.fan = fan)) :
    enterNotice now unit fan w c =
      if c.notices.length < 16 then { c with notices := c.notices ++ [⟨unit, fan, now, w, 1000 * w⟩] }
      else ({ c with notices := c.notices.drop 1 ++ [⟨unit, fan, now, w, 1000 * w⟩] } : Comms).countPeer fun k =>
        { k with noticesOverflow := bump k.noticesOverflow } := by
  have hany : ¬c.notices.any (Notice.isOf unit fan) = true := by
    simpa [Notice.isOf] using h
  exact if_neg hany

theorem enterNotice_peer : ∃ p n, enterNotice now unit fan w c =
    { c with link := { c.link with peer := p }, notices := n } ∧ p.noticesHeard = c.link.peer.noticesHeard := by
  unfold enterNotice
  dsimp only
  split
  · exact ⟨c.link.peer, _, rfl, rfl⟩
  · split
    · exact ⟨c.link.peer, _, rfl, rfl⟩
    · exact ⟨_, _, rfl, rfl⟩

end

/-- The bus side that has counted a notice of another station. -/
def State.hearing (s : State) : Comms :=
  s.counted.comms.countPeer fun k => { k with noticesHeard := bump k.noticesHeard }

/-- A try with room below K for a notice: it joins the queue (R42). -/
theorem tryNotice_joins {n : Nat} {e : Env} {c : Comms} {i : Fin 4} (hmay : c.mayNotify e = true)
    (hi : c.fan.firstWaiting = some i) (hlive : c.liveCount < e.settings.allowance)
    (hroom : c.link.queue.length < Config.queuePlaces) : tryNotice (n + 1) e c = c.join e (.startNotice i) := by
  have hstate : c.link.state ≠ .silent := by
    simp only [Comms.mayNotify, Bool.and_eq_true, decide_eq_true_eq] at hmay
    rw [hmay.1.1.2]
    nofun
  have hoffer : offerFrame e (.startNotice i) c = ⟨c.join e (.startNotice i), true, none⟩ := by
    simp [offerFrame, hstate, hroom]
  unfold tryNotice
  rw [if_pos hmay, hi]
  simp only [if_pos hlive, hoffer]

/-- A try at a live count of K or more is deferred (R42). -/
theorem tryNotice_defers {n : Nat} {e : Env} {c : Comms} {i : Fin 4} (hmay : c.mayNotify e = true)
    (hi : c.fan.firstWaiting = some i) (hlive : e.settings.allowance ≤ c.liveCount) :
    tryNotice (n + 1) e c = c.countFan fun k => { k with noticeDeferred := bump k.noticeDeferred } := by
  unfold tryNotice
  rw [if_pos hmay, hi]
  exact if_neg (Nat.not_lt.mpr hlive)

/-- Settles O40: the list takes the notice, and an expiry lets the fan controller try. -/
theorem startNoticesLiveForTheirWindow : Obligations.StartNoticesLiveForTheirWindow := by
  intro unit fan w s hq
  refine ⟨fun ho hunit => ?_, fun hentry => ?_⟩
  · have hexec : exec (.startNoticeTaken unit fan w) s = done { s.counted with
        comms := enterNotice s.now unit.toNat fan.toNat (max 2 (min 30 w.toNat)) s.hearing } :=
      congrArg done (State.taken_of_passed _ ho hunit)
    have hnotices : s.hearing.notices = s.comms.notices := rfl
    obtain ⟨p, n, heq, hheard⟩ := enterNotice_peer (now := s.now) (unit := unit.toNat) (fan := fan.toNat)
      (w := max 2 (min 30 w.toNat)) (c := s.hearing)
    refine ⟨_, _, hexec.trans (done_comms (s := s.counted) (State.counted_quiet (s := s) hq) ?_ ?_ ?_), rfl, ?_, ?_,
      fun hsame => ?_, fun hnew => ?_⟩
    · rw [heq]; rfl
    · rw [heq]; rfl
    · rw [heq]; rfl
    · rw [heq]; rfl
    · dsimp only
      rw [heq]
      exact hheard
    · dsimp only
      rw [enterNotice_of_same (c := s.hearing) hsame]
      rfl
    · dsimp only
      rw [enterNotice_of_new (c := s.hearing) hnew, hnotices]
      refine ⟨fun hroom => ?_, fun hfull => ?_⟩
      · rw [if_pos hroom]
      · rw [if_neg (Nat.not_lt.mpr hfull)]
        exact ⟨rfl, rfl⟩
  · generalize hlist : (s.comms.notices.filter fun x =>
      !(decide (x.unit = unit.toNat) && decide (x.fan = fan.toNat))) = l
    have hany : s.comms.notices.any (Notice.isOf unit.toNat fan.toNat) = true := by
      simpa [Notice.isOf] using hentry
    have hexec : exec (.startNoticeEntryExpiry unit fan) s =
        done { s with comms := tryNotice 3 s.env { s.comms with notices := l } } := by
      rw [← hlist]
      exact congrArg (fun c => done { s with comms := c }) (if_pos hany)
    have hstarts := tryNotice_starts s.env 3 { s.comms with notices := l }
    refine ⟨_, hexec.trans (done_comms hq hstarts.noVent hstarts.requests hstarts.bus), rfl, by simp,
      fun ho hactive hnone hrelease i hi => ?_⟩
    have hmay : ({ s.comms with notices := l } : Comms).mayNotify s.env = true := by
      have hope : s.env.operating = true := ho
      simp only [Comms.mayNotify, hope, hactive, hrelease]
      simpa [Comms.hasNotice] using hnone
    have hcount : (tryNotice 3 s.env { s.comms with notices := l }).notices = l := by simp
    dsimp only
    rw [hcount]
    refine ⟨fun hlive hroom => ?_, fun hfull => ?_⟩
    · rw [tryNotice_joins hmay hi hlive hroom]
      refine ⟨?_, rfl⟩
      exact (enqueue_perm ..).mem_iff.mpr (List.mem_cons_self ..)
    · rw [tryNotice_defers hmay hi hfull]
      exact ⟨rfl, rfl⟩

end Sys2Proof.Machine
end


section
/-! Bays given to arrivals and released: what hold rounds, releases and removals leave of the bay records, the lamps and
the guidance (R106, R107, R120 to R127). -/

namespace Sys2Proof.Machine

/-! ## Guidance in step with the bays -/

/-- The guidance is formed, and the own offer is as the free bays give it (R130, R133 to R138). -/
def State.guided (s : State) : Prop := s.guidanceFormed ∧ s.guide.own = s.ownOffer

theorem State.freeCount_congr {s t : State} (hset : t.settings = s.settings)
    (hfree : ∀ b, t.bayState b = .free ↔ s.bayState b = .free) (cls : BayClass) : t.freeCount cls = s.freeCount cls := by
  unfold State.freeCount
  rw [hset]
  exact congrArg (fun p => (List.filter p (List.finRange 48)).length) (funext fun b =>
    congrArg (· && decide ((s.settings.bays.get b).cls = cls)) (decide_eq_decide.mpr (hfree b)))

/-- The guidance reads of the bays only which of them are FREE. -/
theorem State.guided_congr {s t : State} (hguide : t.guide = s.guide) (hzone : t.zone = s.zone)
    (hset : t.settings = s.settings) (hfree : ∀ b, t.bayState b = .free ↔ s.bayState b = .free)
    (hpeers : t.peers = s.peers) (h : s.guided) : t.guided := by
  have hcount := State.freeCount_congr hset hfree
  unfold State.guided State.guidanceFormed State.ownOffer State.grave at *
  simp only [hguide, hzone, hset, hpeers, hcount]
  exact h

theorem State.presentCounts_guided (s : State) : s.presentCounts.guided := by
  refine ⟨State.guidanceFormed_reformGuide _, ?_⟩
  refine (State.reformGuide_reformed _).own.trans ?_
  unfold State.ownOffer
  rw [State.freeCount_congr (s := s) (t := s.presentCounts) (by simp) fun b => by simp [State.bayState]]
  simp

/-! ## One bay changed (R106 to R108) -/

theorem State.setBay_get_self (s : State) (b : Fin 48) (f : Bay → Bay) : (s.setBay b f).scanner.bays.get b =
    (f (s.scanner.bays.get b)).reform s.grave s.scanner.flashOn (s.settings.bays.get b).cls :=
  Tbl.get_modify_self ..

theorem State.setBay_get_ne (s : State) {b c : Fin 48} (hc : c ≠ b) (f : Bay → Bay) :
    (s.setBay b f).scanner.bays.get c = s.scanner.bays.get c :=
  Tbl.get_modify_ne _ _ hc

theorem State.changeBay_scanner (s : State) (b : Fin 48) (f : Bay → Bay) :
    (s.changeBay b f).scanner = (s.setBay b f).scanner := by
  unfold State.changeBay
  dsimp only
  split <;> simp

/-- A change that makes a bay FREE, or a FREE bay another, has the guidance formed afresh. -/
theorem State.changeBay_guided_of_moved {s : State} {b : Fin 48} {f : Bay → Bay}
    (h : ¬(s.bayState b = .free ↔ (f (s.scanner.bays.get b)).state = .free)) : (s.changeBay b f).guided := by
  have hself : (s.setBay b f).bayState b = (f (s.scanner.bays.get b)).state :=
    (s.setBay_bayState b b f).trans (if_pos rfl)
  unfold State.changeBay
  dsimp only
  rw [if_neg fun hsame => h (by rw [← hself]; exact decide_eq_decide.mp hsame)]
  exact State.presentCounts_guided _

theorem State.changeBay_guided {s : State} (h : s.guided) (b : Fin 48) (f : Bay → Bay) : (s.changeBay b f).guided := by
  by_cases hsame : s.bayState b = .free ↔ (f (s.scanner.bays.get b)).state = .free
  · have hself : (s.setBay b f).bayState b = (f (s.scanner.bays.get b)).state :=
      (s.setBay_bayState b b f).trans (if_pos rfl)
    unfold State.changeBay
    dsimp only
    rw [if_pos (by rw [hself]; exact decide_eq_decide.mpr hsame)]
    refine State.guided_congr (s := s) rfl rfl rfl (fun c => ?_) rfl h
    rw [s.setBay_bayState]
    split
    next hc => subst hc; exact hsame.symm
    next => exact Iff.rfl
  · exact State.changeBay_guided_of_moved hsame

/-! ## Bays given and released -/

/-- The counters of the bays and lanes that no hold moves. -/
def BayCounters.ungranted (k : BayCounters) : BayCounters := { k with holdsGranted := 0, holdsRefused := 0 }

/-- From `s` to `t` FREE and HELD bays have been given to arrivals and released, and arrivals may have left. -/
structure State.Rehung (s t : State) : Prop where
  reported : s.comms.Reported t.comms
  stays : ∀ b, s.bayState b = .free ∨ s.bayState b = .held → t.bayState b = .free ∨ t.bayState b = .held
  shut : ∀ b, s.bayState b ≠ .free → s.bayState b ≠ .held → t.scanner.bays.get b = s.scanner.bays.get b
  reading : ∀ b, (t.scanner.bays.get b).candidate = (s.scanner.bays.get b).candidate ∧
    (t.scanner.bays.get b).agreeing = (s.scanner.bays.get b).agreeing
  counters : t.scanner.counters.ungranted = s.scanner.counters.ungranted
  holders : ∀ b, s.bayState b ≠ .free → s.bayState b ≠ .held → holders t.tracker.list b ≤ holders s.tracker.list b
  channels : ∀ k, (t.lamps.channels.get k).lanes = (s.lamps.channels.get k).lanes ∧
    (t.lamps.channels.get k).presence = (s.lamps.channels.get k).presence
  events : t.lamps.counters.presenceEvents = s.lamps.counters.presenceEvents
  guided : s.guided → t.guided

namespace State.Rehung

variable {s t u : State}

theorem refl (s : State) : s.Rehung s :=
  ⟨.refl, fun _ h => h, fun _ _ _ => rfl, fun _ => ⟨rfl, rfl⟩, rfl, fun _ _ _ => Nat.le_refl _, fun _ => ⟨rfl, rfl⟩, rfl,
    id⟩

theorem shut_state (h : s.Rehung t) {b : Fin 48} (hfree : s.bayState b ≠ .free) (hheld : s.bayState b ≠ .held) :
    t.bayState b = s.bayState b :=
  congrArg Bay.state (h.shut b hfree hheld)

theorem trans (h : s.Rehung t) (k : t.Rehung u) : s.Rehung u where
  reported := h.reported.trans k.reported
  stays b hb := k.stays b (h.stays b hb)
  shut b hfree hheld := by
    have hb := h.shut_state hfree hheld
    exact (k.shut b (hb ▸ hfree) (hb ▸ hheld)).trans (h.shut b hfree hheld)
  reading b := ⟨(k.reading b).1.trans (h.reading b).1, (k.reading b).2.trans (h.reading b).2⟩
  counters := k.counters.trans h.counters
  holders b hfree hheld := by
    have hb := h.shut_state hfree hheld
    exact (k.holders b (hb ▸ hfree) (hb ▸ hheld)).trans (h.holders b hfree hheld)
  channels i := ⟨(k.channels i).1.trans (h.channels i).1, (k.channels i).2.trans (h.channels i).2⟩
  events := k.events.trans h.events
  guided := k.guided ∘ h.guided

/-- The list changes, and no bay gains a holder. -/
theorem setList {l : List Arrival} (h : ∀ b, Machine.holders l b ≤ Machine.holders s.tracker.list b) :
    s.Rehung (s.setList l) :=
  { State.Rehung.refl s with holders := fun b _ _ => h b }

theorem countArrival (f : ArrivalCounters → ArrivalCounters) : s.Rehung (s.countArrival f) :=
  { State.Rehung.refl s with guided := id }

theorem countBay (f : BayCounters → BayCounters) (h : ∀ k, (f k).ungranted = k.ungranted) : s.Rehung (s.countBay f) :=
  { State.Rehung.refl s with counters := h _ }

end State.Rehung

theorem State.presentLeadIn_channels (s : State) (k j : Fin 8) (d : Bool) :
    ((s.presentLeadIn k d).lamps.channels.get j).lanes = (s.lamps.channels.get j).lanes ∧
    ((s.presentLeadIn k d).lamps.channels.get j).presence = (s.lamps.channels.get j).presence := by
  have hchannels : (s.presentLeadIn k d).lamps.channels = s.lamps.channels.modify k fun ch =>
      ({ ch with leadIn := d } : Channel).retarget s.forced (s.settings.lamps.get k) := by
    unfold State.presentLeadIn
    dsimp only
    split <;> rfl
  rw [hchannels]
  by_cases hj : j = k
  · subst hj
    rw [Tbl.get_modify_self]
    exact ⟨rfl, rfl⟩
  · rw [Tbl.get_modify_ne _ _ hj]
    exact ⟨rfl, rfl⟩

theorem State.reformLeadInOf_rehung (s : State) (k : Fin 8) : s.Rehung (s.reformLeadInOf k) := by
  have hframe := s.reformLeadInOf_frame k
  have hchannels (j : Fin 8) : ((s.reformLeadInOf k).lamps.channels.get j).lanes = (s.lamps.channels.get j).lanes ∧
      ((s.reformLeadInOf k).lamps.channels.get j).presence = (s.lamps.channels.get j).presence := by
    unfold State.reformLeadInOf
    dsimp only
    split
    · exact ⟨rfl, rfl⟩
    · exact State.presentLeadIn_channels _ k j _
  have hevents : (s.reformLeadInOf k).lamps.counters.presenceEvents = s.lamps.counters.presenceEvents := by
    unfold State.reformLeadInOf State.presentLeadIn
    dsimp only
    split
    · rfl
    · split <;> rfl
  have hscanner : (s.reformLeadInOf k).scanner = s.scanner := by simp
  have hbays (b : Fin 48) : (s.reformLeadInOf k).bayState b = s.bayState b := by simp [State.bayState]
  exact {
    reported := by simpa using Comms.Reported.refl (c := s.comms)
    stays := fun b hb => by rwa [hbays]
    shut := fun b _ _ => by rw [hscanner]
    reading := fun b => by rw [hscanner]; exact ⟨rfl, rfl⟩
    counters := by rw [hscanner]
    holders := fun b _ _ => by rw [(s.reformLeadInOf_tracker k).1]
    channels := hchannels
    events := hevents
    guided := State.guided_congr (by simp) (by simp) (by simp) (fun b => by rw [hbays]) (by simp) }

theorem State.reformLeadIn_rehung (s : State) : s.Rehung s.reformLeadIn := by
  have hfold : ∀ (ks : List (Fin 8)) (u : State), u.Rehung (ks.foldl State.reformLeadInOf u) := by
    intro ks
    induction ks with
    | nil => exact State.Rehung.refl
    | cons k ks ih => exact fun u => (u.reformLeadInOf_rehung k).trans (ih _)
  exact hfold _ s

/-- A FREE or HELD bay becomes FREE or HELD. -/
theorem State.changeBay_rehung {s : State} {b : Fin 48} {st : BayState}
    (hb : s.bayState b = .free ∨ s.bayState b = .held) (hst : st = .free ∨ st = .held) :
    s.Rehung (s.changeBay b (Bay.enter st)) where
  reported := s.changeBay_reported b _
  stays c hc := by
    rw [s.changeBay_bayState]
    split
    · exact hst
    · exact hc
  shut c hfree hheld := by
    rw [s.changeBay_scanner, s.setBay_get_ne]
    rintro rfl
    exact hb.elim hfree hheld
  reading c := by
    rw [s.changeBay_scanner]
    by_cases hc : c = b
    · subst hc
      rw [s.setBay_get_self]
      exact ⟨rfl, rfl⟩
    · rw [s.setBay_get_ne hc]
      exact ⟨rfl, rfl⟩
  counters := by
    rw [s.changeBay_scanner]
    rfl
  holders c _ _ := by simp
  channels k := by simp
  events := by simp
  guided h := State.changeBay_guided h b _

theorem State.holdRequest_rehung (s : State) (b : Fin 48) : s.Rehung (s.holdRequest b).state := by
  unfold State.holdRequest
  split
  next hfree => exact (State.changeBay_rehung (.inl hfree) (.inr rfl)).trans (State.Rehung.countBay
      (fun k => { k with holdsGranted := bump k.holdsGranted }) fun _ => rfl)
  next => exact State.Rehung.countBay (fun k => { k with holdsRefused := bump k.holdsRefused }) fun _ => rfl

/-- A bay granted was FREE. -/
theorem State.holdRequest_granted {s : State} {b : Fin 48} (h : (s.holdRequest b).granted = true) :
    s.bayState b = .free := by
  unfold State.holdRequest at h
  split at h
  next hfree => exact hfree
  next => cases h

theorem holders_giveBay_ne {b c : Fin 48} (hc : c ≠ b) : ∀ l : List Arrival, holders (giveBay b l) c = holders l c
  | [] => rfl
  | a :: rest => by
    have hbc : ¬b = c := fun h => hc h.symm
    unfold giveBay
    split
    next hnone => simp [Option.isNone_iff_eq_none.mp hnone, hbc]
    next => rw [holders_cons, holders_cons, holders_giveBay_ne hc rest]

theorem State.holdPass_rehung (s : State) (b : Fin 48) : s.Rehung (s.holdPass b) := by
  have hrequest := s.holdRequest_rehung b
  unfold State.holdPass
  dsimp only
  split
  next hgranted =>
    refine State.Rehung.trans ?_ (State.reformLeadIn_rehung _)
    refine { hrequest with holders := fun c hfree hheld => ?_ }
    have hcb : c ≠ b := by
      rintro rfl
      exact hfree (State.holdRequest_granted hgranted)
    refine Nat.le_trans (Nat.le_of_eq ?_) (hrequest.holders c hfree hheld)
    exact holders_giveBay_ne hcb _
  next => exact hrequest

theorem holdPasses_rehung : ∀ (n : Nat) (s : State), s.Rehung (holdPasses n s)
  | 0, s => .refl s
  | n + 1, s => by
    unfold holdPasses
    split
    · exact .refl s
    · split
      · exact .refl s
      · exact (s.holdPass_rehung _).trans (holdPasses_rehung n _)

theorem State.holdRound_rehung (s : State) : s.Rehung s.holdRound := holdPasses_rehung _ s

theorem State.release_rehung (s : State) (b : Fin 48) : s.Rehung (s.release b) := by
  unfold State.release
  split
  next hheld => exact (State.changeBay_rehung (.inr hheld) (.inl rfl)).trans (State.holdRound_rehung _)
  next => exact .refl s

theorem State.endHold_rehung (s : State) (a : Arrival) : s.Rehung (s.endHold a) := by
  unfold State.endHold
  split
  · exact .refl s
  · exact s.reformLeadIn_rehung.trans (State.release_rehung _ _)

theorem State.removeOldest_rehung (s : State) (f : ArrivalCounters → ArrivalCounters) :
    s.Rehung (s.removeOldest f) := by
  unfold State.removeOldest
  split
  · exact .refl s
  next a rest hlist =>
    refine ((State.Rehung.setList (s := s) (l := rest) fun b => ?_).trans (.countArrival f)).trans
      (State.endHold_rehung _ a)
    rw [hlist, holders_cons]
    exact Nat.le_add_right _ _

theorem State.evict_rehung (s : State) : s.Rehung s.evict := by
  unfold State.evict
  split
  · exact s.removeOldest_rehung _
  · exact .refl s

theorem State.addArrival_rehung (s : State) (src : Source) : s.Rehung (s.addArrival src) := by
  rw [s.addArrival_eq]
  refine s.evict_rehung.trans (State.Rehung.trans ?_ (State.holdRound_rehung _))
  refine (State.Rehung.setList fun b => ?_).trans (.countArrival _)
  simp [holders, Arrival.holds]

theorem State.parking_rehung (s : State) (b : Fin 48) : s.Rehung (s.parking b) := by
  unfold State.parking
  split
  · refine ((State.Rehung.setList fun c => ?_).trans (.countArrival _)).trans (State.reformLeadIn_rehung _)
    exact List.eraseP_sublist.countP_le
  · exact s.removeOldest_rehung _

/-- No arrival holds a bay that has lost its hold (R123). -/
theorem State.holdLost_rehung (s : State) (b : Fin 48) : s.Rehung (s.holdLost b) := by
  unfold State.holdLost
  refine (((State.Rehung.setList fun c => ?_).trans (.countArrival _)).trans (State.reformLeadIn_rehung _)).trans
    (State.holdRound_rehung _)
  rw [holders_unhold]
  split
  · exact Nat.zero_le _
  · exact Nat.le_refl _

end Sys2Proof.Machine
end


section
/-! Arrivals that expire, and bays that answer their polls or fail to (R103 to R107, R121 to R127). -/

namespace Sys2Proof.Machine

/-- A command that ends a quiet station with report events alone leaves nothing for the end of the step. -/
theorem done_reported {s t : State} (hq : s.quiet = true) (hmode : t.mode = s.mode) (hzone : t.zone = s.zone)
    (hcomms : s.comms.Reported t.comms) : done t = .next { t with moment := t.moment + 1 } := by
  obtain ⟨htold, hempty, hbusy⟩ := s.quiet_iff.mp hq
  have hstarts := hcomms.starts
  refine done_of_quiet (t.quiet_iff.mpr ⟨fun ho => ?_, hstarts.requests.trans hempty, hstarts.bus ▸ hbusy⟩)
  rw [hzone, hstarts.noVent]
  exact htold (by unfold State.operating at ho ⊢; rwa [hmode] at ho)

/-! ## Expiry of an arrival (R125) -/

/-- Settles O48: the oldest entry leaves, and what follows is a release of the bay that it held. -/
theorem arrivalsExpireOldestFirst : Obligations.ArrivalsExpireOldestFirst := by
  intro s hq
  refine ⟨fun a rest hlist hdue => ?_, fun a rest hlist hlater => ?_, fun hnil => ?_⟩
  · have hexec : exec .arrivalExpiry s = done (s.removeOldest fun k => { k with lost := bump k.lost }) :=
      congrArg done (if_pos (by unfold State.oldestDue; rw [hlist]; exact decide_eq_true hdue))
    obtain ⟨hreported, hpolls, hstamps, hcounters⟩ := s.removeOldest_moves fun k => { k with lost := bump k.lost }
    have hsound (hs : s.leadInSound) := State.removeOldest_sound hs fun k => { k with lost := bump k.lost }
    have hrehung := s.removeOldest_rehung fun k => { k with lost := bump k.lost }
    obtain ⟨hmode, hset, hnow, hmoment, hgas, hfume, hpeers, hzone, hstore, hpending, hlanes, hscan, hflash, hon⟩ :=
      s.removeOldest_frame fun k => { k with lost := bump k.lost }
    generalize s.removeOldest (fun k => { k with lost := bump k.lost }) = u at *
    refine ⟨_, hexec.trans (done_reported hq hmode hzone hreported), ?_, ?_, ?_, fun b _ hb => hrehung.stays b (.inr hb),
      fun hs => hsound hs, fun b hfree hheld => hrehung.shut b hfree hheld⟩
    · rw [State.mk.injEq]
      refine ⟨hmode, hset, hnow, by rw [hmoment], hgas, hfume, rfl, hpeers, ?_, rfl, rfl, rfl, hzone, hstore, hpending⟩
      rw [Scanner.mk.injEq]
      exact ⟨rfl, hlanes, hscan, hpolls, hflash, hon, rfl⟩
    · rw [hcounters, if_neg (by simp [hlist])]
    · rw [hlist] at hstamps
      exact hstamps
  · refine (congrArg done (if_neg ?_)).trans (done_of_quiet hq)
    unfold State.oldestDue
    rw [hlist]
    simpa using hlater
  · refine (congrArg done (if_neg ?_)).trans (done_of_quiet hq)
    unfold State.oldestDue
    rw [hnil]
    simp

/-! ## Polls without an answer (R105, R123) -/

/-- The bay has not answered once more, before it fails. -/
def State.unanswered (s : State) (b : Fin 48) : State :=
  ((s.setBay b fun x => { x with noAnswer := x.noAnswer + 1 }).polled b).countBay fun k =>
    { k with noAnswers := bump k.noAnswers }

theorem State.unanswered_get (s : State) (b : Fin 48) : ∃ i c, (s.unanswered b).scanner.bays.get b =
    { s.scanner.bays.get b with noAnswer := (s.scanner.bays.get b).noAnswer + 1, indicator := i, shown := c } :=
  ⟨_, _, s.setBay_get_self b _⟩

theorem State.unanswered_noAnswer (s : State) (b : Fin 48) :
    ((s.unanswered b).scanner.bays.get b).noAnswer = (s.scanner.bays.get b).noAnswer + 1 :=
  congrArg Bay.noAnswer (s.setBay_get_self b _)

theorem State.unanswered_bayState (s : State) (b c : Fin 48) : (s.unanswered b).bayState c = s.bayState c := by
  refine (s.setBay_bayState b c _).trans ?_
  split
  next hc => rw [hc]; rfl
  next => rfl

theorem State.bayNoAnswers_of_few {s : State} {b : Fin 48} (h : (s.scanner.bays.get b).noAnswer < 4) :
    s.bayNoAnswers b = s.unanswered b :=
  if_neg (Nat.not_le.mpr (by rw [s.unanswered_noAnswer]; exact Nat.succ_lt_succ h) :
    ¬Config.noAnswerLimit ≤ ((s.unanswered b).scanner.bays.get b).noAnswer)

theorem State.bayNoAnswers_of_many {s : State} {b : Fin 48} (h : 4 ≤ (s.scanner.bays.get b).noAnswer) :
    s.bayNoAnswers b = (s.unanswered b).bayFails b :=
  if_pos (by rw [s.unanswered_noAnswer]; exact Nat.succ_le_succ h :
    Config.noAnswerLimit ≤ ((s.unanswered b).scanner.bays.get b).noAnswer)

/-- The hold of bay `b` is lost, before the lead-in is formed again and a hold round follows. -/
def State.unhold (s : State) (b : Fin 48) : State :=
  (s.setList (s.tracker.list.map fun a => if a.holds b then { a with bay := none } else a)).countArrival fun k =>
    { k with holdsLost := bump k.holdsLost }

theorem State.holdLost_eq (s : State) (b : Fin 48) : s.holdLost b = (s.unhold b).reformLeadIn.holdRound := rfl

theorem State.unhold_stamps (s : State) (b : Fin 48) :
    (s.unhold b).tracker.list.map Arrival.stamp = s.tracker.list.map Arrival.stamp := by
  refine (List.map_map ..).trans (List.map_congr_left fun a _ => ?_)
  dsimp only [Function.comp]
  split <;> rfl

/-- A hold that is lost keeps the entries of the list (R123). -/
theorem State.holdLost_moves (s : State) (b : Fin 48) :
    (s.holdLost b).scanner.polls = s.scanner.polls ∧
    (s.holdLost b).tracker.list.map Arrival.stamp = s.tracker.list.map Arrival.stamp ∧
    (s.holdLost b).tracker.counters = { s.tracker.counters with holdsLost := bump s.tracker.counters.holdsLost } := by
  have hround := (s.unhold b).reformLeadIn.holdRound_rebayed
  have hlead := (s.unhold b).reformLeadIn_tracker
  rw [s.holdLost_eq]
  refine ⟨hround.polls.trans (by simp [State.unhold]), hround.stamps.trans ?_, hround.counters.trans hlead.2⟩
  rw [hlead.1, s.unhold_stamps]

/-- Nothing holds a bay that is neither FREE nor HELD any more once its hold is lost. -/
theorem State.holdLost_unheld {s : State} {b : Fin 48} (hfree : s.bayState b ≠ .free) (hheld : s.bayState b ≠ .held) :
    ∀ a ∈ (s.holdLost b).tracker.list, a.bay ≠ some b := by
  have hrehung := (s.unhold b).reformLeadIn_rehung.trans (State.holdRound_rehung _)
  rw [s.holdLost_eq]
  generalize (s.unhold b).reformLeadIn.holdRound = u at hrehung
  have hnone : holders (s.unhold b).tracker.list b = 0 := (holders_unhold b b _).trans (if_pos rfl)
  have hzero : holders u.tracker.list b = 0 := Nat.le_zero.mp (hnone ▸ hrehung.holders b hfree hheld)
  simpa [holders, Arrival.holds] using hzero

theorem indicatorOf_fault (grave : Bool) (cls : BayClass) : indicatorOf grave cls .fault = .dark := by
  unfold indicatorOf
  split <;> rfl

/-- The bay that failed, before its hold is lost. -/
def State.failed (s : State) (b : Fin 48) : State :=
  (s.changeBay b Bay.fault).countBay fun k => { k with bayFaults := bump k.bayFaults }

theorem State.failed_get (s : State) (b : Fin 48) : (s.failed b).scanner.bays.get b =
    ((s.scanner.bays.get b).fault).reform s.grave s.scanner.flashOn (s.settings.bays.get b).cls := by
  show (s.changeBay b Bay.fault).scanner.bays.get b = _
  rw [s.changeBay_scanner, s.setBay_get_self]

theorem State.failed_counters (s : State) (b : Fin 48) : (s.failed b).scanner.counters =
    { s.scanner.counters with bayFaults := bump s.scanner.counters.bayFaults } := by
  have hscanner := congrArg Scanner.counters (s.changeBay_scanner b Bay.fault)
  exact congrArg (fun k : BayCounters => { k with bayFaults := bump k.bayFaults }) hscanner

theorem State.bayFails_of_held {s : State} {b : Fin 48} (h : s.bayState b = .held) :
    s.bayFails b = (s.failed b).holdLost b := if_pos h

theorem State.bayFails_of_unheld {s : State} {b : Fin 48} (h : s.bayState b ≠ .held) : s.bayFails b = s.failed b :=
  if_neg h

/-- What the failure of a bay does beside the arrivals (R105). -/
structure State.Fails (s t : State) (b : Fin 48) : Prop where
  reported : s.comms.Reported t.comms
  polls : t.scanner.polls = s.scanner.polls
  record : t.scanner.bays.get b = (s.failed b).scanner.bays.get b
  counters : t.scanner.counters.ungranted = (s.failed b).scanner.counters.ungranted
  stamps : t.tracker.list.map Arrival.stamp = s.tracker.list.map Arrival.stamp

theorem State.failed_fails (s : State) (b : Fin 48) : s.Fails (s.failed b) b :=
  ⟨s.changeBay_reported b _, s.changeBay_polls b _, rfl, rfl,
    congrArg (fun x : Tracker => x.list.map Arrival.stamp) (by simp [State.failed])⟩

theorem State.failed_state (s : State) (b : Fin 48) : (s.failed b).bayState b = .fault :=
  congrArg Bay.state (s.failed_get b)

theorem State.bayFails_fails (s : State) (b : Fin 48) : s.Fails (s.bayFails b) b := by
  have hfailed := s.failed_fails b
  by_cases hheld : s.bayState b = .held
  · rw [State.bayFails_of_held hheld]
    have hstate := s.failed_state b
    have hrehung := (s.failed b).holdLost_rehung b
    obtain ⟨hpolls, hstamps, -⟩ := (s.failed b).holdLost_moves b
    exact ⟨hfailed.reported.trans hrehung.reported, hpolls.trans hfailed.polls,
      hrehung.shut b (by rw [hstate]; nofun) (by rw [hstate]; nofun), hrehung.counters, hstamps.trans hfailed.stamps⟩
  · rw [State.bayFails_of_unheld hheld]
    exact hfailed

/-- Settles O45: the count rises, and at the fifth poll the bay fails and takes its hold with it. -/
theorem unansweredBayTurnsFaulty : Obligations.UnansweredBayTurnsFaulty := by
  intro b x s hq hx hpolled
  have hexec : exec (.bayNoAnswer b) s = done (s.bayNoAnswers b) :=
    congrArg done (if_pos (by unfold State.bayState; rw [hx]; exact hpolled))
  refine ⟨fun hfew => ?_, fun hmany => ?_⟩
  · rw [State.bayNoAnswers_of_few (by rw [hx]; exact hfew)] at hexec
    obtain ⟨i, c, hget⟩ := s.unanswered_get b
    refine ⟨_, hexec.trans (done_of_quiet (s := s.unanswered b) hq), rfl, ?_, ?_, ?_, ?_, fun c hc => ?_⟩
    · dsimp only
      rw [hget, hx]
    · dsimp only
      rw [hget, hx]
    · dsimp only
      rw [hget, hx]
    · dsimp only
      rw [hget, hx]
    · exact s.setBay_get_ne hc _
  · rw [State.bayNoAnswers_of_many (by rw [hx]; exact hmany)] at hexec
    have hfails := (s.unanswered b).bayFails_fails b
    have hget := (s.unanswered b).failed_get b
    have hstate : (s.unanswered b).bayState b = x.state := (s.unanswered_bayState b b).trans (congrArg Bay.state hx)
    have hlost : ((s.unanswered b).bayFails b).tracker.counters.holdsLost =
        (if x.state = .held then bump s.tracker.counters.holdsLost else s.tracker.counters.holdsLost) := by
      split
      next hheld =>
        rw [State.bayFails_of_held (hstate.trans hheld), ((s.unanswered b).failed b |>.holdLost_moves b).2.2]
        simp [State.failed, State.unanswered, State.polled, State.setBay]
      next hheld =>
        rw [State.bayFails_of_unheld (by rw [hstate]; exact hheld)]
        simp [State.failed, State.unanswered, State.polled, State.setBay]
    have hunheld : x.state = .held → ∀ a ∈ ((s.unanswered b).bayFails b).tracker.list, a.bay ≠ some b := by
      intro hheld
      have hfault := (s.unanswered b).failed_state b
      rw [State.bayFails_of_held (hstate.trans hheld)]
      exact State.holdLost_unheld (by rw [hfault]; nofun) (by rw [hfault]; nofun)
    obtain ⟨hmode, hset, hnow, hmoment, hgas, hfume, hpeers, hzone, hstore, hpending, hlanes, hscan, hflash, hon⟩ :=
      (s.unanswered b).bayFails_frame b
    generalize (s.unanswered b).bayFails b = u at *
    have hrecord := hfails.record.trans hget
    have hcounters := hfails.counters
    rw [State.failed_counters] at hcounters
    refine ⟨_, hexec.trans (done_reported (s := s) hq hmode hzone hfails.reported), ?_,
      congrArg BayCounters.noAnswers hcounters, congrArg BayCounters.bayFaults hcounters,
      congrArg Bay.state hrecord, congrArg Bay.candidate hrecord, congrArg Bay.agreeing hrecord,
      congrArg Bay.noAnswer hrecord, ?_, map_recorded_of_stamps hfails.stamps, hlost, hunheld⟩
    · rw [State.mk.injEq]
      refine ⟨hmode, hset, hnow, by rw [hmoment]; rfl, hgas, hfume, rfl, hpeers, ?_, rfl, rfl, rfl, hzone, hstore,
        hpending⟩
      rw [Scanner.mk.injEq]
      exact ⟨rfl, hlanes, hscan, hfails.polls, hflash, hon, rfl⟩
    · exact (congrArg Bay.indicator hrecord).trans (indicatorOf_fault _ (s.settings.bays.get b).cls)

end Sys2Proof.Machine
end


section
/-! Answers of polled bays: readings counted, and readings confirmed (R103, R104, R120, R122, R127, R130). -/

namespace Sys2Proof.Machine

/-! ## Movement (R30, R104) -/

theorem State.movementEvent_calm (s : State) : s.comms.Calm s.settings s.movementEvent.comms :=
  reworkDemand_calm { s with fume := s.movementEvent.fume }.env s.comms

theorem State.movementEvent_fume (s : State) : s.movementEvent.fume = ({ s.fume with
    movement := s.fume.movement.set 5 (min 255 (s.fume.movement.get 5 + 1)) } : Fume).formed s.settings := rfl

theorem State.bayPresence_events (s : State) {k : Option (Fin 8)} (h : k.isSome = true) :
    (s.bayPresence k).lamps.counters.presenceEvents = bump s.lamps.counters.presenceEvents := by
  cases k with
  | none => cases h
  | some k => rfl

/-- A change of one lamp channel beside its lead-in demand leaves the demands as the tracker has them. -/
theorem State.onChannel_leadIn (s : State) (k : Fin 8) {f : Channel → Channel} (hf : ∀ ch, (f ch).leadIn = ch.leadIn)
    (j : Fin 8) : ((s.onChannel k f).lamps.channels.get j).leadIn = (s.lamps.channels.get j).leadIn := by
  have hchannels : (s.onChannel k f).lamps.channels =
      s.lamps.channels.modify k fun ch => (f ch).retarget s.forced (s.settings.lamps.get k) := rfl
  rw [hchannels]
  by_cases hj : j = k
  · subst hj
    rw [Tbl.get_modify_self]
    exact hf _
  · rw [Tbl.get_modify_ne _ _ hj]

/-- Soundness of the lead-in reads of the lamps their demands alone. -/
theorem State.leadInSound_of_demands {s t : State} (hset : t.settings = s.settings) (htr : t.tracker = s.tracker)
    (hlamps : ∀ k, (t.lamps.channels.get k).leadIn = (s.lamps.channels.get k).leadIn) (h : s.leadInSound) :
    t.leadInSound := by
  unfold State.leadInSound at *
  rw [hset, htr]
  exact fun k => ⟨(h k).1, (hlamps k).trans (h k).2⟩

theorem State.bayPresence_sound {s : State} (h : s.leadInSound) (k : Option (Fin 8)) :
    (s.bayPresence k).leadInSound := by
  cases k with
  | none => exact h
  | some k =>
    refine State.leadInSound_of_demands (s := s) rfl rfl (fun j => ?_) h
    exact s.onChannel_leadIn k (f := fun ch =>
      { ch with presence := if ch.presence = .held then .held else .counting (s.holdMs k) }) (fun _ => rfl) j

/-! ## A reading taken (R103) -/

/-- The bay that has taken a reading, and is polled no more in this scan. -/
def State.answered (s : State) (b : Fin 48) (r : Reading) : State := (s.setBay b (Bay.takeReading r)).polled b

section
variable {s : State} {b : Fin 48} {r : Reading}

theorem State.answered_get (s : State) (b : Fin 48) (r : Reading) : ∃ i c, (s.answered b r).scanner.bays.get b =
    { (s.scanner.bays.get b).takeReading r with indicator := i, shown := c } :=
  ⟨_, _, s.setBay_get_self b _⟩

theorem State.answered_bayState (s : State) (b : Fin 48) (r : Reading) (c : Fin 48) :
    (s.answered b r).bayState c = s.bayState c := by
  refine (s.setBay_bayState b c _).trans ?_
  split
  next hc => rw [hc]; exact Bay.takeReading_state r _
  next => rfl

theorem settledMeaning_iff (st : BayState) (r : Reading) : settledMeaning st = some r ↔
    (st = .free ∨ st = .held) ∧ r = .vacant ∨ st = .occupied ∧ r = .occupied := by
  cases st <;> cases r <;> simp [settledMeaning]

/-- The number of polls in a row that have given a reading, this one counted. -/
def Bay.agreeingWith (r : Reading) (x : Bay) : Nat := if x.candidate = some r then x.agreeing + 1 else 1

theorem Bay.takeReading_of_settled {x : Bay} (h : settledMeaning x.state = some r) :
    x.takeReading r = { x with candidate := none, agreeing := 0, noAnswer := 0 } := if_pos h

theorem Bay.takeReading_of_unsettled {x : Bay} (h : settledMeaning x.state ≠ some r) :
    x.takeReading r = { x with candidate := some r, agreeing := x.agreeingWith r, noAnswer := 0 } := by
  unfold Bay.takeReading Bay.agreeingWith
  rw [if_neg h]
  split
  next hsame => rw [hsame]
  next => rfl

theorem State.bayAnswers_eq (s : State) (b : Fin 48) (r : Reading) : s.bayAnswers b r =
    if ((s.scanner.bays.get b).takeReading r).isConfirmed s.settings.confirm then
      (s.answered b r).confirmReading b r else s.answered b r := by
  obtain ⟨i, c, hget⟩ := s.answered_get b r
  unfold State.bayAnswers
  show (if ((s.answered b r).scanner.bays.get b).isConfirmed s.settings.confirm then _ else _) = _
  rw [hget]
  rfl

end

/-! ## A reading confirmed (R104) -/

/-- The bay whose reading is confirmed, before its movement and what the tracker makes of it. -/
def State.confirmed (s : State) (b : Fin 48) (r : Reading) : State :=
  (s.changeBay b (Bay.confirm r)).countBay fun k => { k with bayConfirms := bump k.bayConfirms }

/-- The same once a movement has been presented; a bay that was UNKNOWN makes none. -/
def State.confirmedMoved (s : State) (b : Fin 48) (r : Reading) : State :=
  if s.bayState b = .unknown then s.confirmed b r else (s.confirmed b r).bayMovement b

theorem State.confirmReading_eq (s : State) (b : Fin 48) (r : Reading) : s.confirmReading b r =
    if r = .vacant then (s.confirmedMoved b r).holdRound
    else if s.bayState b = .unknown then s.confirmedMoved b r else (s.confirmedMoved b r).parking b := by
  unfold State.confirmReading State.confirmedMoved State.confirmed
  cases hst : s.bayState b <;> cases r <;> rfl

section
variable (s : State) (b : Fin 48) (r : Reading)

theorem State.confirmed_scanner : (s.confirmed b r).scanner = { (s.setBay b (Bay.confirm r)).scanner with
    counters := { s.scanner.counters with bayConfirms := bump s.scanner.counters.bayConfirms } } := by
  exact congrArg (fun x : Scanner => { x with
    counters := { x.counters with bayConfirms := bump x.counters.bayConfirms } }) (s.changeBay_scanner b (Bay.confirm r))

/-- What the confirmation and its movement do beside the tracker. -/
structure State.Confirms (t : State) : Prop where
  calm : s.comms.Calm s.settings t.comms
  scanner : t.scanner = (s.confirmed b r).scanner
  tracker : t.tracker = s.tracker
  movement : t.fume = (if s.bayState b = .unknown then s.fume else s.movementEvent.fume)
  events : (s.settings.bays.get b).lamp.isSome = true → t.lamps.counters.presenceEvents =
    if s.bayState b = .unknown then s.lamps.counters.presenceEvents else bump s.lamps.counters.presenceEvents
  sound : s.leadInSound → t.leadInSound
  guided : ¬(s.bayState b = .free ↔ stateOfReading r = .free) → t.guided

theorem State.confirmed_confirms (hunknown : s.bayState b = .unknown) : s.Confirms b r (s.confirmed b r) where
  calm := (s.changeBay_reported b (Bay.confirm r)).calm
  scanner := rfl
  tracker := by simp [State.confirmed]
  movement := by simp [State.confirmed, hunknown]
  events _ := by simp [State.confirmed, hunknown]
  sound := (s.changeBay_rebayed b (Bay.confirm r)).sound
  guided h := State.guided_congr rfl rfl rfl (fun _ => .rfl) rfl (State.changeBay_guided_of_moved h)

theorem State.confirmed_moves (hknown : s.bayState b ≠ .unknown) :
    s.Confirms b r ((s.confirmed b r).bayMovement b) where
  calm := by
    have hset : (s.confirmed b r).settings = s.settings := by simp [State.confirmed]
    have hmove := (s.confirmed b r).movementEvent_calm
    rw [hset] at hmove
    refine Comms.Calm.trans (c := (s.confirmed b r).comms) (s.changeBay_reported b (Bay.confirm r)).calm ?_
    simpa [State.bayMovement] using hmove
  scanner := by simp
  tracker := by simp [State.confirmed]
  movement := by
    rw [if_neg hknown]
    simp [State.bayMovement, State.movementEvent_fume, State.confirmed]
  events h := by
    rw [if_neg hknown]
    refine (State.bayPresence_events _ ?_).trans ?_
    · simpa [State.confirmed] using h
    · simp [State.confirmed]
  sound h := by
    have hconfirmed : (s.confirmed b r).leadInSound := (s.changeBay_rebayed b (Bay.confirm r)).sound h
    exact State.bayPresence_sound (State.leadInSound_of_demands (by simp) (by simp) (by simp) hconfirmed) _
  guided h := by
    have hconfirmed : (s.confirmed b r).guided :=
      State.guided_congr rfl rfl rfl (fun _ => .rfl) rfl (State.changeBay_guided_of_moved (f := Bay.confirm r) h)
    exact State.guided_congr (by simp) (by simp) (by simp) (fun c => by simp [State.bayState]) (by simp) hconfirmed

theorem State.confirmedMoved_confirms : s.Confirms b r (s.confirmedMoved b r) := by
  unfold State.confirmedMoved
  split
  next hunknown => exact s.confirmed_confirms b r hunknown
  next hknown => exact s.confirmed_moves b r hknown

end

/-! ## Parkings (R122) -/

theorem any_holds_iff (l : List Arrival) (b : Fin 48) :
    l.any (Arrival.holds b) = true ↔ ∃ a ∈ l, a.bay = some b := by
  simp [Arrival.holds]

/-- What a parking does to the arrival list: the entry that held the bay leaves, or else the oldest. -/
theorem State.parking_tracker (s : State) (b : Fin 48) :
    (s.parking b).scanner.polls = s.scanner.polls ∧
    (s.parking b).tracker.list.length = s.tracker.list.length - 1 ∧
    ((∃ a ∈ s.tracker.list, a.bay = some b) →
      (s.parking b).tracker.counters = { s.tracker.counters with matched := bump s.tracker.counters.matched }) ∧
    ((∀ a ∈ s.tracker.list, a.bay ≠ some b) → s.tracker.list ≠ [] →
      (s.parking b).tracker.counters = { s.tracker.counters with assumed := bump s.tracker.counters.assumed }) := by
  unfold State.parking
  split
  next hany =>
    obtain ⟨a, ha, hb⟩ := (any_holds_iff ..).mp hany
    refine ⟨by simp, ?_, fun _ => by simp, fun hnone => absurd hb (hnone a ha)⟩
    simp only [State.reformLeadIn_tracker, State.countArrival_tracker, State.setList_tracker]
    exact List.length_eraseP_of_mem ha (by simp [Arrival.holds, hb])
  next hany =>
    obtain ⟨-, hpolls, hstamps, hcounters⟩ := s.removeOldest_moves fun k => { k with assumed := bump k.assumed }
    refine ⟨hpolls, by simpa using congrArg List.length hstamps, fun hsome => absurd ((any_holds_iff ..).mpr hsome) hany,
      fun _ hlist => ?_⟩
    rw [hcounters, if_neg hlist]

theorem State.parking_leadIn {s : State} (h : s.leadInSound) (b : Fin 48) : (s.parking b).leadInSound := by
  unfold State.parking
  split
  · exact State.reformLeadIn_sound (s.leadInSound_iff.mp h).2
  · exact State.removeOldest_sound h _

/-! ## The tracker after a confirmation -/

section
variable (s : State) (b : Fin 48) (r : Reading)

theorem State.confirmReading_rehung : (s.confirmedMoved b r).Rehung (s.confirmReading b r) := by
  rw [s.confirmReading_eq]
  split
  · exact State.holdRound_rehung _
  · split
    · exact .refl _
    · exact State.parking_rehung _ b

theorem State.confirmReading_fume : (s.confirmReading b r).fume = (s.confirmedMoved b r).fume := by
  rw [s.confirmReading_eq]
  split
  · simp
  · split <;> simp

theorem State.confirmReading_polls : (s.confirmReading b r).scanner.polls = (s.confirmedMoved b r).scanner.polls := by
  rw [s.confirmReading_eq]
  split
  · exact (State.holdRound_rebayed _).polls
  · split
    · rfl
    · exact (State.parking_tracker _ b).1

theorem State.confirmReading_sound (h : (s.confirmedMoved b r).leadInSound) : (s.confirmReading b r).leadInSound := by
  rw [s.confirmReading_eq]
  split
  · exact (State.holdRound_rebayed _).sound h
  · split
    · exact h
    · exact State.parking_leadIn h b

theorem State.confirmReading_length (h : r = .vacant ∨ s.bayState b = .unknown) :
    (s.confirmReading b r).tracker.list.length = (s.confirmedMoved b r).tracker.list.length := by
  rw [s.confirmReading_eq]
  split
  · exact State.holdRound_length _
  next hr => rw [if_pos (h.resolve_left hr)]

theorem State.confirmReading_parks (hr : r = .occupied) (hknown : s.bayState b ≠ .unknown) :
    s.confirmReading b r = (s.confirmedMoved b r).parking b := by
  rw [s.confirmReading_eq, if_neg (by rw [hr]; nofun), if_neg hknown]

/-- The bay after its confirmation, whatever the tracker has made of it. -/
theorem State.confirmReading_bay : ((s.confirmReading b r).scanner.bays.get b).candidate = none ∧
    ((s.confirmReading b r).scanner.bays.get b).agreeing = 0 ∧
    (r = .occupied → (s.confirmReading b r).bayState b = .occupied) ∧
    (r = .vacant → (s.confirmReading b r).bayState b = .free ∨ (s.confirmReading b r).bayState b = .held) := by
  have hrehung := s.confirmReading_rehung b r
  have hget : (s.confirmedMoved b r).scanner.bays.get b = ((s.scanner.bays.get b).confirm r).reform s.grave
      s.scanner.flashOn (s.settings.bays.get b).cls := by
    rw [(s.confirmedMoved_confirms b r).scanner, s.confirmed_scanner]
    exact s.setBay_get_self b _
  have hstate : (s.confirmedMoved b r).bayState b = stateOfReading r := congrArg Bay.state hget
  obtain ⟨hcandidate, hagreeing⟩ := hrehung.reading b
  refine ⟨hcandidate.trans (congrArg Bay.candidate hget), hagreeing.trans (congrArg Bay.agreeing hget), ?_, ?_⟩
  · rintro rfl
    exact (hrehung.shut_state (by rw [hstate]; nofun) (by rw [hstate]; nofun)).trans hstate
  · rintro rfl
    exact hrehung.stays b (.inl hstate)

end

/-- A reading that a bay's state does not expect, confirmed, changes whether the bay is FREE. -/
theorem free_changes {st : BayState} {r : Reading} (h : settledMeaning st ≠ some r) (hr : r = .vacant ∨ st = .free) :
    ¬(st = .free ↔ stateOfReading r = .free) := by
  rintro ⟨hto, hback⟩
  obtain rfl | rfl := hr
  · exact h (by rw [hback rfl]; rfl)
  · cases r with
    | vacant => exact h rfl
    | occupied => cases hto rfl

theorem Bay.isConfirmed_of_unsettled {x : Bay} {r : Reading} (h : settledMeaning x.state ≠ some r) (n : Nat) :
    (x.takeReading r).isConfirmed n = decide (n ≤ x.agreeingWith r) := by
  rw [Bay.takeReading_of_unsettled h]
  rfl

/-- A confirmed reading of a bay that stands polled: what the whole station then is. -/
theorem State.confirmReading_spec {s : State} {b : Fin 48} {r : Reading}
    (hunsettled : settledMeaning (s.bayState b) ≠ some r) :
    s.comms.Calm s.settings (s.confirmReading b r).comms ∧
    (s.confirmReading b r).scanner.polls = s.scanner.polls ∧
    (s.confirmReading b r).scanner.counters.bayConfirms = bump s.scanner.counters.bayConfirms ∧
    (s.confirmReading b r).fume = (if s.bayState b = .unknown then s.fume else s.movementEvent.fume) ∧
    ((s.settings.bays.get b).lamp.isSome = true → (s.confirmReading b r).lamps.counters.presenceEvents =
      if s.bayState b = .unknown then s.lamps.counters.presenceEvents else bump s.lamps.counters.presenceEvents) ∧
    (r = .vacant ∨ s.bayState b = .unknown →
      (s.confirmReading b r).tracker.list.length = s.tracker.list.length) ∧
    (r = .occupied → s.bayState b ≠ .unknown →
      (s.confirmReading b r).tracker.list.length = s.tracker.list.length - 1 ∧
      ((∃ a ∈ s.tracker.list, a.bay = some b) →
        (s.confirmReading b r).tracker.counters.matched = bump s.tracker.counters.matched ∧
        (s.confirmReading b r).tracker.counters.assumed = s.tracker.counters.assumed) ∧
      ((∀ a ∈ s.tracker.list, a.bay ≠ some b) → s.tracker.list ≠ [] →
        (s.confirmReading b r).tracker.counters.assumed = bump s.tracker.counters.assumed ∧
        (s.confirmReading b r).tracker.counters.matched = s.tracker.counters.matched)) ∧
    (s.leadInSound → (s.confirmReading b r).leadInSound) ∧
    (r = .vacant ∨ s.bayState b = .free → (s.confirmReading b r).guided) := by
  have hw := s.confirmedMoved_confirms b r
  have hrehung := s.confirmReading_rehung b r
  have hscanner := hw.scanner.trans (s.confirmed_scanner b r)
  refine ⟨hw.calm.trans hrehung.reported.calm, ?_, ?_, (s.confirmReading_fume b r).trans hw.movement,
    fun hlamp => hrehung.events.trans (hw.events hlamp), fun h => ?_, fun hr hknown => ?_,
    fun h => s.confirmReading_sound b r (hw.sound h), fun h => hrehung.guided (hw.guided (free_changes hunsettled h))⟩
  · rw [s.confirmReading_polls b r, hscanner]
    rfl
  · exact (congrArg BayCounters.bayConfirms hrehung.counters).trans
      (congrArg (fun k : Scanner => k.counters.bayConfirms) hscanner)
  · rw [s.confirmReading_length b r h, hw.tracker]
  · obtain ⟨-, hlength, hmatched, hassumed⟩ := (s.confirmedMoved b r).parking_tracker b
    rw [hw.tracker] at hlength hmatched hassumed
    rw [s.confirmReading_parks b r hr hknown]
    exact ⟨hlength, fun h => by rw [hmatched h]; exact ⟨rfl, rfl⟩,
      fun hnone hlist => by rw [hassumed hnone hlist]; exact ⟨rfl, rfl⟩⟩

/-- Settles O44: an expected reading, a candidate counted, or a candidate confirmed. -/
theorem repeatedReadingIsConfirmed : Obligations.RepeatedReadingIsConfirmed := by
  intro b r x s hq hv hx hpolled
  have hexec : exec (.bayPollAnswer b r) s = done (s.bayAnswers b r) :=
    congrArg done (if_pos (by unfold State.bayState; rw [hx]; exact hpolled))
  obtain ⟨i, c, hget⟩ := s.answered_get b r
  rw [s.bayAnswers_eq, hx] at hexec
  rw [hx] at hget
  have hquiet : (s.answered b r).quiet = true := hq
  simp only [← settledMeaning_iff]
  refine ⟨fun hsettled => ?_, fun hunsettled hfew => ?_, fun hunsettled hmany => ?_⟩
  · rw [if_neg (by rw [Bay.unconfirmed_of_settled hsettled]; nofun)] at hexec
    rw [Bay.takeReading_of_settled hsettled] at hget
    refine ⟨_, hexec.trans (done_of_quiet hquiet), rfl, ?_, ?_, ?_, ?_, fun d hd => s.setBay_get_ne hd _⟩
    all_goals
      dsimp only
      rw [hget]
  · have hcount : ¬s.settings.confirm ≤ x.agreeingWith r := Nat.not_le.mpr hfew
    rw [if_neg (by rw [Bay.isConfirmed_of_unsettled hunsettled]; simpa using hcount)] at hexec
    rw [Bay.takeReading_of_unsettled hunsettled] at hget
    refine ⟨_, hexec.trans (done_of_quiet hquiet), rfl, ?_, ?_, ?_, ?_, fun d hd => s.setBay_get_ne hd _⟩
    all_goals
      dsimp only
      rw [hget]
    rfl
  · have hcount : s.settings.confirm ≤ x.agreeingWith r := hmany
    rw [if_pos (by rw [Bay.isConfirmed_of_unsettled hunsettled]; simpa using hcount)] at hexec
    have hstate : (s.answered b r).bayState b = x.state :=
      (s.answered_bayState b r b).trans (congrArg Bay.state hx)
    obtain ⟨hcalm, hpolls, hconfirms, hfume, hevents, hsame, hparks, hsound, hguided⟩ :=
      State.confirmReading_spec (s := s.answered b r) (b := b) (r := r) (by rw [hstate]; exact hunsettled)
    obtain ⟨hcandidate, hagreeing, hoccupied, hvacant⟩ := (s.answered b r).confirmReading_bay b r
    obtain ⟨hmode, hset, hnow, hmoment, hgas, hpeers, hzone, hstore, hpending, hlanes, hscan, hflash, hon⟩ :=
      (s.answered b r).confirmReading_frame b r
    rw [hstate] at hfume hevents hsame hparks hguided
    generalize (s.answered b r).confirmReading b r = t at *
    have hdone := done_calm (s := s) (t := t) hq hv hmode hzone hcalm
    have hmovement : t.fume = { s.fume with movement := t.fume.movement, es0 := t.fume.es0, es := t.fume.es } ∧
        t.fume.movement = (if x.state = .unknown then s.fume.movement
          else s.fume.movement.set 5 (min 255 (s.fume.movement.get 5 + 1))) := by
      rw [hfume]
      split <;> exact ⟨rfl, rfl⟩
    obtain ⟨hfumed, hmoved⟩ := hmovement
    refine ⟨_, hexec.trans hdone, ?_, hconfirms, hcandidate, hagreeing, hoccupied, hvacant, hmoved, hevents, hsame,
      hparks, ?_, fun h => ?_⟩
    · rw [State.mk.injEq]
      refine ⟨hmode, hset, hnow, by rw [hmoment]; rfl, hgas, hfumed, rfl, hpeers, ?_, rfl, rfl, rfl, hzone, hstore,
        hpending⟩
      rw [Scanner.mk.injEq]
      exact ⟨rfl, hlanes, hscan, hpolls, hflash, hon, rfl⟩
    · exact fun h => hsound h
    · obtain ⟨hformed, hown⟩ := hguided h
      exact ⟨hformed, hown.trans (congrArg (fun u =>
        (⟨min 255 (4 * t.freeCount .general), t.freeCount .general, 0, u, none⟩ : Offer)) (congrArg Settings.unit hset))⟩

end Sys2Proof.Machine
end


section
/-! Lanes: loop changes, passages, queues and stuck loops (R31, R110 to R114, R144). -/

namespace Sys2Proof.Machine

/-! ## What every change of a lane may move -/

/-- What a change of a lane moves of the fume unit, the bus side and the bay scanner, with the lead-in kept sound. -/
structure State.LaneStep (s t : State) : Prop where
  set : t.settings = s.settings
  calm : s.comms.Calm s.settings t.comms
  fume : t.fume = { s.fume with movement := t.fume.movement, q := t.fume.q, es0 := t.fume.es0, es := t.fume.es }
  scanner : t.scanner =
    { s.scanner with bays := t.scanner.bays, lanes := t.scanner.lanes, counters := t.scanner.counters }
  sound : s.leadInSound → t.leadInSound

namespace State.LaneStep

variable {s t u : State}

theorem refl (s : State) : s.LaneStep s := ⟨rfl, .refl, rfl, rfl, id⟩

theorem trans (h : s.LaneStep t) (k : t.LaneStep u) : s.LaneStep u where
  set := k.set.trans h.set
  calm := h.calm.trans (h.set ▸ k.calm)
  fume := by rw [k.fume, h.fume]
  scanner := by rw [k.scanner, h.scanner]
  sound := k.sound ∘ h.sound

end State.LaneStep

theorem State.setLane_step (s : State) (p : Fin 4) (l : Lane) : s.LaneStep (s.setLane p l) :=
  ⟨rfl, .refl, rfl, rfl, id⟩

theorem State.countBay_step (s : State) (f : BayCounters → BayCounters) : s.LaneStep (s.countBay f) :=
  ⟨rfl, .refl, rfl, rfl, id⟩

theorem State.movementEvent_step (s : State) : s.LaneStep s.movementEvent where
  set := by simp
  calm := s.movementEvent_calm
  fume := rfl
  scanner := by simp
  sound := (State.leadInSound_congr (by simp) (by simp) (by simp)).mpr

/-! ## Presence at a lane (R112, R144) -/

theorem State.presenceStart_step (s : State) (k : Option (Fin 8)) : s.LaneStep (s.presenceStart k) := by
  cases k with
  | none => exact .refl s
  | some k =>
    refine ⟨rfl, .refl, rfl, rfl, fun h => State.leadInSound_of_demands (s := s) rfl rfl (fun j => ?_) h⟩
    exact s.onChannel_leadIn k (f := fun ch => { ch with lanes := ch.lanes + 1, presence := .held }) (fun _ => rfl) j

theorem State.presenceEnd_step (s : State) (k : Option (Fin 8)) : s.LaneStep (s.presenceEnd k) := by
  cases k with
  | none => exact .refl s
  | some k =>
    refine ⟨rfl, .refl, rfl, rfl, fun h => State.leadInSound_of_demands (s := s) rfl rfl (fun j => ?_) h⟩
    exact s.onChannel_leadIn k (f := fun ch => { ch with
      lanes := ch.lanes - 1
      presence := if ch.lanes - 1 = 0 then .counting (s.holdMs k) else ch.presence }) (fun _ => rfl) j

theorem State.presenceStart_lamps (s : State) (k : Fin 8) :
    ((s.presenceStart (some k)).lamps.channels.get k).lanes = (s.lamps.channels.get k).lanes + 1 ∧
    ((s.presenceStart (some k)).lamps.channels.get k).presence = .held ∧
    (s.presenceStart (some k)).lamps.counters.presenceEvents = bump s.lamps.counters.presenceEvents := by
  have hget := Tbl.get_modify_self s.lamps.channels k fun ch =>
    ({ ch with lanes := ch.lanes + 1, presence := .held } : Channel).retarget s.forced (s.settings.lamps.get k)
  exact ⟨congrArg Channel.lanes hget, congrArg Channel.presence hget, rfl⟩

theorem State.presenceEnd_lamps (s : State) (k : Fin 8) :
    ((s.presenceEnd (some k)).lamps.channels.get k).lanes = (s.lamps.channels.get k).lanes - 1 ∧
    ((s.presenceEnd (some k)).lamps.channels.get k).presence = (if (s.lamps.channels.get k).lanes ≤ 1
      then .counting (1000 * (s.settings.lamps.get k).hold) else (s.lamps.channels.get k).presence) ∧
    (s.presenceEnd (some k)).lamps.counters.presenceEvents = bump s.lamps.counters.presenceEvents := by
  have hget := Tbl.get_modify_self s.lamps.channels k fun ch => ({ ch with
    lanes := ch.lanes - 1
    presence := if ch.lanes - 1 = 0 then .counting (s.holdMs k) else ch.presence } : Channel).retarget s.forced
      (s.settings.lamps.get k)
  refine ⟨congrArg Channel.lanes hget, (congrArg Channel.presence hget).trans ?_, rfl⟩
  refine ite_congr (propext Nat.sub_eq_zero_iff_le) (fun _ => rfl) fun _ => rfl

/-! ## The QUEUE flag (R31, R112) -/

theorem State.presentQueue_step (s : State) : s.LaneStep s.presentQueue where
  set := by simp
  calm := reworkDemand_calm { s with fume := s.presentQueue.fume }.env s.comms
  fume := rfl
  scanner := by simp
  sound := (State.leadInSound_congr (by simp) (by simp) (by simp)).mpr

theorem State.dropQueue_step (s : State) (p : Fin 4) : s.LaneStep (s.dropQueue p) := by
  unfold State.dropQueue
  split
  · exact (s.setLane_step p _).trans (State.presentQueue_step _)
  · exact .refl s

theorem State.dropQueue_scanner (s : State) (p : Fin 4) : (s.dropQueue p).scanner =
    { s.scanner with lanes := s.scanner.lanes.set p { s.laneAt p with queue := false } } := by
  unfold State.dropQueue
  split
  · simp [State.setLane]
  next hclear =>
    have hsame : { s.laneAt p with queue := false } = s.scanner.lanes.get p := by
      unfold State.laneAt at hclear ⊢
      rw [← Bool.not_eq_true _ |>.mp hclear]
    rw [hsame, Tbl.set_get_self]

theorem State.dropQueue_movement (s : State) (p : Fin 4) : (s.dropQueue p).fume.movement = s.fume.movement := by
  unfold State.dropQueue
  split <;> rfl

/-- The clearing of a flag is presented with the lanes as they then stand. -/
theorem State.dropQueue_of_set {s : State} {p : Fin 4} (h : (s.laneAt p).queue = true) :
    (s.dropQueue p).fume.q = (s.dropQueue p).queueLanes := by
  unfold State.dropQueue
  rw [if_pos h]
  unfold State.queueLanes
  simp [State.presentQueue_fume, Fume.formed, State.queueLanes]

theorem State.dropQueue_of_clear {s : State} {p : Fin 4} (h : (s.laneAt p).queue = false) : s.dropQueue p = s :=
  if_neg (by rw [h]; nofun)

theorem State.dropQueue_spaced {s : State} {m : Nat} {x : Option Payload} (h : s.comms.Spaced m x) (p : Fin 4) :
    (s.dropQueue p).comms.Spaced m x := by
  unfold State.dropQueue
  split
  · exact reworkDemand_roomy (c := s.comms) h
  · exact h

theorem State.presenceEnd_eq (s : State) (k : Option (Fin 8)) :
    s.presenceEnd k = { s with lamps := (s.presenceEnd k).lamps } := by
  cases k <;> rfl

/-- The lane whose presence timer has expired, before the flag is presented. -/
def State.laneQueued (s : State) (p : Fin 4) : State :=
  (s.setLane p { s.laneAt p with presence := .stopped, queue := true }).countBay fun k =>
    { k with queuesSet := bump k.queuesSet }

/-- The lane in FAULT, before its flag is cleared and its presence ends. -/
def State.laneStuck (s : State) (p : Fin 4) : State :=
  (s.setLane p { s.laneAt p with
    state := .fault, presence := .stopped, stuckA := .stopped, stuckB := .stopped }).countBay fun k =>
      { k with laneFaults := bump k.laneFaults }

/-- The lamps after the end of presence that a stuck loop brings. -/
def State.stuckLamps (s : State) (p : Fin 4) : Lamps :=
  if anyActive (s.laneAt p).loops then (s.presenceEnd (s.settings.ports.get p).lamp).lamps else s.lamps

theorem State.laneFails_eq (s : State) (p : Fin 4) :
    s.laneFails p = { (s.laneStuck p).dropQueue p with lamps := s.stuckLamps p } := by
  have hfails : s.laneFails p = if anyActive (s.laneAt p).loops
      then ((s.laneStuck p).dropQueue p).presenceEnd (s.settings.ports.get p).lamp else (s.laneStuck p).dropQueue p := rfl
  have hlamps : ((s.laneStuck p).dropQueue p).lamps = s.lamps := by simp [State.laneStuck]
  unfold State.stuckLamps
  rw [hfails]
  by_cases hactive : anyActive (s.laneAt p).loops = true
  · rw [if_pos hactive, if_pos hactive, State.presenceEnd_eq]
    have hset : ((s.laneStuck p).dropQueue p).settings = s.settings := by simp [State.laneStuck]
    have hmode : ((s.laneStuck p).dropQueue p).forced = s.forced := by
      simp [State.forced, State.operating, State.grave, State.laneStuck]
    have hsame : (((s.laneStuck p).dropQueue p).presenceEnd (s.settings.ports.get p).lamp).lamps =
        (s.presenceEnd (s.settings.ports.get p).lamp).lamps := by
      cases (s.settings.ports.get p).lamp with
      | none => exact hlamps
      | some k =>
        unfold State.presenceEnd State.onChannel State.countLamp State.holdMs
        dsimp only
        rw [hlamps, hmode, hset]
    rw [hsame]
  · rw [if_neg hactive, if_neg hactive, ← hlamps]

theorem State.queueLanes_eq (s : State) : s.queueLanes =
    ((List.finRange 4).filter fun q => (s.laneAt q).queue && decide ((s.laneAt q).state ≠ .fault)).length := rfl

/-- Settles O47: the QUEUE flag of the lane moves, and with it what the fume unit and the lamps hold of it. -/
theorem lanesQueueAndGetStuck : Obligations.LanesQueueAndGetStuck := by
  intro p x l s hq hv hl
  subst hl
  refine ⟨fun hrun => ?_, fun hrun => ?_⟩
  · have hexec : exec (.lanePresenceTimerExpiry p) s = done (s.laneQueued p).presentQueue :=
      congrArg done (if_pos hrun)
    obtain ⟨hmode, hset, hnow, hmoment, hgas, hpeers, hscanner, htracker, hguide, hlamps, hzone, hstore, hpending⟩ :=
      (s.laneQueued p).presentQueue_frame
    have hstep := (s.laneQueued p).presentQueue_step
    have hfume := (s.laneQueued p).presentQueue_fume
    have hlanes : (s.laneQueued p).presentQueue.queueLanes = (s.laneQueued p).queueLanes := by
      unfold State.queueLanes
      rw [hscanner]
    generalize (s.laneQueued p).presentQueue = t at *
    refine ⟨_, hexec.trans (done_calm (s := s) hq hv hmode hzone hstep.calm), ?_, ?_⟩
    · rw [State.mk.injEq]
      refine ⟨hmode, hset, hnow, by rw [hmoment]; rfl, hgas, ?_, rfl, hpeers, hscanner, htracker, hguide, hlamps, hzone,
        hstore, hpending⟩
      rw [hfume]
      rfl
    · refine Eq.trans ?_ t.queueLanes_eq
      rw [hlanes, hfume]
      rfl
  · have hexec : exec (.loopStuckTimerExpiry p x) s =
        done { (s.laneStuck p).dropQueue p with lamps := s.stuckLamps p } :=
      (congrArg done (if_pos hrun)).trans (congrArg done (s.laneFails_eq p))
    obtain ⟨hmode, hset, hnow, hmoment, hgas, hpeers, htracker, hguide, -, hzone, hstore, hpending⟩ :=
      (s.laneStuck p).dropQueue_frame p
    have hstep := (s.laneStuck p).dropQueue_step p
    have hmovement := (s.laneStuck p).dropQueue_movement p
    have hlane : (s.laneStuck p).laneAt p = { s.laneAt p with
        state := .fault, presence := .stopped, stuckA := .stopped, stuckB := .stopped } := State.laneAt_setLane ..
    have hscanner := (s.laneStuck p).dropQueue_scanner p
    rw [hlane] at hscanner
    have hflag (h : (s.laneAt p).queue = true) := State.dropQueue_of_set (s := s.laneStuck p) (p := p) (by rw [hlane]; exact h)
    have hclear (h : (s.laneAt p).queue = false) :=
      State.dropQueue_of_clear (s := s.laneStuck p) (p := p) (by rw [hlane]; exact h)
    have hsame (h : (s.laneAt p).queue = false) : ((s.laneStuck p).dropQueue p).fume = s.fume ∧
        ((s.laneStuck p).dropQueue p).comms = s.comms := by
      rw [hclear h]
      exact ⟨rfl, rfl⟩
    clear hclear
    generalize (s.laneStuck p).dropQueue p = t at *
    refine ⟨_, hexec.trans (done_calm (s := s) hq hv hmode hzone hstep.calm), ?_, hflag, hsame, fun k hk hactive => ?_⟩
    · rw [State.mk.injEq]
      refine ⟨hmode, hset, hnow, by rw [hmoment]; rfl, hgas, ?_, rfl, hpeers, ?_, htracker, hguide, rfl, hzone,
        hstore, hpending⟩
      · have hfume := hstep.fume
        rw [hmovement] at hfume
        exact hfume
      · rw [hscanner]
        simp [State.laneStuck, State.setLane, Tbl.set_set]
    · have hlamps : s.stuckLamps p = (s.presenceEnd (some k)).lamps := by
        unfold State.stuckLamps
        rw [if_pos hactive, hk]
      obtain ⟨hcount, -, hevents⟩ := s.presenceEnd_lamps k
      dsimp only
      rw [hlamps]
      exact ⟨hcount, hevents⟩

end Sys2Proof.Machine
end


section
/-! Passages over a lane: what a loop change decodes, and what follows at the tracker, the lamps and the link (R111, R112,
R114, R119, R124, R144). -/

namespace Sys2Proof.Machine

/-! ## The table of R111 -/

theorem decodeLane_table : ∀ row ∈ ([(.firstA, .a, false, .clear), (.firstA, .b, true, .spanA),
      (.spanA, .a, false, .tailA), (.spanA, .b, false, .firstA), (.tailA, .a, true, .spanA),
      (.tailA, .b, false, .clear), (.firstB, .b, false, .clear), (.firstB, .a, true, .spanB),
      (.spanB, .b, false, .tailB), (.spanB, .a, false, .firstB), (.tailB, .b, true, .spanB),
      (.tailB, .a, false, .clear)] : List (LaneState × Loop × Bool × LaneState)),
    ∀ loops, (decodeLane row.1 loops row.2.1 row.2.2.1).state = row.2.2.2 := by
  simp [decodeLane]

/-- A first loop that becomes active leaves a CLEAR lane CLEAR where the other is active already. -/
theorem decodeLane_clear_on {l : Loops} {x : Loop} (h : levelOf l x ≠ true) :
    (decodeLane .clear (setLevel l x true) x true).state =
      if anyActive l then .clear else if x = .a then .firstA else .firstB := by
  obtain ⟨a, b⟩ := l
  cases x
  · obtain rfl : a = false := by simpa [levelOf] using h
    rfl
  · obtain rfl : b = false := by simpa [levelOf] using h
    cases a <;> rfl

theorem decodeLane_clear_off (l : Loops) (x : Loop) : (decodeLane .clear l x false).state = .clear := by
  cases x <;> rfl

/-- With no loop active the loop that changes becomes active. -/
theorem anyActive_setLevel_of_idle {l : Loops} {x : Loop} {on : Bool} (h : levelOf l x ≠ on) (hidle : anyActive l = false) :
    anyActive (setLevel l x on) = true := by
  obtain ⟨a, b⟩ := l
  cases x <;> cases a <;> cases b <;> cases on <;> simp_all [levelOf, setLevel, anyActive]

theorem Lane.setStuck_fields (x : Loop) (t : Timer) (l : Lane) : (l.setStuck x t).loops = l.loops ∧
    (l.setStuck x t).state = l.state ∧ (l.setStuck x t).presence = l.presence ∧ (l.setStuck x t).queue = l.queue ∧
    (l.setStuck x t).stuck x = t := by
  cases x <;> exact ⟨rfl, rfl, rfl, rfl, rfl⟩

/-! ## The effects of a passage (R114) -/

theorem offer_calm (e : Env) (p : Payload) (c : Comms) (cfg : Settings) : c.Calm cfg (offer e p c) :=
  .of_starts (offer_starts e p c) (by simp)

section
variable (s : State) (p : Fin 4) (d : Direction)

theorem State.offerTransit_step : s.LaneStep (s.offerTransit p d) where
  set := by simp
  calm := by
    unfold State.offerTransit
    split
    · exact .refl
    · exact offer_calm ..
  fume := by simp
  scanner := by simp
  sound := (State.leadInSound_congr (by simp) (by simp) (by simp)).mpr

/-- With room a notice joins the queue, and the reports and notices of this station still find their places. -/
theorem State.offerTransit_spaced {s : State} {p : Fin 4} {d : Direction} {n : Fin 8} (h : s.comms.roomy)
    (hn : s.settings.placeOfPort p = some n) : (s.offerTransit p d).comms.Spaced 8
      (some (.transit (s.settings.neighbours.get n).unit d p)) := by
  have hoffer : (s.offerTransit p d).comms = s.comms.join s.env (.transit (s.settings.neighbours.get n).unit d p) := by
    unfold State.offerTransit
    rw [hn]
    exact offer_of_room h.hears (Nat.lt_succ_of_le h.length)
  rw [hoffer]
  refine ⟨h.hears, ?_, by decide, fun x hx => ?_⟩
  · have hplaces := h.places
    rw [Comms.join_reserved]
    unfold Link.reserved at hplaces
    have hnotice : ((Payload.transit (s.settings.neighbours.get n).unit d p).isStartNotice || s.comms.hasNotice) =
        s.comms.link.queue.any (fun f => f.payload.isStartNotice) := rfl
    have hreport : ((Payload.transit (s.settings.neighbours.get n).unit d p).isReport || s.comms.link.hasReport) =
        s.comms.link.hasReport := rfl
    rw [hnotice, hreport]
    omega
  · cases hx
    exact ⟨rfl, _, (enqueue_perm ..).mem_iff.mpr (List.mem_cons_self ..), rfl⟩

end

theorem State.addArrival_step (s : State) (src : Source) : s.LaneStep (s.addArrival src) where
  set := by simp
  calm := (s.addArrival_moves src).1.calm
  fume := by simp
  scanner := by
    obtain ⟨-, hpolls, -, -⟩ := s.addArrival_moves src
    rw [Scanner.mk.injEq]
    exact ⟨rfl, rfl, by simp, hpolls, by simp, by simp, rfl⟩
  sound h := State.addArrival_sound h src

theorem State.passOn_step (s : State) : s.LaneStep s.passOn where
  set := by simp
  calm := (s.removeOldest_moves _).1.calm
  fume := by simp
  scanner := by
    obtain ⟨-, hpolls, -, -⟩ := s.removeOldest_moves fun k => { k with passed := bump k.passed }
    rw [Scanner.mk.injEq]
    exact ⟨rfl, rfl, by simp, hpolls, by simp, by simp, rfl⟩
  sound h := State.removeOldest_sound h _

/-- The passage has been counted and has moved the movement ring. -/
def State.passed (s : State) (f : BayCounters → BayCounters) : State := (s.countBay f).movementEvent

theorem State.passed_step (s : State) (f : BayCounters → BayCounters) : s.LaneStep (s.passed f) :=
  (s.countBay_step f).trans (State.movementEvent_step _)

theorem State.passed_roomy {s : State} (h : s.comms.roomy) (f : BayCounters → BayCounters) :
    (s.passed f).comms.roomy := by
  unfold State.passed State.movementEvent State.reformEs State.reworkDemand State.onComms
  exact reworkDemand_roomy h

/-- What a passage leaves of the lamps. -/
structure State.LampsKept (s t : State) : Prop where
  channels : ∀ k, (t.lamps.channels.get k).lanes = (s.lamps.channels.get k).lanes ∧
    (t.lamps.channels.get k).presence = (s.lamps.channels.get k).presence
  events : t.lamps.counters.presenceEvents = s.lamps.counters.presenceEvents

theorem State.Rehung.lampsKept {s t : State} (h : s.Rehung t) : s.LampsKept t := ⟨h.channels, h.events⟩

/-- A passage IN: an arrival from the port, and a notice to the port's neighbour. -/
theorem State.passageEffects_inward (s : State) (p : Fin 4) :
    s.LaneStep (s.passageEffects p .inward) ∧ s.LampsKept (s.passageEffects p .inward) ∧
    (s.passageEffects p .inward).scanner.counters.passagesIn = bump s.scanner.counters.passagesIn ∧
    (s.passageEffects p .inward).fume.movement = s.fume.movement.set 5 (min 255 (s.fume.movement.get 5 + 1)) ∧
    (s.passageEffects p .inward).tracker.list.getLast?.map (fun a => (a.recordedAt, a.source)) = some (s.now, .port p) ∧
    (s.passageEffects p .inward).tracker.counters.added = bump s.tracker.counters.added ∧
    ∀ n, s.comms.roomy → s.settings.placeOfPort p = some n → (s.passageEffects p .inward).comms.Spaced 8
      (some (.transit (s.settings.neighbours.get n).unit .outOf p)) := by
  have hform : s.passageEffects p .inward = ((s.passed fun k => { k with passagesIn := bump k.passagesIn }
    ).addArrival (.port p)).offerTransit p .outOf := rfl
  rw [hform]
  have hpassed := s.passed_step fun k => { k with passagesIn := bump k.passagesIn }
  have hroom (h : s.comms.roomy) := State.passed_roomy h fun k => { k with passagesIn := bump k.passagesIn }
  have hmoved : (s.passed fun k => { k with passagesIn := bump k.passagesIn }).fume.movement =
    s.fume.movement.set 5 (min 255 (s.fume.movement.get 5 + 1)) := rfl
  have hkept : (s.passed fun k => { k with passagesIn := bump k.passagesIn }).lamps = s.lamps ∧
      (s.passed fun k => { k with passagesIn := bump k.passagesIn }).now = s.now ∧
      (s.passed fun k => { k with passagesIn := bump k.passagesIn }).tracker = s.tracker ∧
      (s.passed fun k => { k with passagesIn := bump k.passagesIn }).scanner.counters.passagesIn =
        bump s.scanner.counters.passagesIn := by simp [State.passed]
  generalize (s.passed fun k => { k with passagesIn := bump k.passagesIn }) = u at *
  obtain ⟨hlamps, hnow, htracker, hcount⟩ := hkept
  obtain ⟨hreported, -, hstamps, hadded⟩ := u.addArrival_moves (.port p)
  have hrehung := u.addArrival_rehung (.port p)
  have hset : (u.addArrival (.port p)).settings = s.settings := by rw [(u.addArrival_step _).set, hpassed.set]
  refine ⟨(hpassed.trans (u.addArrival_step _)).trans (State.offerTransit_step ..), ?_, ?_, ?_, ?_, ?_,
    fun n hr hn => ?_⟩
  · have hlampsKept := hrehung.lampsKept
    obtain ⟨hchannels, hevents⟩ := hlampsKept
    rw [hlamps] at hchannels hevents
    exact ⟨by simpa using hchannels, by simpa using hevents⟩
  · have hscanner : ((u.addArrival (.port p)).offerTransit p .outOf).scanner = (u.addArrival (.port p)).scanner := by simp
    rw [hscanner]
    exact (congrArg BayCounters.passagesIn hrehung.counters).trans hcount
  · simpa using hmoved
  · have hlast : (u.addArrival (.port p)).tracker.list.getLast?.map Arrival.stamp =
        some (s.now, .port p, s.now + 1000 * u.settings.lifetime) := by
      rw [← List.getLast?_map, hstamps, List.getLast?_concat, hnow]
    have htwo := congrArg (Option.map fun x : Nat × Source × Nat => (x.1, x.2.1)) hlast
    simpa [Function.comp_def, Arrival.stamp] using htwo
  · simpa [htracker] using hadded
  · have hspaced := State.offerTransit_spaced (s := u.addArrival (.port p)) (d := .outOf) (hreported.roomy (hroom hr))
      (by rw [hset]; exact hn)
    rwa [hset] at hspaced

/-- A passage OUT: the oldest arrival passed on, and a notice to the port's neighbour. -/
theorem State.passageEffects_outward (s : State) (p : Fin 4) :
    s.LaneStep (s.passageEffects p .outward) ∧ s.LampsKept (s.passageEffects p .outward) ∧
    (s.passageEffects p .outward).scanner.counters.passagesOut = bump s.scanner.counters.passagesOut ∧
    (s.passageEffects p .outward).fume.movement = s.fume.movement.set 5 (min 255 (s.fume.movement.get 5 + 1)) ∧
    (s.passageEffects p .outward).tracker.list.map (fun a => (a.recordedAt, a.source)) =
      (s.tracker.list.drop 1).map (fun a => (a.recordedAt, a.source)) ∧
    ∀ n, s.comms.roomy → s.settings.placeOfPort p = some n → (s.passageEffects p .outward).comms.Spaced 8
      (some (.transit (s.settings.neighbours.get n).unit .into p)) := by
  have hform : s.passageEffects p .outward = ((s.passed fun k => { k with passagesOut := bump k.passagesOut }
    ).passOn).offerTransit p .into := rfl
  rw [hform]
  have hpassed := s.passed_step fun k => { k with passagesOut := bump k.passagesOut }
  have hroom (h : s.comms.roomy) := State.passed_roomy h fun k => { k with passagesOut := bump k.passagesOut }
  have hmoved : (s.passed fun k => { k with passagesOut := bump k.passagesOut }).fume.movement =
    s.fume.movement.set 5 (min 255 (s.fume.movement.get 5 + 1)) := rfl
  have hkept : (s.passed fun k => { k with passagesOut := bump k.passagesOut }).lamps = s.lamps ∧
      (s.passed fun k => { k with passagesOut := bump k.passagesOut }).tracker = s.tracker ∧
      (s.passed fun k => { k with passagesOut := bump k.passagesOut }).scanner.counters.passagesOut =
        bump s.scanner.counters.passagesOut := by simp [State.passed]
  generalize (s.passed fun k => { k with passagesOut := bump k.passagesOut }) = u at *
  obtain ⟨hlamps, htracker, hcount⟩ := hkept
  obtain ⟨hreported, -, hstamps, -⟩ := u.removeOldest_moves fun k => { k with passed := bump k.passed }
  have hrehung : u.Rehung u.passOn := u.removeOldest_rehung _
  have hset : u.passOn.settings = s.settings := by rw [u.passOn_step.set, hpassed.set]
  refine ⟨(hpassed.trans u.passOn_step).trans (State.offerTransit_step ..), ?_, ?_, ?_, ?_, fun n hr hn => ?_⟩
  · obtain ⟨hchannels, hevents⟩ := hrehung.lampsKept
    rw [hlamps] at hchannels hevents
    exact ⟨by simpa using hchannels, by simpa using hevents⟩
  · have hscanner : (u.passOn.offerTransit p .into).scanner = u.passOn.scanner := by simp
    rw [hscanner]
    exact (congrArg BayCounters.passagesOut hrehung.counters).trans hcount
  · simpa using hmoved
  · rw [htracker] at hstamps
    have hlist : (u.passOn.offerTransit p .into).tracker.list = u.passOn.tracker.list := by simp
    rw [hlist]
    exact map_recorded_of_stamps hstamps
  · have hspaced := State.offerTransit_spaced (s := u.passOn) (d := .into) (hreported.roomy (hroom hr))
      (by rw [hset]; exact hn)
    rwa [hset] at hspaced

theorem State.passageEffects_step (s : State) (p : Fin 4) (x : Passage) :
    s.LaneStep (s.passageEffects p x) ∧ s.LampsKept (s.passageEffects p x) := by
  cases x with
  | none => exact ⟨.refl s, fun _ => ⟨rfl, rfl⟩, rfl⟩
  | aborted => exact ⟨s.countBay_step fun k => { k with passagesAborted := bump k.passagesAborted },
      fun _ => ⟨rfl, rfl⟩, rfl⟩
  | inward =>
    obtain ⟨hstep, hlamps, -⟩ := s.passageEffects_inward p
    exact ⟨hstep, hlamps⟩
  | outward =>
    obtain ⟨hstep, hlamps, -⟩ := s.passageEffects_outward p
    exact ⟨hstep, hlamps⟩

/-! ## The lane before and after the passage (R111, R112) -/

theorem State.laneAt_setLane_ne (s : State) {p q : Fin 4} (h : q ≠ p) (l : Lane) :
    (s.setLane p l).laneAt q = s.laneAt q := Tbl.get_set_ne _ _ h

/-- The lane as a loop change leaves it, before presence begins or ends. -/
def Lane.moved (l : Lane) (x : Loop) (on : Bool) : Lane :=
  ({ l with
    loops := setLevel l.loops x on
    state := (decodeLane l.state (setLevel l.loops x on) x on).state } : Lane).setStuck x (stuckTimer on)

/-- The station whose lane has moved, and has begun presence with its first active loop. -/
def State.laneEntered (s : State) (p : Fin 4) (x : Loop) (on : Bool) : State :=
  if anyActive (s.laneAt p).loops then s.setLane p ((s.laneAt p).moved x on)
  else (s.setLane p ((s.laneAt p).moved x on)).presenceBegins p

/-- The station whose lane ends presence with its last active loop. -/
def State.laneLeft (s : State) (p : Fin 4) (ends : Bool) : State := if ends then s.presenceEnds p else s

theorem State.laneMoves_eq {s : State} {p : Fin 4} {x : Loop} {on : Bool} (h : levelOf (s.laneAt p).loops x ≠ on) :
    s.laneMoves p x on = ((s.laneEntered p x on).passageEffects p
      (decodeLane (s.laneAt p).state (setLevel (s.laneAt p).loops x on) x on).passage).laneLeft p
        (!anyActive (setLevel (s.laneAt p).loops x on)) := by
  unfold State.laneMoves State.laneEntered State.laneLeft
  dsimp only
  cases hl : anyActive (s.laneAt p).loops with
  | false =>
    have hactive := anyActive_setLevel_of_idle h hl
    simp [hactive, Lane.moved]
  | true => simp [Lane.moved]

section
variable (s : State) (p : Fin 4) (x : Loop) (on : Bool)

theorem State.laneEntered_frame : (s.laneEntered p x on).comms = s.comms ∧ (s.laneEntered p x on).fume = s.fume ∧
    (s.laneEntered p x on).tracker = s.tracker ∧ (s.laneEntered p x on).now = s.now ∧
    (s.laneEntered p x on).settings = s.settings ∧
    (s.laneEntered p x on).scanner.counters = s.scanner.counters := by
  unfold State.laneEntered
  split
  · exact ⟨rfl, rfl, rfl, rfl, rfl, rfl⟩
  · simp [State.presenceBegins, State.setLane]

theorem State.laneEntered_step : s.LaneStep (s.laneEntered p x on) := by
  unfold State.laneEntered
  split
  · exact s.setLane_step p _
  · exact ((s.setLane_step p _).trans (State.setLane_step _ p _)).trans (State.presenceStart_step _ _)

theorem State.laneEntered_lane : (s.laneEntered p x on).laneAt p = { (s.laneAt p).moved x on with
    presence := if anyActive (s.laneAt p).loops then (s.laneAt p).presence else s.settings.queueTimer } := by
  have hpresence : ((s.laneAt p).moved x on).presence = (s.laneAt p).presence := (Lane.setStuck_fields ..).2.2.1
  unfold State.laneEntered
  split
  · rw [State.laneAt_setLane, ← hpresence]
  · obtain ⟨lamps, hbegins⟩ := s.presenceBegins_setLane p ((s.laneAt p).moved x on)
    rw [hbegins]
    exact State.laneAt_setLane ..

theorem State.laneEntered_lane_ne {q : Fin 4} (hq : q ≠ p) : (s.laneEntered p x on).laneAt q = s.laneAt q := by
  unfold State.laneEntered
  split
  · exact s.laneAt_setLane_ne hq _
  · obtain ⟨lamps, hbegins⟩ := s.presenceBegins_setLane p ((s.laneAt p).moved x on)
    rw [hbegins]
    exact s.laneAt_setLane_ne hq _

theorem State.laneEntered_lamps_of_active (h : anyActive (s.laneAt p).loops = true) :
    (s.laneEntered p x on).lamps = s.lamps := by
  unfold State.laneEntered
  rw [if_pos h]
  rfl

theorem State.laneEntered_lamps_of_idle (h : anyActive (s.laneAt p).loops = false) {k : Fin 8}
    (hk : (s.settings.ports.get p).lamp = some k) :
    ((s.laneEntered p x on).lamps.channels.get k).lanes = (s.lamps.channels.get k).lanes + 1 ∧
    ((s.laneEntered p x on).lamps.channels.get k).presence = .held ∧
    (s.laneEntered p x on).lamps.counters.presenceEvents = bump s.lamps.counters.presenceEvents := by
  have hform : s.laneEntered p x on = (s.setLane p ((s.laneAt p).moved x on)).presenceBegins p :=
    if_neg (by rw [h]; nofun)
  rw [hform]
  unfold State.presenceBegins
  have hlamp : ((s.setLane p ((s.laneAt p).moved x on)).settings.ports.get p).lamp = some k := hk
  rw [hlamp]
  exact State.presenceStart_lamps _ k

end

/-- The lane that presence leaves, before the end of presence is presented to the lamps. -/
def State.laneQuit (s : State) (p : Fin 4) : State :=
  (s.setLane p { s.laneAt p with presence := .stopped }).dropQueue p

section
variable (s : State) (p : Fin 4)

theorem State.presenceEnds_eq : s.presenceEnds p = (s.laneQuit p).presenceEnd (s.settings.ports.get p).lamp := rfl

theorem State.laneQuit_step : s.LaneStep (s.laneQuit p) := (s.setLane_step p _).trans (State.dropQueue_step _ p)

theorem State.laneQuit_scanner : (s.laneQuit p).scanner = { s.scanner with
    lanes := s.scanner.lanes.set p { s.laneAt p with presence := .stopped, queue := false } } := by
  unfold State.laneQuit
  rw [State.dropQueue_scanner, State.laneAt_setLane]
  unfold State.setLane
  dsimp only
  rw [Tbl.set_set]

theorem State.presenceEnds_scanner : (s.presenceEnds p).scanner = (s.laneQuit p).scanner := by
  rw [s.presenceEnds_eq, State.presenceEnd_eq]

theorem State.laneLeft_step (ends : Bool) : s.LaneStep (s.laneLeft p ends) := by
  unfold State.laneLeft
  split
  · exact (s.laneQuit_step p).trans (State.presenceEnd_step _ _)
  · exact .refl s

theorem State.laneLeft_tracker (ends : Bool) : (s.laneLeft p ends).tracker = s.tracker := by
  unfold State.laneLeft
  split <;> simp

theorem State.laneLeft_movement (ends : Bool) : (s.laneLeft p ends).fume.movement = s.fume.movement := by
  unfold State.laneLeft
  split
  · rw [s.presenceEnds_eq, State.presenceEnd_eq]
    exact State.dropQueue_movement _ p
  · rfl

theorem State.laneLeft_counters (ends : Bool) : (s.laneLeft p ends).scanner.counters = s.scanner.counters := by
  unfold State.laneLeft
  split
  · rw [s.presenceEnds_scanner, s.laneQuit_scanner]
  · rfl

theorem State.laneLeft_lane (ends : Bool) : (s.laneLeft p ends).laneAt p =
    if ends then { s.laneAt p with presence := .stopped, queue := false } else s.laneAt p := by
  unfold State.laneLeft
  split
  · unfold State.laneAt
    rw [s.presenceEnds_scanner, s.laneQuit_scanner]
    exact Tbl.get_set_self ..
  · rfl

theorem State.laneLeft_lane_ne (ends : Bool) {q : Fin 4} (hq : q ≠ p) : (s.laneLeft p ends).laneAt q = s.laneAt q := by
  unfold State.laneLeft
  split
  · unfold State.laneAt
    rw [s.presenceEnds_scanner, s.laneQuit_scanner]
    exact Tbl.get_set_ne _ _ hq
  · rfl

theorem State.laneLeft_spaced {s : State} {p : Fin 4} {m : Nat} {x : Option Payload} (h : s.comms.Spaced m x)
    (ends : Bool) : (s.laneLeft p ends).comms.Spaced m x := by
  unfold State.laneLeft
  split
  · rw [s.presenceEnds_eq, State.presenceEnd_eq]
    exact State.dropQueue_spaced (s := s.setLane p { s.laneAt p with presence := .stopped }) h p
  · exact h

theorem State.laneLeft_lamps_of_ends {k : Fin 8} (hk : (s.settings.ports.get p).lamp = some k) :
    ((s.laneLeft p true).lamps.channels.get k).lanes = (s.lamps.channels.get k).lanes - 1 ∧
    ((s.laneLeft p true).lamps.channels.get k).presence = (if (s.lamps.channels.get k).lanes ≤ 1
      then .counting (1000 * (s.settings.lamps.get k).hold) else (s.lamps.channels.get k).presence) ∧
    (s.laneLeft p true).lamps.counters.presenceEvents = bump s.lamps.counters.presenceEvents := by
  have hends := (s.laneQuit p).presenceEnd_lamps k
  have hlamps : (s.laneQuit p).lamps = s.lamps := by simp [State.laneQuit, State.setLane]
  rw [(s.laneQuit_step p).set, hlamps] at hends
  have hform : s.laneLeft p true = (s.laneQuit p).presenceEnd (some k) := by
    rw [← hk]
    rfl
  rw [hform]
  exact hends

end

/-- What the lane is once it has moved, and presence has begun or ended with the change. -/
theorem State.laneMoved_lane {s w : State} {p : Fin 4} {x : Loop} {on : Bool}
    (hlevel : levelOf (s.laneAt p).loops x ≠ on)
    (hw : w.laneAt p = { (s.laneAt p).moved x on with
      presence := if anyActive (s.laneAt p).loops then (s.laneAt p).presence else s.settings.queueTimer }) :
    ∃ presence queue, (w.laneLeft p (!anyActive (setLevel (s.laneAt p).loops x on))).laneAt p =
        { (s.laneAt p).moved x on with presence := presence, queue := queue } ∧
      (anyActive (s.laneAt p).loops = false → presence = s.settings.queueTimer) ∧
      (anyActive (setLevel (s.laneAt p).loops x on) = false → presence = .stopped ∧ queue = false) := by
  rw [w.laneLeft_lane, hw]
  cases hafter : anyActive (setLevel (s.laneAt p).loops x on) with
  | false =>
    refine ⟨_, _, rfl, fun hidle => ?_, fun _ => ⟨rfl, rfl⟩⟩
    have hbusy := anyActive_setLevel_of_idle hlevel hidle
    rw [hafter] at hbusy
    cases hbusy
  | true => exact ⟨_, _, rfl, fun hidle => if_neg (by rw [hidle]; nofun), nofun⟩

/-- The fields of a lane that has moved, whatever its presence. -/
theorem Lane.moved_fields {l n : Lane} {x : Loop} {on : Bool} {presence : Timer} {queue : Bool}
    (h : n = { l.moved x on with presence := presence, queue := queue }) :
    n.loops = setLevel l.loops x on ∧ n.state = (decodeLane l.state (setLevel l.loops x on) x on).state ∧
    n.stuck x = stuckTimer on := by
  subst h
  cases x <;> exact ⟨rfl, rfl, rfl⟩

theorem State.passageEffects_aborted (s : State) (p : Fin 4) : s.passageEffects p .aborted =
    s.countBay fun k => { k with passagesAborted := bump k.passagesAborted } := rfl

/-- Settles O46: the lane takes its next state from the table, presence begins and ends by the levels, and the passage
decoded reaches the tracker, the movement ring and the link. -/
theorem loopChangesDecodePassages : Obligations.LoopChangesDecodePassages := by
  intro p x on l s hq hv huse hl hlevel hqueue
  subst hl
  have hexec : exec (.loopChange p x on) s = done (s.loopChanges p x on) := congrArg done (if_pos huse)
  refine ⟨fun hfault => ?_, fun hworks => ?_⟩
  · refine hexec.trans ((congrArg done ((if_neg hlevel).trans (if_pos hfault))).trans ?_)
    exact done_of_quiet (s := s.setLane p { s.laneAt p with loops := setLevel (s.laneAt p).loops x on }) hq
  · have hmoves : s.loopChanges p x on = _ :=
      ((if_neg hlevel).trans (if_neg hworks)).trans (State.laneMoves_eq hlevel)
    obtain ⟨hmode, hset, hnow, hmoment, hgas, hpeers, hzone, hstore, hpending⟩ := s.loopChanges_frame p x on
    rw [hmoves] at hexec hmode hset hnow hmoment hgas hpeers hzone hstore hpending
    -- the station once its lane has moved and presence may have begun
    obtain ⟨ucomms, ufume, utracker, unow, uset, ucounters⟩ := s.laneEntered_frame p x on
    have ustep := s.laneEntered_step p x on
    have ulane := s.laneEntered_lane p x on
    have ulane_ne (q : Fin 4) (hne : q ≠ p) := s.laneEntered_lane_ne p x on hne
    have ulamps := s.laneEntered_lamps_of_active p x on
    have ubegins (h : anyActive (s.laneAt p).loops = false) (k : Fin 8) (hk : (s.settings.ports.get p).lamp = some k) :=
      s.laneEntered_lamps_of_idle p x on h hk
    generalize s.laneEntered p x on = u at *
    -- the passage
    have hin : (s.laneAt p).state = .tailA → x = .b → on = false →
        (decodeLane (s.laneAt p).state (setLevel (s.laneAt p).loops x on) x on).passage = .inward := by
      rintro h rfl rfl
      rw [h]
      rfl
    have hout : (s.laneAt p).state = .tailB → x = .a → on = false →
        (decodeLane (s.laneAt p).state (setLevel (s.laneAt p).loops x on) x on).passage = .outward := by
      rintro h rfl rfl
      rw [h]
      rfl
    have haborted : (s.laneAt p).state = .firstA ∧ x = .a ∨ (s.laneAt p).state = .firstB ∧ x = .b → on = false →
        (decodeLane (s.laneAt p).state (setLevel (s.laneAt p).loops x on) x on).passage = .aborted := by
      rintro (⟨h, rfl⟩ | ⟨h, rfl⟩) rfl <;> rw [h] <;> rfl
    generalize (decodeLane (s.laneAt p).state (setLevel (s.laneAt p).loops x on) x on).passage = passage at *
    obtain ⟨wstep, wlamps⟩ := u.passageEffects_step p passage
    have wlanes : (u.passageEffects p passage).scanner.lanes = u.scanner.lanes := by simp
    have wlane (q : Fin 4) : (u.passageEffects p passage).laneAt q = u.laneAt q := by
      unfold State.laneAt
      rw [wlanes]
    have hstep := (ustep.trans wstep).trans
      ((u.passageEffects p passage).laneLeft_step p (!anyActive (setLevel (s.laneAt p).loops x on)))
    obtain ⟨presence, queue, hlane, hbegun, hended⟩ :=
      State.laneMoved_lane (w := u.passageEffects p passage) hlevel ((wlane p).trans ulane)
    obtain ⟨hloops, hstate, hstuck⟩ := Lane.moved_fields hlane
    have tlane_ne (q : Fin 4) (hne : q ≠ p) :=
      ((State.laneLeft_lane_ne _ p (!anyActive (setLevel (s.laneAt p).loops x on)) hne).trans (wlane q)).trans
        (ulane_ne q hne)
    have ttracker := (u.passageEffects p passage).laneLeft_tracker p (!anyActive (setLevel (s.laneAt p).loops x on))
    have tmovement := (u.passageEffects p passage).laneLeft_movement p (!anyActive (setLevel (s.laneAt p).loops x on))
    have tcounters := (u.passageEffects p passage).laneLeft_counters p (!anyActive (setLevel (s.laneAt p).loops x on))
    have tspaced (m : Nat) (y : Option Payload) (h : (u.passageEffects p passage).comms.Spaced m y) :=
      State.laneLeft_spaced (p := p) h (!anyActive (setLevel (s.laneAt p).loops x on))
    have troomy (hsilent : s.comms.link.state ≠ .silent) : u.comms.roomy := by
      rw [ucomms]
      exact Comms.roomy_of_le hsilent hqueue
    have tstays (h : anyActive (setLevel (s.laneAt p).loops x on) = true) :
        (u.passageEffects p passage).laneLeft p (!anyActive (setLevel (s.laneAt p).loops x on)) =
          u.passageEffects p passage := by
      rw [h]
      rfl
    have tends (h : anyActive (setLevel (s.laneAt p).loops x on) = false) :
        (u.passageEffects p passage).laneLeft p (!anyActive (setLevel (s.laneAt p).loops x on)) =
          (u.passageEffects p passage).laneLeft p true := by
      rw [h]
      rfl
    have hbusy : anyActive (setLevel (s.laneAt p).loops x on) = false → anyActive (s.laneAt p).loops = true := by
      intro h
      by_contra hidle
      rw [anyActive_setLevel_of_idle hlevel (Bool.not_eq_true _ ▸ hidle)] at h
      cases h
    generalize (u.passageEffects p passage).laneLeft p (!anyActive (setLevel (s.laneAt p).loops x on)) = t at *
    refine ⟨_, hexec.trans (done_calm (s := s) hq hv hmode hzone hstep.calm), ?frame, hloops, tlane_ne, hstuck, ?table,
      ?clearOn, ?clearOff, fun h => ?begun, fun h => ?ended, fun hst hx hon => ?inward, fun hst hx hon => ?outward,
      fun hst hon => ?aborted, fun h => hstep.sound h, fun k hk h => ?begins, fun k hk h => ?ends, fun h hafter => ?neither⟩
    case frame =>
      rw [State.mk.injEq]
      exact ⟨hmode, hset, hnow, by rw [hmoment], hgas, hstep.fume, rfl, hpeers, hstep.scanner, rfl, rfl, rfl, hzone,
        hstore, hpending⟩
    case table =>
      intro row hrow h1 h2 h3
      have hrow := decodeLane_table row hrow (setLevel (s.laneAt p).loops x on)
      rw [← h1, ← h2, ← h3] at hrow
      exact hstate.trans hrow
    case clearOn =>
      rintro h rfl
      rw [h] at hstate
      exact hstate.trans (decodeLane_clear_on hlevel)
    case clearOff =>
      rintro h rfl
      rw [h] at hstate
      exact hstate.trans (decodeLane_clear_off _ x)
    case begun => exact (congrArg Lane.presence hlane).trans (hbegun h)
    case ended =>
      obtain ⟨hstopped, hcleared⟩ := hended h
      exact ⟨(congrArg Lane.presence hlane).trans hstopped, (congrArg Lane.queue hlane).trans hcleared⟩
    case inward =>
      obtain rfl := hin hst hx hon
      obtain ⟨-, -, hcount, hmove, hlast, hadded, hspaced⟩ := u.passageEffects_inward p
      rw [ucounters] at hcount
      rw [ufume] at hmove
      rw [unow, ← ttracker] at hlast
      rw [utracker, ← ttracker] at hadded
      rw [uset] at hspaced
      exact ⟨(congrArg BayCounters.passagesIn tcounters).trans hcount, tmovement.trans hmove, hlast, hadded,
        fun n hsilent hn => ((tspaced _ _ (hspaced n (troomy hsilent) hn)).holds _ rfl).2⟩
    case outward =>
      obtain rfl := hout hst hx hon
      obtain ⟨-, -, hcount, hmove, hlist, hspaced⟩ := u.passageEffects_outward p
      rw [ucounters] at hcount
      rw [ufume] at hmove
      rw [utracker, ← ttracker] at hlist
      rw [uset] at hspaced
      exact ⟨(congrArg BayCounters.passagesOut tcounters).trans hcount, tmovement.trans hmove, hlist,
        fun n hsilent hn => ((tspaced _ _ (hspaced n (troomy hsilent) hn)).holds _ rfl).2⟩
    case aborted =>
      obtain rfl := haborted hst hon
      rw [u.passageEffects_aborted] at tcounters ttracker tmovement
      refine ⟨(congrArg BayCounters.passagesAborted tcounters).trans ?_, ttracker.trans utracker, tmovement.trans ?_⟩
      · rw [← ucounters]
        rfl
      · rw [← ufume]
        rfl
    case begins =>
      obtain ⟨hlanes, hpresence, hevents⟩ := ubegins h k hk
      rw [tstays (anyActive_setLevel_of_idle hlevel h)]
      exact ⟨(wlamps.channels k).1.trans hlanes, (wlamps.channels k).2.trans hpresence, wlamps.events.trans hevents⟩
    case ends =>
      have hlamps := ulamps (hbusy h)
      have hset' : (u.passageEffects p passage).settings = s.settings := wstep.set.trans uset
      obtain ⟨hlanes, hpresence, hevents⟩ :=
        (u.passageEffects p passage).laneLeft_lamps_of_ends p (k := k) (by rw [hset']; exact hk)
      rw [(wlamps.channels k).1, hlamps] at hlanes
      rw [(wlamps.channels k).1, (wlamps.channels k).2, hlamps, hset'] at hpresence
      rw [wlamps.events, hlamps] at hevents
      rw [tends h]
      exact ⟨hlanes, hpresence, hevents⟩
    case neither =>
      rw [tstays hafter, ← ulamps h]
      exact wlamps.events

end Sys2Proof.Machine
end


section
/-! What an outcome of an attempt, the stuck timer and a stretch do to a station at rest (R61, R67 to R76). -/

namespace Sys2Proof.Machine

/-! ## The end of a step on a bus that is not free -/

/-- The bus side of a station at rest moved with the fans' NO_VENT and the responder left alone: nothing follows where
no frame can start. -/
theorem done_link {s : State} (h : s.atRest = true) {c : Comms} (hfan : c.fan.noVent = s.comms.fan.noVent)
    (hservice : c.service = s.comms.service) (hstart : ({ s with comms := c } : State).framesStarted = true) :
    done { s with comms := c } = .next { s with comms := c, moment := s.moment + 1 } := by
  refine done_of_atRest (s := { s with comms := c }) ?_
  simp only [State.atRest, Bool.and_eq_true] at h ⊢
  obtain ⟨⟨htold, htaken⟩, -⟩ := h
  refine ⟨⟨?_, ?_⟩, hstart⟩
  · rw [← htold]
    unfold State.ventTold
    dsimp only
    rw [hfan]
    rfl
  · rw [← htaken]
    unfold State.requestsTaken State.mayServe State.restartDue
    dsimp only
    rw [hservice]

/-- A bus that is not free starts nothing. -/
theorem done_busy {s : State} (h : s.atRest = true) {c : Comms} (hfan : c.fan.noVent = s.comms.fan.noVent)
    (hservice : c.service = s.comms.service) (hbus : c.link.busFreeCount = 0) :
    done { s with comms := c } = .next { s with comms := c, moment := s.moment + 1 } :=
  done_link h hfan hservice (State.framesStarted_of_busy (by dsimp only; rw [hbus]; nofun))

/-- A link whose bus is not free. -/
theorem done_busyLink {s : State} (h : s.atRest = true) (l : Link) (hbus : l.busFreeCount = 0) :
    done { s with comms := { s.comms with link := l } } =
      .next { s with comms := { s.comms with link := l }, moment := s.moment + 1 } :=
  done_busy h (c := { s.comms with link := l }) rfl rfl hbus

/-! ## Outcomes that leave the frame in the queue (R67, R70, R72, R76) -/

/-- The frame in flight back at its place after its first or second failed attempt (R72). -/
def Link.attemptFailed (unheard : Bool) (f : Frame) (l : Link) : Link :=
  { l with
    queue := l.queue.map fun x =>
      if x.inFlight then { x with attempt := x.attempt + 1, unheard := x.unheard && unheard, inFlight := false } else x
    wire := []
    busFreeCount := 0
    stuck := .stopped
    refreshMark := if f.payload.isReport then false else l.refreshMark }

theorem failAttempt_of_early {e : Env} {u : Bool} {f : Frame} {c : Comms} (hf : c.link.flight = some f)
    (ha : f.attempt < 2) : failAttempt e u c = { c with link := c.link.attemptFailed u f } := by
  simp only [failAttempt, hf, if_neg (Nat.not_le.mpr ha)]
  cases hr : f.payload.isReport <;>
    simp [Comms.onLink, Link.endAttempt, Link.onFlight, Link.staysQueued, Link.attemptFailed, hr]

theorem countedFailure_of_early {e : Env} {u : Bool} {k : LinkCounters → LinkCounters} {f : Frame} {c : Comms}
    (hf : c.link.flight = some f) (ha : f.attempt < 2) :
    countedFailure e u k c = { c with link := { c.link.attemptFailed u f with counters := k c.link.counters } } := by
  have hflight : c.link.flight.isSome = true := by rw [hf]; rfl
  rw [countedFailure, if_pos hflight, failAttempt_of_early (c := c.countLink k) hf ha]
  rfl

theorem loseArbitration_of_flight {f : Frame} {c : Comms} (hf : c.link.flight = some f) :
    loseArbitration c = { c with link := { c.link with
      queue := c.link.queue.map fun x => if x.inFlight then { x with inFlight := false } else x
      wire := []
      busFreeCount := 0
      stuck := .stopped
      refreshMark := if f.payload.isReport then false else c.link.refreshMark
      counters := { c.link.counters with arbLost := bump c.link.counters.arbLost } } } := by
  simp only [loseArbitration, hf]
  cases hr : f.payload.isReport <;>
    simp [Comms.onLink, Link.endAttempt, Link.onFlight, Link.staysQueued, Comms.countLink, Link.count, hr]

/-- Settles O31: each outcome leaves a bus that is not free, so nothing follows it. -/
theorem failedAttemptsKeepTheFrameInItsPlace : Obligations.FailedAttemptsKeepTheFrameInItsPlace := by
  unfold Obligations.FailedAttemptsKeepTheFrameInItsPlace
  intro f s h hf
  have hlost : exec .arbitrationLost s = done { s with comms := loseArbitration s.comms } := rfl
  have hvoided : exec .attemptVoided s = done { s with comms := countedFailure s.env false _ s.comms } := rfl
  have hunheard : exec .attemptUnheard s = done { s with comms := countedFailure s.env true _ s.comms } := rfl
  refine ⟨?_, fun ha => ⟨?_, ?_⟩⟩
  · rw [hlost, loseArbitration_of_flight hf]
    exact done_busyLink h _ rfl
  · rw [hvoided, countedFailure_of_early hf ha]
    refine (done_busyLink h _ rfl).trans (congrArg _ ?_)
    simp [Link.attemptFailed]
  · rw [hunheard, countedFailure_of_early hf ha]
    refine (done_busyLink h _ rfl).trans (congrArg _ ?_)
    simp [Link.attemptFailed]

/-! ## The stuck timer and the stretch (R73, R74, R76) -/

theorem Comms.firstBlocked_of_cons {e : Env} {c : Comms} {f : Frame} {rest : List Frame}
    (hq : c.link.queue = f :: rest) :
    c.firstBlocked e = (f.payload.isStartNotice && decide (e.settings.allowance ≤ c.liveCount)) := by
  simp only [Comms.firstBlocked, hq]

theorem presentFirst_of_blocked {e : Env} {c : Comms} {f : Frame} {rest : List Frame}
    (hq : c.link.queue = f :: rest) (hn : f.payload.isStartNotice = true) (hk : e.settings.allowance ≤ c.liveCount) :
    presentFirst e c = { c with
      fan := { c.fan with counters := { c.fan.counters with
        noticeDeferred := bump c.fan.counters.noticeDeferred } }
      link := { c.link with queue := rest } } := by
  have hblocked : c.firstBlocked e = true := by
    rw [Comms.firstBlocked_of_cons hq, hn, decide_eq_true hk]
    rfl
  rw [presentFirst, if_pos hblocked, hq]
  rfl

theorem Comms.firstBlocked_of_live {e : Env} {c : Comms} {f : Frame} {rest : List Frame}
    (hq : c.link.queue = f :: rest) (hk : f.payload.isStartNotice = true → c.liveCount < e.settings.allowance) :
    c.firstBlocked e = false := by
  rw [Comms.firstBlocked_of_cons hq, Bool.and_eq_false_iff, decide_eq_false_iff_not, Nat.not_le]
  cases hn : f.payload.isStartNotice with
  | false => exact .inl rfl
  | true => exact .inr (hk hn)

/-- The line reset of an expiry of the stuck timer, counted, with the timer running again (R76). -/
def Link.lineStuck (l : Link) : Link :=
  { l with
    busFreeCount := 0
    stuck := .running Config.stuckMs
    counters := { l.counters with stuckLine := bump l.counters.stuckLine } }

theorem stuckExpiry_eq (e : Env) (c : Comms) :
    stuckExpiry e c = (lineReset e (c.countLink fun k => { k with stuckLine := bump k.stuckLine })).onLink fun l =>
      { l with stuck := .running Config.stuckMs } := rfl

/-- A SILENT link makes no reset (R81). -/
theorem stuckExpiry_of_silent {e : Env} {c : Comms} (h : c.link.state = .silent) :
    stuckExpiry e c = { c with link := c.link.lineStuck } := by
  rw [stuckExpiry_eq, lineReset, if_pos (show (c.countLink _).link.state = .silent from h)]
  rfl

/-- The line as a further expiry on it leaves it, before the first frame to send is looked at. -/
def Comms.again (c : Comms) : Comms :=
  (c.countLink fun k => { k with stuckLine := bump k.stuckLine }).onLink Link.resetLine

section
variable {e : Env} {c : Comms} (hs : c.link.state ≠ .silent)
include hs

theorem stuckExpiry_of_flight {f : Frame} (hf : c.link.flight = some f) (ha : f.attempt < 2) :
    stuckExpiry e c = { c with link := { c.link.lineStuck.attemptFailed true f with
      stretch := .stopped, stuck := .running Config.stuckMs, stuckSpell := true } } := by
  have hflight : c.link.flight.isSome = true := by rw [hf]; rfl
  rw [stuckExpiry_eq, lineReset, if_neg (show (c.countLink _).link.state ≠ .silent from hs),
    if_pos (show (c.countLink _).link.flight.isSome = true from hflight),
    failAttempt_of_early (c := (c.countLink _).onLink Link.resetLine) hf ha]
  rfl

variable (hf : c.link.flight = none)
include hf

theorem stuckExpiry_of_first (hp : c.link.stuckSpell = false) :
    stuckExpiry e c = { c with link := { c.link.lineStuck with stretch := .stopped, stuckSpell := true } } := by
  have hflight : ¬ c.link.flight.isSome = true := by rw [hf]; nofun
  have hspell : ¬ c.link.stuckSpell = true := by rw [hp]; nofun
  rw [stuckExpiry_eq, lineReset, if_neg (show (c.countLink _).link.state ≠ .silent from hs),
    if_neg (show ¬ (c.countLink _).link.flight.isSome = true from hflight),
    if_neg (show ¬ (c.countLink _).link.stuckSpell = true from hspell)]
  rfl

variable (hp : c.link.stuckSpell = true)
include hp

theorem stuckExpiry_of_again :
    stuckExpiry e c = (stuckAgain e c.again).onLink fun l => { l with stuck := .running Config.stuckMs } := by
  have hflight : ¬ c.link.flight.isSome = true := by rw [hf]; nofun
  rw [stuckExpiry_eq, lineReset, if_neg (show (c.countLink _).link.state ≠ .silent from hs),
    if_neg (show ¬ (c.countLink _).link.flight.isSome = true from hflight),
    if_pos (show (c.countLink _).link.stuckSpell = true from hp)]
  rfl

end

theorem stuckAgain_of_idle {e : Env} {c : Comms} (h : c.link.maySend e.operating = false ∨ c.link.queue = []) :
    stuckAgain e c = c := by
  unfold stuckAgain
  rcases hm : c.link.maySend e.operating with _ | _
  · rfl
  · obtain hq : c.link.queue = [] := h.resolve_left (by rw [hm]; nofun)
    simp [Comms.firstBlocked, hq, failAttempt, Comms.onLink, Link.pretendFlight, Link.flight]

theorem stuckAgain_of_blocked {e : Env} {c : Comms} {f : Frame} {rest : List Frame}
    (hm : c.link.maySend e.operating = true) (hq : c.link.queue = f :: rest)
    (hn : f.payload.isStartNotice = true) (hk : e.settings.allowance ≤ c.liveCount) :
    stuckAgain e c = presentFirst e c := by
  have hblocked : c.firstBlocked e = true := by rw [Comms.firstBlocked_of_cons hq, hn, decide_eq_true hk]; rfl
  rw [stuckAgain, hm, hblocked]
  rfl

/-- The first frame to send takes the failed attempt as if it were in flight (R76). -/
theorem stuckAgain_of_live {e : Env} {c : Comms} {f : Frame} {rest : List Frame}
    (hm : c.link.maySend e.operating = true) (hq : c.link.queue = f :: rest)
    (hk : f.payload.isStartNotice = true → c.liveCount < e.settings.allowance) :
    stuckAgain e c = failAttempt e true { c with link := { c.link with queue := { f with inFlight := true } :: rest } }
      := by
  rw [stuckAgain, hm, Comms.firstBlocked_of_live hq hk]
  simp only [Comms.onLink, Link.pretendFlight, hq]
  rfl

/-- With no frame in flight, nothing in the queue is. -/
theorem Link.idle_of_flight {l : Link} (h : l.flight = none) : ∀ x ∈ l.queue, x.inFlight = false := by
  simpa [Link.flight] using h

/-- A change of the frame in flight leaves the frames that wait. -/
theorem onFlight_of_idle {g : Frame → Frame} : ∀ {q : List Frame}, (∀ x ∈ q, x.inFlight = false) →
    (q.map fun x => if x.inFlight then g x else x) = q
  | [], _ => rfl
  | x :: q, h => by
    have hx : x.inFlight = false := h x List.mem_cons_self
    rw [List.map_cons, onFlight_of_idle fun y hy => h y (List.mem_cons_of_mem x hy), hx, if_neg nofun]

section
variable {e : Env} {c : Comms} (hs : c.link.state ≠ .silent) (hf : c.link.flight = none)
  (hp : c.link.stuckSpell = true)
include hs hf hp

theorem stuckExpiry_of_idle (h : c.link.maySend e.operating = false ∨ c.link.queue = []) :
    stuckExpiry e c = { c with link := { c.link.lineStuck with stretch := .stopped } } := by
  rw [stuckExpiry_of_again hs hf hp, stuckAgain_of_idle (c := c.again) h]
  simp [Comms.again, Comms.onLink, Comms.countLink, Link.resetLine, Link.count, Link.lineStuck, hp]

variable (hm : c.link.maySend e.operating = true) {f : Frame} {rest : List Frame} (hq : c.link.queue = f :: rest)
include hm hq

theorem stuckExpiry_of_blocked (hn : f.payload.isStartNotice = true) (hk : e.settings.allowance ≤ c.liveCount) :
    stuckExpiry e c = { c with
      fan := { c.fan with counters := { c.fan.counters with
        noticeDeferred := bump c.fan.counters.noticeDeferred } }
      link := { c.link.lineStuck with queue := rest, stretch := .stopped } } := by
  rw [stuckExpiry_of_again hs hf hp, stuckAgain_of_blocked (c := c.again) hm hq hn hk,
    presentFirst_of_blocked (c := c.again) hq hn hk]
  simp [Comms.again, Comms.onLink, Comms.countLink, Link.resetLine, Link.count, Link.lineStuck, hp]

theorem stuckExpiry_of_live (hk : f.payload.isStartNotice = true → c.liveCount < e.settings.allowance)
    (ha : f.attempt < 2) :
    stuckExpiry e c = { c with link := { c.link.lineStuck with
      queue := { f with attempt := f.attempt + 1 } :: rest
      wire := []
      refreshMark := if f.payload.isReport then false else c.link.refreshMark
      stretch := .stopped } } := by
  have hfirst : f.inFlight = false := Link.idle_of_flight hf f (hq ▸ List.mem_cons_self)
  have hrest : ∀ x ∈ rest, x.inFlight = false := fun x hx =>
    Link.idle_of_flight hf x (hq ▸ List.mem_cons_of_mem f hx)
  rw [stuckExpiry_of_again hs hf hp, stuckAgain_of_live (c := c.again) hm hq hk,
    failAttempt_of_early (f := { f with inFlight := true }) rfl ha]
  simp [Comms.again, Comms.onLink, Comms.countLink, Link.resetLine, Link.count, Link.lineStuck, Link.attemptFailed,
    onFlight_of_idle hrest, hfirst, hp]

end

theorem beginStretch_of_full {c : Comms} (hs : c.link.state ≠ .silent) (hfull : c.service.queue.length = 2) :
    beginStretch c = { c with link := { c.link with
      stretch := .running Config.stretchMs, busFreeCount := 0, stuck := .running Config.stuckMs
      counters := { c.link.counters with stretches := bump c.link.counters.stretches } } } := by
  simp [beginStretch, Service.hasPlace, hfull, hs, Config.servicePlaces, Comms.onLink, Comms.countLink, Link.count]

theorem stretchExpiry_of_running {c : Comms} (hr : c.link.stretch.isRunning = true) :
    stretchExpiry c = { c with link := { c.link with
      stretch := .stopped, stuck := .stopped
      counters := { c.link.counters with serviceOverruns := bump c.link.counters.serviceOverruns } } } := by
  simp [stretchExpiry, hr, Link.endStretch, Comms.onLink, Comms.countLink, Link.count]

/-- Settles O35: each expiry and stretch leaves a bus that is not free, or as free as it was, so nothing follows it. -/
theorem stuckLineAndStretchKeepTheBusMoving : Obligations.StuckLineAndStretchKeepTheBusMoving := by
  unfold Obligations.StuckLineAndStretchKeepTheBusMoving
  intro s h
  have hexec : exec .stuckTimerExpiry s = done { s with comms := stuckExpiry s.env s.comms } := rfl
  refine ⟨fun hs => ?_, fun hs hf hp => ?_, fun f hs hf ha => ?_, fun hs hf hp => ⟨fun hno => ?_, ?_, ?_⟩,
    fun hs hfull => ?_, fun hr => ?_⟩
  · rw [hexec, stuckExpiry_of_silent hs]
    exact done_busyLink h _ rfl
  · rw [hexec, stuckExpiry_of_first hs hf hp]
    exact done_busyLink h _ rfl
  · rw [hexec, stuckExpiry_of_flight hs hf ha]
    refine (done_busyLink h _ rfl).trans (congrArg _ ?_)
    simp [Link.attemptFailed, Link.lineStuck, Config.stuckMs]
  · rw [hexec, stuckExpiry_of_idle hs hf hp hno]
    exact done_busyLink h _ rfl
  · intro hm f rest hq hk ha
    rw [hexec, stuckExpiry_of_live (e := s.env) hs hf hp hm hq hk ha]
    exact done_busyLink h _ rfl
  · intro hm f rest hq hn hk
    rw [hexec, stuckExpiry_of_blocked (e := s.env) hs hf hp hm hq hn hk]
    exact done_busy h (c := { s.comms with fan := _, link := _ }) rfl rfl rfl
  · have hexec : exec .stretchBegin s = done { s with comms := beginStretch s.comms } := rfl
    rw [hexec, beginStretch_of_full hs hfull]
    exact done_busyLink h _ rfl
  · have hexec : exec .stretchTimerExpiry s = done { s with comms := stretchExpiry s.comms } := rfl
    rw [hexec, stretchExpiry_of_running hr]
    have hstart : s.framesStarted = true := by
      simp only [State.atRest, Bool.and_eq_true] at h
      exact h.2
    exact done_link h (c := { s.comms with link := _ }) rfl rfl hstart

end Sys2Proof.Machine
end


section
/-! Late collisions: their record, and what silences the link (R68, R79, R81). -/

namespace Sys2Proof.Machine

/-- The bus side of a quiet station moved, with NO_VENT and the waiting requests left alone, onto a bus that is not
free. -/
theorem done_still {s : State} (h : s.quiet = true) {c : Comms} (hv : c.fan.noVent = s.comms.fan.noVent)
    (hq : c.service.queue = s.comms.service.queue) (hb : c.link.busFreeCount = 0) :
    done { s with comms := c } = .next { s with comms := c, moment := s.moment + 1 } := by
  refine done_of_quiet (s := { s with comms := c }) ?_
  rw [State.quiet_iff] at h ⊢
  obtain ⟨htold, hnone, -⟩ := h
  refine ⟨fun ho => (htold ho).trans hv.symm, hq.trans hnone, ?_⟩
  dsimp only
  rw [hb]
  nofun

/-! ## The record of a late collision (R79) -/

theorem Link.lateTime_of_old {l : Link} {now : Nat} (h : ∀ x, l.lateRecord = some x → x + 60000 < now) :
    l.lateTime now = none := by
  rw [Link.lateTime, Option.filter_eq_none_iff]
  intro x hx
  have hold := h x hx
  rw [decide_eq_true_eq]
  exact Nat.not_le.mpr hold

theorem Link.lateTime_of_young {l : Link} {now x : Nat} (hx : l.lateRecord = some x) (h : now ≤ x + 60000) :
    l.lateTime now = some x := by
  rw [Link.lateTime, hx]
  exact Option.filter_some_pos (decide_eq_true h)

theorem lateCollision_of_old {e : Env} {f : Frame} {c : Comms} (ho : e.operating = true) (hf : c.link.flight = some f)
    (ha : f.attempt < 2) (hold : ∀ x, c.link.lateRecord = some x → x + 60000 < e.now) :
    lateCollision e c = { c with link := { c.link.attemptFailed false f with
      lateRecord := some e.now
      counters := { c.link.counters with lateCollisions := bump c.link.counters.lateCollisions } } } := by
  have hnone : (c.countLink fun k => { k with lateCollisions := bump k.lateCollisions }).link.lateTime e.now = none :=
    Link.lateTime_of_old hold
  have hflight : ¬ c.link.flight.isNone = true := by rw [hf]; nofun
  rw [lateCollision, if_neg hflight, ho]
  simp only [Bool.not_true, Bool.false_eq_true, if_false]
  rw [hnone]
  dsimp only
  exact failAttempt_of_early (f := f) hf ha

theorem lateCollision_of_young {e : Env} {f : Frame} {c : Comms} {x : Nat} (ho : e.operating = true)
    (hf : c.link.flight = some f) (hx : c.link.lateRecord = some x) (hyoung : e.now ≤ x + 60000) :
    lateCollision e c = enterSilent e ((c.countLink fun k =>
      { k with lateCollisions := bump k.lateCollisions }).onLink Link.endAttempt) := by
  have hsome : (c.countLink fun k => { k with lateCollisions := bump k.lateCollisions }).link.lateTime e.now = some x :=
    Link.lateTime_of_young hx hyoung
  have hflight : ¬ c.link.flight.isNone = true := by rw [hf]; nofun
  rw [lateCollision, if_neg hflight, ho]
  simp only [Bool.not_true, Bool.false_eq_true, if_false]
  rw [hsome]

/-! ## The end of the frames on entry to SILENT (R81, R86) -/

/-- A fan controller may queue no notice but on an ACTIVE link (R42). -/
theorem tryNotice_of_inactive {e : Env} {c : Comms} (h : c.link.state ≠ .active) : ∀ n, tryNotice n e c = c
  | 0 => rfl
  | n + 1 => by simp [tryNotice, Comms.mayNotify, h]

/-- What the end of a frame leaves of a SILENT link, and of what the frames' ends do not touch. -/
structure Comms.Silenced (n : Nat) (c d : Comms) : Prop where
  link : ∃ p, d.link =
    { c.link with counters := { c.link.counters with framesDropped := bumpBy n c.link.counters.framesDropped }, peer := p }
  stage : d.fan.stage = c.fan.stage
  noVent : d.fan.noVent = c.fan.noVent
  requests : d.service.queue = c.service.queue
  notices : d.notices = c.notices
  current : c.service.current = none → d.service.current = none

theorem dropOnSilent_silenced {e : Env} {c : Comms} (f : Frame) (h : c.link.state ≠ .active) :
    c.Silenced 1 (dropOnSilent e c f) := by
  unfold dropOnSilent dropEnd
  split
  · exact ⟨⟨_, rfl⟩, rfl, rfl, rfl, rfl, id⟩
  next i =>
    unfold noticeDropped resumeStarts
    rw [tryNotice_of_inactive (by simpa using h)]
    exact ⟨⟨c.link.peer, by simp [bumpBy, Link.count]⟩, by simp, by simp, by simp, by simp, fun hc => by simpa using hc⟩
  · exact ⟨⟨_, rfl⟩, rfl, rfl, rfl, rfl, id⟩
  · exact ⟨⟨_, rfl⟩, rfl, rfl, rfl, rfl, fun _ => rfl⟩

theorem Comms.Silenced.cons {n : Nat} {b c d : Comms} (h : b.Silenced 1 c) (k : c.Silenced n d) :
    b.Silenced (n + 1) d := by
  obtain ⟨p, hlink⟩ := h.link
  obtain ⟨q, hlink'⟩ := k.link
  refine ⟨⟨q, ?_⟩, k.stage.trans h.stage, k.noVent.trans h.noVent, k.requests.trans h.requests,
    k.notices.trans h.notices, fun hc => k.current (h.current hc)⟩
  rw [hlink', hlink]
  rfl

theorem foldl_dropOnSilent {e : Env} : ∀ {frames : List Frame} {c : Comms}, c.link.state ≠ .active →
    c.Silenced frames.length (frames.foldl (dropOnSilent e) c)
  | [], c, _ => ⟨⟨c.link.peer, rfl⟩, rfl, rfl, rfl, rfl, id⟩
  | f :: frames, c, h => by
    have hone := dropOnSilent_silenced (e := e) f h
    obtain ⟨p, hlink⟩ := hone.link
    exact hone.cons (foldl_dropOnSilent (by rw [hlink]; exact h))

/-- A reply among the frames is finished (R86). -/
theorem foldl_dropOnSilent_reply {e : Env} : ∀ {frames : List Frame} {c : Comms}, c.link.state ≠ .active →
    (∃ f ∈ frames, ∃ r, f.payload = .reply r) → (frames.foldl (dropOnSilent e) c).service.current = none
  | [], _, _, hreply => by obtain ⟨f, hf, -⟩ := hreply; cases hf
  | f :: frames, c, h, hreply => by
    obtain ⟨p, hlink⟩ := (dropOnSilent_silenced (e := e) f h).link
    have hstate : (dropOnSilent e c f).link.state ≠ .active := by rw [hlink]; exact h
    obtain ⟨g, hg, r, hr⟩ := hreply
    rcases List.mem_cons.mp hg with rfl | hg
    · refine (foldl_dropOnSilent hstate).current ?_
      rw [dropOnSilent, hr]
      rfl
    · exact foldl_dropOnSilent_reply (c := dropOnSilent e c f) hstate ⟨g, hg, r, hr⟩

/-- The lowest class is that of the replies alone (R84). -/
theorem Payload.reply_of_cls {grave : Bool} {p : Payload} (h : p.cls grave = 6) : ∃ r, p = .reply r := by
  cases p <;> cases grave <;> simp_all [Payload.cls]

/-- The frames that a link entering SILENT drops: all but a START NOTICE that waits (R81). -/
def Link.silenced (l : Link) : List Frame := l.queue.filter fun x => !(x.payload.isStartNotice && !x.inFlight)

/-- The bus side as entry to SILENT leaves it, before its frames' ends (R81). -/
def Comms.hushed (c : Comms) : Comms :=
  { c with link := { c.link with
    state := .silent, queue := [], unheardDrops := 0, report := .stopped, refreshMark := false, stretch := .stopped } }

theorem enterSilent_eq (e : Env) (c : Comms) :
    enterSilent e c = localStarts e (c.link.silenced.foldl (dropOnSilent e) c.hushed) := rfl

theorem enterSilent_silenced (e : Env) (c : Comms) :
    c.hushed.Silenced c.link.silenced.length (enterSilent e c) := by
  have hfold := foldl_dropOnSilent (e := e) (frames := c.link.silenced) (c := c.hushed) nofun
  obtain ⟨hlink, hstage, hvent, hrequests, hnotices, hcurrent⟩ := hfold
  rw [enterSilent_eq]
  generalize c.link.silenced.foldl (dropOnSilent e) c.hushed = d at *
  have hmoved := localStarts_starts e d
  have hservice : (localStarts e d).service = d.service := by simp
  exact ⟨by simpa using hlink, hmoved.stage.trans hstage, hmoved.noVent.trans hvent,
    hmoved.requests.trans hrequests, (by simp : (localStarts e d).notices = d.notices).trans hnotices,
    fun hc => hservice ▸ hcurrent hc⟩

theorem enterSilent_reply {e : Env} {c : Comms} {grave : Bool} (h : ∃ x ∈ c.link.queue, x.payload.cls grave = 6) :
    (enterSilent e c).service.current = none := by
  obtain ⟨x, hx, hcls⟩ := h
  obtain ⟨r, hr⟩ := Payload.reply_of_cls hcls
  have hmem : x ∈ c.link.silenced := List.mem_filter.mpr ⟨hx, by rw [hr]; rfl⟩
  have hfold := foldl_dropOnSilent_reply (e := e) (c := c.hushed) nofun ⟨x, hmem, r, hr⟩
  rw [enterSilent_eq]
  simpa using hfold

/-- Settles O34: the record decides whether a late collision is a failed attempt or silences the link, and a silenced
link hands every frame back. -/
theorem secondLateCollisionSilencesTheLink : Obligations.SecondLateCollisionSilencesTheLink := by
  unfold Obligations.SecondLateCollisionSilencesTheLink
  intro f s h
  have hlapse : exec .lateCollisionRecordLapse s =
      done { s with comms := { s.comms with link := { s.comms.link with lateRecord := s.comms.link.lateTime s.now } } }
      := rfl
  have hexec : exec .lateCollision s = done { s with comms := lateCollision s.env s.comms } := rfl
  refine ⟨fun x hx hold => ?_, fun hkeep => ?_, fun ho hf ha hold => ?_, fun ho hf x hx hyoung => ?_⟩
  · rw [hlapse, Link.lateTime_of_old fun y hy => by rw [hx] at hy; cases hy; exact hold]
    exact done_comms h rfl rfl rfl
  · have hsame : s.comms.link.lateTime s.now = s.comms.link.lateRecord := by
      rcases hkeep with hnone | ⟨x, hx, hyoung⟩
      · rw [Link.lateTime, hnone]; rfl
      · rw [Link.lateTime_of_young hx hyoung, hx]
    rw [hlapse, hsame]
    exact done_of_quiet h
  · rw [hexec, lateCollision_of_old ho hf ha hold]
    refine (done_busyLink (s.atRest_of_quiet h) _ rfl).trans (congrArg _ ?_)
    simp [Link.attemptFailed, State.env]
  · rw [hexec, lateCollision_of_young ho hf hx hyoung]
    have hsilenced := enterSilent_silenced s.env ((s.comms.countLink fun k =>
      { k with lateCollisions := bump k.lateCollisions }).onLink Link.endAttempt)
    have hreply := enterSilent_reply (e := s.env) (grave := s.grave) (c := (s.comms.countLink fun k =>
      { k with lateCollisions := bump k.lateCollisions }).onLink Link.endAttempt)
    generalize enterSilent s.env _ = c at hsilenced hreply
    obtain ⟨⟨p, hlink⟩, hstage, hvent, hrequests, hnotices, -⟩ := hsilenced
    refine ⟨_, done_still h hvent hrequests (by rw [hlink]; rfl), rfl, ?_⟩
    dsimp only
    rw [hlink]
    exact ⟨rfl, rfl, rfl, rfl, rfl, rfl, rfl, hreply, hnotices, hstage⟩

end Sys2Proof.Machine
end


section
/-! What the tries for a START NOTICE leave of a queue that takes one, and the reports of the zone (R42, R87, R88). -/

namespace Sys2Proof.Machine

/-! ## A queue that takes a START NOTICE (R42) -/

/-- The queue holds a START NOTICE or has a place for one. -/
def Comms.fits (c : Comms) : Prop := c.link.queue.length + (if c.hasNotice then 0 else 1) ≤ 8

theorem Comms.fits_of_length {c : Comms} (h : c.link.queue.length ≤ 7) : c.fits := by
  unfold Comms.fits
  split <;> omega

/-- The frames of the queue but for the START NOTICEs. -/
def Link.plainQueue (l : Link) : List Frame := l.queue.filter fun f => !f.payload.isStartNotice

/-- Only START NOTICEs have come to the queue or left it, and of the link nothing but the queue has changed. -/
structure Comms.Noticed (c d : Comms) : Prop where
  link : d.link = { c.link with queue := d.link.queue }
  plain : d.link.plainQueue.Perm c.link.plainQueue
  fits : d.fits

namespace Comms.Noticed

variable {b c d : Comms}

theorem trans (h : b.Noticed c) (k : c.Noticed d) : b.Noticed d :=
  ⟨by rw [k.link, h.link], k.plain.trans h.plain, k.fits⟩

theorem of_link (hc : c.fits) (h : d.link = c.link) : c.Noticed d := by
  refine ⟨by rw [h], by rw [h], ?_⟩
  unfold Comms.fits Comms.hasNotice at hc ⊢
  rw [h]
  exact hc

theorem mem (h : c.Noticed d) {f : Frame} (hf : f ∈ c.link.queue) (hplain : f.payload.isStartNotice = false) :
    f ∈ d.link.queue := by
  have hkept : f ∈ d.link.plainQueue := h.plain.mem_iff.mpr (List.mem_filter.mpr ⟨hf, by rw [hplain]; rfl⟩)
  exact (List.mem_filter.mp hkept).1

/-- Whether a frame of some kind that is no START NOTICE stands in the queue. -/
theorem any_eq (h : c.Noticed d) {p : Frame → Bool} (hp : ∀ f, p f = true → f.payload.isStartNotice = false) :
    d.link.queue.any p = c.link.queue.any p := by
  have hplain (l : Link) : l.plainQueue.any p = l.queue.any p := by
    rw [Link.plainQueue, List.any_filter]
    refine congrArg _ (funext fun f => ?_)
    cases hf : p f with
    | false => rw [Bool.and_false]
    | true => rw [hp f hf]; rfl
  rw [← hplain, ← hplain, h.plain.any_eq]

theorem hasReport (h : c.Noticed d) : d.link.hasReport = c.link.hasReport := by
  refine h.any_eq fun f hf => ?_
  cases hp : f.payload <;> simp_all [Payload.isReport, Payload.isStartNotice]

theorem reportInFlight (h : c.Noticed d) : d.link.reportInFlight = c.link.reportInFlight := by
  refine h.any_eq fun f hf => ?_
  cases hp : f.payload <;> simp_all [Payload.isReport, Payload.isStartNotice]

end Comms.Noticed

/-- A try makes nothing, is deferred, or puts a START NOTICE into a queue that holds none (R42). -/
theorem tryNotice_of_fits {n : Nat} {e : Env} {c : Comms} (h : c.fits) :
    tryNotice (n + 1) e c = c ∨
    tryNotice (n + 1) e c = c.countFan (fun k => { k with noticeDeferred := bump k.noticeDeferred }) ∨
    c.hasNotice = false ∧ ∃ i, tryNotice (n + 1) e c = c.join e (.startNotice i) := by
  by_cases hmay : c.mayNotify e = true
  · have hno : c.hasNotice = false := by
      simp only [Comms.mayNotify, Bool.and_eq_true, Bool.not_eq_true'] at hmay
      exact hmay.1.2
    have hroom : c.link.queue.length < Config.queuePlaces := by
      unfold Comms.fits at h
      rw [hno, if_neg Bool.false_ne_true] at h
      exact h
    cases hi : c.fan.firstWaiting with
    | none => exact .inl (by unfold tryNotice; rw [if_pos hmay, hi])
    | some i =>
      by_cases hlive : c.liveCount < e.settings.allowance
      · exact .inr (.inr ⟨hno, i, tryNotice_joins hmay hi hlive hroom⟩)
      · exact .inr (.inl (tryNotice_defers hmay hi (Nat.not_lt.mp hlive)))
  · exact .inl (by unfold tryNotice; rw [if_neg hmay])

/-- A join leaves the frames of a queue where they are but for the new one. -/
theorem mem_join {e : Env} {p : Payload} {c : Comms} {f : Frame} :
    f ∈ (c.join e p).link.queue ↔ f = ⟨p, 0, true, e.moment, c.draws, false⟩ ∨ f ∈ c.link.queue :=
  (enqueue_perm ..).mem_iff.trans List.mem_cons

theorem join_noticed {e : Env} {i : Fin 4} {c : Comms} (h : c.fits) (hno : c.hasNotice = false) :
    c.Noticed (c.join e (.startNotice i)) := by
  have hperm : (c.join e (.startNotice i)).link.queue.Perm
      (⟨.startNotice i, 0, true, e.moment, c.draws, false⟩ :: c.link.queue) := enqueue_perm ..
  refine ⟨rfl, (hperm.filter _).trans (by simp [Link.plainQueue, Payload.isStartNotice]), ?_⟩
  unfold Comms.fits at h ⊢
  rw [hno, if_neg Bool.false_ne_true] at h
  have hsome : (c.join e (.startNotice i)).hasNotice = true := (hperm.any_eq).trans rfl
  rw [hperm.length_eq, hsome, if_pos rfl]
  exact h

theorem tryNotice_noticed {n : Nat} {e : Env} {c : Comms} (h : c.fits) : c.Noticed (tryNotice (n + 1) e c) := by
  obtain hsame | hdefer | ⟨hno, i, hjoin⟩ := tryNotice_of_fits (n := n) (e := e) h
  · rw [hsame]; exact .of_link h rfl
  · rw [hdefer]; exact .of_link h rfl
  · rw [hjoin]; exact join_noticed h hno

theorem tryTimes_noticed {e : Env} : ∀ {k : Nat} {c : Comms}, c.fits → c.Noticed (tryTimes k e c)
  | 0, _, h => .of_link h rfl
  | _ + 1, _, h =>
    have hone := tryNotice_noticed (n := 2) h
    hone.trans (tryTimes_noticed hone.fits)

theorem resumeStarts_noticed {e : Env} {c : Comms} (h : c.fits) : c.Noticed (resumeStarts e c) :=
  have hlocal : c.Noticed (localStarts e c) := .of_link h (by simp)
  hlocal.trans (tryNotice_noticed hlocal.fits)

/-- What a try adds to the queue, it adds beside the frames that wait. -/
theorem mem_resumeStarts {e : Env} {c : Comms} {f : Frame} (h : c.fits) (hf : f ∈ c.link.queue) :
    f ∈ (resumeStarts e c).link.queue := by
  have hlocal : c.Noticed (localStarts e c) := .of_link h (by simp)
  have hf' : f ∈ (localStarts e c).link.queue := by simpa using hf
  unfold resumeStarts
  obtain hsame | hdefer | ⟨-, i, hjoin⟩ := tryNotice_of_fits (n := 2) (e := e) hlocal.fits
  · rw [hsame]; exact hf'
  · rw [hdefer]; exact hf'
  · rw [hjoin]; exact mem_join.mpr (.inr hf')

theorem withdrawNotice_noticed {c : Comms} (h : c.fits) : c.Noticed (withdrawNotice c) := by
  obtain hsame | ⟨f, before, after, -, hf, hq, hleft⟩ := List.exists_or_eq_self_of_eraseP
    (fun f : Frame => f.payload.isStartNotice && !f.inFlight) c.link.queue
  · exact .of_link h (by rw [withdrawNotice, hsame])
  · have hnotice : f.payload.isStartNotice = true := by simp at hf; exact hf.1
    have hleft' : (withdrawNotice c).link.queue = before ++ after := hleft
    refine ⟨rfl, ?_, Comms.fits_of_length ?_⟩
    · rw [Link.plainQueue, Link.plainQueue, hleft', hq]
      simp [hnotice]
    · unfold Comms.fits at h
      rw [hq] at h
      rw [hleft']
      simp only [List.length_append, List.length_cons] at h ⊢
      omega

theorem afterFanChange_noticed {e : Env} {old c : Comms} (h : c.fits) : c.Noticed (afterFanChange e old c) := by
  have hunstranded : c.Noticed c.unstranded := by
    unfold Comms.unstranded
    split
    · exact withdrawNotice_noticed h
    · exact .of_link h rfl
  have hlocal : c.unstranded.Noticed (localStarts e c.unstranded) := .of_link hunstranded.fits (by simp)
  exact (hunstranded.trans hlocal).trans (tryTimes_noticed hlocal.fits)

theorem select_noticed {e : Env} {c : Comms} (h : c.fits) : c.Noticed (select e c) := by
  have hfan : c.Noticed { c with fan := c.fan.selected e } := .of_link h rfl
  exact hfan.trans (afterFanChange_noticed hfan.fits)

end Sys2Proof.Machine
end


section
/-! Reports queued by joining, period and event (R78, R87, R88). -/

namespace Sys2Proof.Machine

section
variable {e : Env} {c : Comms}

/-! ## A report event and a periodic request by their cases (R87, R88) -/

theorem foldReport_of_flight (h : c.link.reportInFlight = true) :
    foldReport c = { c with link := { c.link with refreshMark := true } } := if_pos h

theorem foldReport_of_waiting (h : c.link.reportInFlight = false) :
    foldReport c = c.countPeer fun k => { k with reportsFolded := bump k.reportsFolded } := if_neg (by rw [h]; nofun)

theorem Link.hasReport_of_flight {l : Link} (h : l.reportInFlight = true) : l.hasReport = true := by
  rw [Link.hasReport, List.any_eq_true]
  rw [Link.reportInFlight, List.any_eq_true] at h
  obtain ⟨f, hf, hreport⟩ := h
  exact ⟨f, hf, by simp at hreport; exact hreport.1⟩

theorem periodicReport_of_report (h : c.link.hasReport = true) : periodicReport e c =
    { foldReport c with link := { (foldReport c).link with eventPending := false } } := by
  unfold periodicReport
  rw [if_pos h]

theorem periodicReport_of_none (h : c.link.hasReport = false) : periodicReport e c =
    { offerReport e c with link := { (offerReport e c).link with eventPending := false } } := by
  unfold periodicReport
  rw [h]
  rfl

/-- The bus side with a new ZONE REPORT in its queue (R88). -/
def Comms.withReport (e : Env) (c : Comms) : Comms :=
  { c with
    link := { c.link with
      queue := (c.join e .report).link.queue, spacing := .running 500
      peer := { c.link.peer with reportsQueued := bump c.link.peer.reportsQueued } }
    draws := c.draws + 1 }

theorem offerReport_of_room (hs : c.link.state ≠ .silent) (h : c.link.queue.length < 8) :
    offerReport e c = c.withReport e := by
  rw [offerReport, offerFrame_of_place hs (Nat.le_of_lt_succ h)]
  rfl

/-- A full queue refuses a report where no frame that waits has a higher class (R85). -/
theorem offerReport_of_refused (hs : c.link.state ≠ .silent) (h : 8 ≤ c.link.queue.length)
    (hall : ∀ g ∈ c.link.queue, g.inFlight = false → g.payload.cls e.grave ≤ Payload.report.cls e.grave) :
    offerReport e c = c.countPeer fun k => { k with queueRefused := bump k.queueRefused } := by
  have hworst : worstClass e.grave c.link.queue ≤ Payload.report.cls e.grave := by
    by_cases hpos : 0 < worstClass e.grave c.link.queue
    · obtain ⟨g, hg, hwait, hcls⟩ := exists_worstClass hpos
      exact hcls ▸ hall g hg hwait
    · omega
  rw [offerReport, (offerFrame_of_full hs h rfl).1 hworst]
  rfl

end

/-- No class is higher than that of the replies (R84). -/
theorem Payload.cls_le (grave : Bool) (p : Payload) : p.cls grave ≤ 6 := by
  cases p <;> cases grave <;> simp [Payload.cls]

/-- A report displaces the oldest reply of a full queue, which finishes the responder's request (R85, R86). -/
theorem offerReport_of_reply {e : Env} {c : Comms} (hs : c.link.state ≠ .silent) (h : c.link.queue.length = 8)
    (hreply : ∃ g ∈ c.link.queue, g.inFlight = false ∧ g.payload.cls e.grave = 6) :
    offerReport e c = { (c.displace e.grave 6).withReport e with
      service := { c.service with current := none } } := by
  have hworst : worstClass e.grave c.link.queue = 6 := worstClass_eq hreply fun f _ _ => Payload.cls_le ..
  have hless : Payload.report.cls e.grave < 6 := by cases e.grave <;> decide
  obtain ⟨g, hg, hwait, hcls⟩ := hreply
  have hsome : (c.link.queue.find? (Frame.displaceable e.grave 6)).isSome = true := by
    rw [List.find?_isSome]
    exact ⟨g, hg, by simp [Frame.displaceable, hwait, hcls]⟩
  obtain ⟨v, hv⟩ := Option.isSome_iff_exists.mp hsome
  have hvictim : v.payload.cls e.grave = 6 := by
    have hfound := List.find?_some hv
    simp [Frame.displaceable] at hfound
    exact hfound.2
  obtain ⟨r, hr⟩ := Payload.reply_of_cls hvictim
  rw [offerReport, (offerFrame_of_full hs (Nat.le_of_eq h.symm) hworst).2 hless, hv]
  dsimp only [Option.map_some]
  rw [hr]
  rfl

/-- The queue after a displacement keeps every frame in flight or of another class. -/
theorem mem_displace {grave : Bool} {w : Nat} {c : Comms} {f : Frame} (hf : f ∈ c.link.queue)
    (hkeep : f.inFlight = true ∨ f.payload.cls grave ≠ w) : f ∈ (c.displace grave w).link.queue := by
  refine (List.mem_eraseP_of_neg ?_).mpr hf
  unfold Frame.displaceable
  rcases hkeep with hflight | hcls
  · simp [hflight]
  · simp [hcls]

theorem length_displace {grave : Bool} {w : Nat} {c : Comms}
    (h : ∃ g ∈ c.link.queue, g.inFlight = false ∧ g.payload.cls grave = w) :
    (c.displace grave w).link.queue.length = c.link.queue.length - 1 := by
  obtain ⟨g, hg, hwait, hcls⟩ := h
  exact List.length_eraseP_of_mem hg (by simp [Frame.displaceable, hwait, hcls])

theorem length_join (e : Env) (p : Payload) (c : Comms) :
    (c.join e p).link.queue.length = c.link.queue.length + 1 := (enqueue_perm ..).length_eq

/-- A report event leaves what a report in the queue, or the spacing, makes of it (R88). -/
theorem reportEvent_of_report {e : Env} {c : Comms} (hon : c.link.state ≠ .off) (hs : c.link.state ≠ .silent)
    (h : c.link.hasReport = true) : reportEvent e c = foldReport c := by
  rw [reportEvent, if_neg (by simp [hon, hs]), if_pos h]

theorem reportEvent_of_spacing {e : Env} {c : Comms} (hon : c.link.state ≠ .off) (hs : c.link.state ≠ .silent)
    (h : c.link.hasReport = false) (hr : c.link.spacing.isRunning = true) :
    reportEvent e c = { c with link := { c.link with eventPending := true } } := by
  rw [reportEvent, if_neg (by simp [hon, hs]), if_neg (by rw [h]; nofun), if_pos hr]

/-! ## The timers of the reports (R78, R87, R88) -/

/-- The bus side with the report timer started afresh (R87). -/
def Comms.ticked (cfg : Settings) (c : Comms) : Comms :=
  { c with link := { c.link with report := .running (1000 * cfg.reportPeriod) } }

theorem exec_periodicRequest {s : State} (h : s.comms.link.report.isRunning = true) : exec .periodicRequest s =
    done { s with comms := periodicReport s.env (s.comms.ticked s.settings) } :=
  congrArg (fun c => done { s with comms := c }) (if_pos h)

/-- The bus side with the spacing timer ended and its event taken up (R88). -/
def Comms.unspaced (c : Comms) : Comms :=
  { c with link := { c.link with spacing := .stopped, eventPending := false } }

theorem exec_spacingTimerExpiry {s : State} (h : s.comms.link.spacing.isRunning = true) : exec .spacingTimerExpiry s =
    done { s with comms := if s.comms.link.eventPending && !s.comms.link.hasReport
      then offerReport s.env s.comms.unspaced else s.comms.unspaced } :=
  congrArg (fun c => done { s with comms := c }) (if_pos h)

/-- The bus side of a link that has joined, before its first report (R78). -/
def Comms.joined (cfg : Settings) (c : Comms) : Comms :=
  { c with link := { c.link with state := .active, join := .stopped, report := .running (1000 * cfg.reportPeriod) } }

theorem exec_joinTimerExpiry {s : State} (h : s.comms.link.join.isRunning = true) : exec .joinTimerExpiry s =
    done { s with comms := resumeStarts s.env (periodicReport s.env (s.comms.joined s.settings)) } :=
  congrArg (fun c => done { s with comms := c }) (if_pos h)

/-- The first report of a link that has joined, and the tries for a notice after it (R78, R87). -/
theorem joinExpiry_reports {s : State} (h : s.quiet = true) (hrun : s.comms.link.join.isRunning = true)
    (hno : s.comms.link.hasReport = false) (hroom : s.comms.link.queue.length ≤ 5) :
    ∃ t, exec .joinTimerExpiry s = .next t ∧ t = { s with comms := t.comms, moment := s.moment + 1 } ∧
      t.comms.link.state = .active ∧ t.comms.link.join = .stopped ∧
      t.comms.link.report = .running (1000 * s.settings.reportPeriod) ∧
      t.comms.link.peer.reportsQueued = bump s.comms.link.peer.reportsQueued ∧
      t.comms.link.spacing = .running 500 ∧ t.comms.link.eventPending = false ∧
      ⟨.report, 0, true, s.moment, s.comms.draws, false⟩ ∈ t.comms.link.queue := by
  have hplace : (s.comms.joined s.settings).link.queue.length < 8 := Nat.lt_of_le_of_lt hroom (by decide)
  rw [exec_joinTimerExpiry hrun, periodicReport_of_none (c := s.comms.joined s.settings) hno,
    offerReport_of_room (c := s.comms.joined s.settings) nofun hplace]
  generalize hc : ({ (s.comms.joined s.settings).withReport s.env with
    link := { ((s.comms.joined s.settings).withReport s.env).link with eventPending := false } } : Comms) = c
  have hlength : c.link.queue.length ≤ 7 := by
    rw [← hc]
    exact (Nat.le_of_eq (length_join ..)).trans (Nat.add_le_add_right hroom 1 |>.trans (by decide))
  have hmem : (⟨.report, 0, true, s.moment, s.comms.draws, false⟩ : Frame) ∈ c.link.queue := by
    rw [← hc]
    exact mem_join.mpr (.inl rfl)
  have hkept := resumeStarts_noticed (e := s.env) (Comms.fits_of_length hlength)
  have hmoved := resumeStarts_starts s.env c
  have hreport := hkept.mem hmem rfl
  generalize resumeStarts s.env c = d at hkept hmoved hreport
  refine ⟨_, done_comms h ?_ ?_ ?_, rfl, ?_⟩
  · rw [hmoved.noVent, ← hc]; rfl
  · rw [hmoved.requests, ← hc]; rfl
  · rw [hmoved.bus, ← hc]; rfl
  · dsimp only
    refine ⟨?_, ?_, ?_, ?_, ?_, ?_, hreport⟩ <;> rw [hkept.link, ← hc] <;> rfl

/-- A new stage presents its report event once selection has changed no more than the notices of the queue. -/
theorem setStage_noticed {e : Env} {n : Nat} {c : Comms} (h : c.fits) :
    ∃ d, c.Noticed d ∧ setStage e n c = reportEvent e d := by
  have hstage : c.Noticed { c with fan := { c.fan with stage := n, dwell := .running (1000 * e.settings.dwell) } } :=
    .of_link h rfl
  exact ⟨_, hstage.trans (select_noticed hstage.fits), rfl⟩

/-- A report event at the fall of the stage (R38, R88). -/
theorem dwellExpiry_reports {s : State} (hq : s.quiet = true) (hv : s.vented = true) (ho : s.operating = true)
    (hrun : s.comms.fan.dwell.isRunning = true) (hlow : demand s.env s.comms.fan < s.comms.fan.stage)
    (hcalm : s.grave = false) (hroom : s.comms.link.queue.length < 8) :
    ∃ d, s.comms.Noticed d ∧ ∃ t, exec .dwellTimerExpiry s = .next t ∧ t.comms = reportEvent s.env d := by
  have hexec : exec .dwellTimerExpiry s = done { s with comms := reworkDemand s.env s.comms.dwelt } :=
    congrArg (fun c => done { s with comms := c }) (if_pos hrun)
  have hafter : stageAfter s.env s.comms.dwelt.fan = s.comms.fan.stage - 1 :=
    (stageAfter_of_fall (fc := s.comms.dwelt.fan) ho (Nat.le_of_lt hlow)).trans (if_pos ⟨hlow, rfl, hcalm⟩)
  have hstep : stageAfter s.env s.comms.dwelt.fan ≠ s.comms.dwelt.fan.stage := by
    have hsame : s.comms.dwelt.fan.stage = s.comms.fan.stage := rfl
    omega
  have hfits : s.comms.fits := Comms.fits_of_length (Nat.le_of_lt_succ hroom)
  have hexp : reworkDemand s.env s.comms.dwelt = setStage s.env (s.comms.fan.stage - 1) s.comms.dwelt := by
    rw [reworkDemand_cases, if_neg hstep, hafter]
  have hdwelt : s.comms.Noticed s.comms.dwelt := .of_link hfits rfl
  obtain ⟨d, hd, hset⟩ := setStage_noticed (e := s.env) (n := s.comms.fan.stage - 1) hdwelt.fits
  exact ⟨d, hdwelt.trans hd, _, hexec.trans (done_reworkDemand (c := s.comms.dwelt) hq hv rfl rfl rfl rfl),
    hexp.trans hset⟩

/-- Settles O36: a report joins, displaces, folds, waits or is refused by the cases of R85, R87 and R88, and the tries
for a notice that go with it leave the other frames. -/
theorem reportsAreQueuedByJoiningPeriodAndEvent : Obligations.ReportsAreQueuedByJoiningPeriodAndEvent := by
  unfold Obligations.ReportsAreQueuedByJoiningPeriodAndEvent
  intro s h
  have hsilent (hs : s.comms.link.state = .active ∨ s.comms.link.state = .isolated) :
      s.comms.link.state ≠ .silent := by rcases hs with hs | hs <;> rw [hs] <;> nofun
  refine ⟨fun hrun _ hno hroom => joinExpiry_reports h hrun hno hroom, fun hrun hs hno hroom => ?_,
    fun hrun hflight => ?_, fun hrun hreport hwait => ?_, fun hrun hs hno hfull hall => ?_,
    fun hrun hs hno hfull hreply => ?_, fun hv ho hrun hlow hcalm hroom => ?_, fun hrun hpend hreport => ?_,
    fun hrun hpend hs hno hroom => ?_, fun hrun hpend => ?_⟩
  · rw [exec_periodicRequest hrun, periodicReport_of_none (c := s.comms.ticked s.settings) hno,
      offerReport_of_room (c := s.comms.ticked s.settings) (hsilent hs) hroom]
    exact ⟨_, done_comms h rfl rfl rfl, rfl, length_join .., mem_join.mpr (.inl rfl), fun g hg => mem_join.mpr (.inr hg)⟩
  · rw [exec_periodicRequest hrun, periodicReport_of_report (c := s.comms.ticked s.settings)
      (Link.hasReport_of_flight hflight), foldReport_of_flight (c := s.comms.ticked s.settings) hflight]
    exact done_comms h rfl rfl rfl
  · rw [exec_periodicRequest hrun, periodicReport_of_report (c := s.comms.ticked s.settings) hreport,
      foldReport_of_waiting (c := s.comms.ticked s.settings) hwait]
    exact done_comms h rfl rfl rfl
  · have hcls : Payload.report.cls s.grave = if s.grave then 2 else 4 := by cases s.grave <;> rfl
    rw [exec_periodicRequest hrun, periodicReport_of_none (c := s.comms.ticked s.settings) hno,
      offerReport_of_refused (c := s.comms.ticked s.settings) (hsilent hs) hfull
        fun g hg hwait => hcls ▸ hall g hg hwait]
    exact done_comms h rfl rfl rfl
  · rw [exec_periodicRequest hrun, periodicReport_of_none (c := s.comms.ticked s.settings) hno,
      offerReport_of_reply (e := s.env) (c := s.comms.ticked s.settings) (hsilent hs) hfull hreply]
    refine ⟨_, done_comms h rfl rfl rfl, rfl, ?_, mem_join.mpr (.inl rfl), rfl, rfl, rfl, fun g hg hkeep => ?_⟩
    · have hleft := length_displace (c := s.comms.ticked s.settings) hreply
      exact (length_join ..).trans (congrArg (· + 1) (hleft.trans (congrArg (· - 1) hfull)))
    · exact mem_join.mpr (.inr (mem_displace (c := s.comms.ticked s.settings) hg hkeep))
  · obtain ⟨d, hd, t, ht, htc⟩ := dwellExpiry_reports h hv ho hrun hlow hcalm hroom
    have hstate : d.link.state = s.comms.link.state := by rw [hd.link]
    have hpeer : d.link.peer = s.comms.link.peer := by rw [hd.link]
    refine ⟨t, ht, fun hon hs => ⟨fun hflight => ?_, fun hreport hwait => ?_, fun hno hspacing => ?_⟩, fun hoff => ?_⟩
    · have hflight' := hd.reportInFlight.trans hflight
      rw [htc, reportEvent_of_report (hstate ▸ hon) (hstate ▸ hs) (Link.hasReport_of_flight hflight'),
        foldReport_of_flight hflight']
      exact ⟨rfl, hpeer⟩
    · rw [htc, reportEvent_of_report (hstate ▸ hon) (hstate ▸ hs) (hd.hasReport.trans hreport),
        foldReport_of_waiting (hd.reportInFlight.trans hwait), ← hpeer]
      rfl
    · have hspacing' : d.link.spacing.isRunning = true := by rw [hd.link]; exact hspacing
      rw [htc, reportEvent_of_spacing (hstate ▸ hon) (hstate ▸ hs) (hd.hasReport.trans hno) hspacing']
      exact ⟨rfl, hd.hasReport.trans hno, hpeer⟩
    · rw [htc, reportEvent, if_pos (hstate ▸ hoff)]
      exact ⟨by rw [hd.link], by rw [hd.link], hpeer, hd.hasReport⟩
  · rw [exec_spacingTimerExpiry hrun, hpend, hreport]
    exact done_comms h rfl rfl rfl
  · rw [exec_spacingTimerExpiry hrun, hpend, hno]
    simp only [Bool.not_false, Bool.and_self, if_true]
    rw [offerReport_of_room (c := s.comms.unspaced) (hsilent (.inl hs)) hroom]
    exact ⟨_, done_comms h rfl rfl rfl, rfl, mem_join.mpr (.inl rfl)⟩
  · rw [exec_spacingTimerExpiry hrun, hpend]
    refine (done_comms h (c := s.comms.unspaced) rfl rfl rfl).trans ?_
    simp [Comms.unspaced, hpend]

end Sys2Proof.Machine
end


section
/-! The first frame of the queue on a bus that becomes free (R43, R61, R63, R66). -/

namespace Sys2Proof.Machine

section
variable {s : State}

/-- The station whose bus has become free, before a frame starts (R61, R76). -/
def State.freed (s : State) : State :=
  { s with comms := { s.comms with link := { s.comms.link with
    busFreeCount := 16, stuck := .stopped, stuckSpell := false } } }

theorem exec_busFree (h : s.comms.link.flight = none) : exec .busFree s = done s.freed.startFirst := by
  have hnone : s.comms.link.flight.isNone = true := by rw [h]; rfl
  exact congrArg (fun c => done ({ s with comms := c } : State).startFirst) (if_pos hnone)

theorem State.freed_canStart (h : s.comms.link.flight = none) (hsend : s.comms.link.maySend s.operating = true) :
    s.freed.canStart = !s.comms.link.queue.isEmpty := by
  have hflight : s.freed.comms.link.flight = none := h
  have hsend' : s.freed.comms.link.maySend s.freed.operating = true := hsend
  unfold State.canStart
  rw [hflight, hsend']
  rfl

/-- Nothing follows on a station that is told, asked for nothing and can start no frame. -/
theorem done_of_stopped (hv : s.ventTold = true) (hq : s.comms.service.queue = []) (hstart : s.canStart = false) :
    done s = .next { s with moment := s.moment + 1 } := by
  refine done_of_atRest ?_
  simp [State.atRest, hv, State.requestsTaken, hq, State.framesStarted, hstart]

theorem State.launch_of_cons {f : Frame} {rest : List Frame} (h : s.comms.link.queue = f :: rest) : s.launch =
    { s with
      comms := { s.comms with link := { s.comms.link with
        queue := { f with inFlight := true } :: rest, wire := s.buildFrame f, busFreeCount := 0
        stuck := .running Config.stuckMs } }
      fume := if f.payload.isReport then s.fume.onFlags RangeFlag.carry else s.fume } := by
  unfold State.launch
  rw [h]

/-- A frame launched leaves a bus that is not free. -/
theorem done_launch {f : Frame} {rest : List Frame} (h : s.comms.link.queue = f :: rest) (hv : s.ventTold = true)
    (hq : s.comms.service.queue = []) : done s.launch = .next { s.launch with moment := s.launch.moment + 1 } := by
  rw [State.launch_of_cons h]
  exact done_of_stopped hv hq (by simp [State.canStart, Config.busFreeBits])

variable (hf : s.comms.link.flight = none) (hsend : s.comms.link.maySend s.operating = true)
include hf hsend

theorem busFree_of_empty (hv : s.ventTold = true) (hq : s.comms.service.queue = [])
    (hempty : s.comms.link.queue = []) :
    exec .busFree s = .next { s.freed with moment := s.moment + 1 } := by
  have hstart : s.freed.canStart = false := by rw [State.freed_canStart hf hsend, hempty]; rfl
  rw [exec_busFree hf, State.startFirst, hstart, if_neg Bool.false_ne_true]
  exact done_of_stopped (s := s.freed) hv hq hstart

variable {f : Frame} {rest : List Frame} (hqueue : s.comms.link.queue = f :: rest)
include hqueue

theorem exec_busFree_of_cons : exec .busFree s = done (s.freed.onComms presentFirst).launch := by
  have hstart : s.freed.canStart = true := by rw [State.freed_canStart hf hsend, hqueue]; rfl
  rw [exec_busFree hf, State.startFirst, hstart, if_pos rfl]

theorem busFree_of_live (hv : s.ventTold = true) (hq : s.comms.service.queue = [])
    (hlive : f.payload.isStartNotice = true → s.comms.notices.length < s.settings.allowance) :
    exec .busFree s = .next { s.freed.launch with moment := s.moment + 1 } := by
  have hpresent : presentFirst s.freed.env s.freed.comms = s.freed.comms := by
    rw [presentFirst, Comms.firstBlocked_of_live (e := s.freed.env) (c := s.freed.comms) hqueue hlive,
      if_neg Bool.false_ne_true]
  have hsame : s.freed.onComms presentFirst = s.freed := by rw [State.onComms, hpresent]
  rw [exec_busFree_of_cons hf hsend hqueue, hsame, done_launch (s := s.freed) hqueue hv hq,
    State.launch_of_cons (s := s.freed) hqueue]
  rfl

/-- The station with the notice that stood first withdrawn (R43). -/
def State.deferred (s : State) (rest : List Frame) : State :=
  { s with comms := { s.comms with
    fan := { s.comms.fan with counters := { s.comms.fan.counters with
      noticeDeferred := bump s.comms.fan.counters.noticeDeferred } }
    link := { s.comms.link with queue := rest } } }

theorem exec_busFree_of_blocked (hn : f.payload.isStartNotice = true)
    (hk : s.settings.allowance ≤ s.comms.notices.length) :
    exec .busFree s = done (s.freed.deferred rest).launch := by
  have hpresent := presentFirst_of_blocked (e := s.freed.env) (c := s.freed.comms) hqueue hn hk
  have hmoved : s.freed.onComms presentFirst = s.freed.deferred rest := by rw [State.onComms, hpresent]; rfl
  rw [exec_busFree_of_cons hf hsend hqueue, hmoved]

end

/-- Settles O30: the first frame that the live count does not hold back is launched, and else the bus stays free. -/
theorem freeBusStartsTheFirstFrame : Obligations.FreeBusStartsTheFirstFrame := by
  unfold Obligations.FreeBusStartsTheFirstFrame
  intro s hv hq hf hsend
  refine ⟨fun f rest hqueue hlive => ?_, fun f g rest hqueue hn hk => ?_, fun f hqueue hn hk => ?_, fun hempty => ?_⟩
  · refine ⟨_, busFree_of_live hf hsend hqueue hv hq hlive, ?_⟩
    rw [State.launch_of_cons (s := s.freed) hqueue]
    refine ⟨rfl, ?_, ?_, fun hr => if_neg (by rw [hr]; nofun), fun hr g => ?_⟩
    · exact List.dropLast_concat
    · exact (List.getLast?_concat ..).trans (congrArg (some ∘ crc8) List.dropLast_concat.symm)
    · dsimp only
      rw [if_pos hr, Fume.onFlags_get]
      exact ⟨rfl, rfl⟩
  · rw [exec_busFree_of_blocked hf hsend hqueue hn hk,
      done_launch (s := s.freed.deferred (g :: rest)) (f := g) (rest := rest) rfl hv hq]
    exact ⟨_, rfl, rfl, rfl⟩
  · rw [exec_busFree_of_blocked hf hsend hqueue hn hk]
    exact done_of_stopped (s := s.freed.deferred []) hv hq (by simp [State.canStart, State.deferred])
  · exact busFree_of_empty hf hsend hv hq hempty

end Sys2Proof.Machine
end


section
/-! What the offers of the station leave of the frames in the queue and of what a delivery counts (R85, R86). -/

namespace Sys2Proof.Machine

/-! ## Offers and what follows them -/

/-- What offers, tries and the ends of the frames they displace leave: the counts of what was delivered, a free
responder, and the frame in flight. -/
structure Comms.Offers (c d : Comms) : Prop where
  sent : d.link.peer.transitsSent = c.link.peer.transitsSent
  starts : d.fan.counters.fanStarts = c.fan.counters.fanStarts
  current : c.service.current = none → d.service.current = none
  waits : ∀ g ∈ d.link.queue, g ∈ c.link.queue ∨ g.inFlight = false

namespace Comms.Offers

variable {b c d : Comms}

theorem refl : c.Offers c := ⟨rfl, rfl, id, fun _ => .inl⟩

theorem trans (h : b.Offers c) (k : c.Offers d) : b.Offers d :=
  ⟨k.sent.trans h.sent, k.starts.trans h.starts, fun hb => k.current (h.current hb), fun g hg =>
    (k.waits g hg).elim (h.waits g) .inr⟩

/-- A change that leaves the link and the responder. -/
theorem of_link (hl : d.link = c.link) (hs : d.service = c.service)
    (hf : d.fan.counters.fanStarts = c.fan.counters.fanStarts) : c.Offers d :=
  ⟨by rw [hl], hf, fun hc => hs ▸ hc, fun g hg => .inl (hl ▸ hg)⟩

theorem countPeer (f : PeerCounters → PeerCounters) (h : ∀ k, (f k).transitsSent = k.transitsSent) :
    c.Offers (c.countPeer f) := ⟨h _, rfl, id, fun _ => .inl⟩

theorem freeService : c.Offers { c with service := { c.service with current := none } } :=
  ⟨rfl, rfl, fun _ => rfl, fun _ => .inl⟩

/-- A bus with no frame in flight has none after it. -/
theorem idle (h : c.Offers d) (hc : ∀ g ∈ c.link.queue, g.inFlight = false) : d.link.flight = none := by
  rw [Link.flight, List.find?_eq_none]
  intro g hg
  rw [(h.waits g hg).elim (hc g) id]
  nofun

end Comms.Offers

section
variable {e : Env} {c : Comms}

theorem join_offers {p : Payload} : c.Offers (c.join e p) := by
  refine ⟨rfl, rfl, id, fun g hg => ?_⟩
  obtain rfl | hg := mem_join.mp hg
  · exact .inr rfl
  · exact .inl hg

theorem displace_offers {grave : Bool} {w : Nat} : c.Offers (c.displace grave w) :=
  ⟨rfl, rfl, id, fun _ hg => .inl (List.mem_of_mem_eraseP hg)⟩

theorem offerFrame_offers (p : Payload) : c.Offers (offerFrame e p c).comms := by
  obtain h | ⟨-, h⟩ | ⟨-, h⟩ := offerFrame_cases e p c <;> rw [h]
  · exact .countPeer _ fun _ => rfl
  · exact join_offers
  · exact displace_offers.trans join_offers

theorem clearRelease_offers : c.Offers (clearRelease c) := by
  unfold clearRelease
  split
  · exact .refl
  · split
    · exact .refl
    · exact .of_link rfl rfl rfl

theorem localStarts_offers : c.Offers (localStarts e c) := by
  unfold localStarts
  refine clearRelease_offers.trans ?_
  dsimp only
  split
  · exact .refl
  · split
    · exact .of_link rfl rfl rfl
    · split
      · split
        · exact .of_link rfl rfl rfl
        · exact .refl
      · exact .refl

theorem releaseFan_offers (i : Fin 4) : c.Offers (releaseFan i c) := by
  unfold releaseFan
  dsimp only
  split <;> exact .of_link rfl rfl rfl

theorem tryNotice_offers : ∀ {n : Nat} {c : Comms}, c.Offers (tryNotice n e c)
  | 0, _ => .refl
  | n + 1, c => by
    unfold tryNotice
    split
    · split
      · exact .refl
      next i _ =>
        split
        · have hoffer := offerFrame_offers (e := e) (c := c) (.startNotice i)
          dsimp only
          split
          · exact hoffer.trans (.countPeer _ fun _ => rfl)
          · exact hoffer.trans .freeService
          · exact hoffer
          · exact ((hoffer.trans (releaseFan_offers i)).trans localStarts_offers).trans tryNotice_offers
        · exact .of_link rfl rfl rfl
    · exact .refl

theorem resumeStarts_offers : c.Offers (resumeStarts e c) := localStarts_offers.trans tryNotice_offers

theorem dropEnd_offers (p : Payload) : c.Offers (dropEnd e p c) := by
  cases p with
  | report => exact .refl
  | startNotice i => exact (releaseFan_offers i).trans resumeStarts_offers
  | transit _ _ _ => exact .countPeer _ fun _ => rfl
  | reply _ => exact .freeService

theorem dropEnds_offers (p : Option Payload) : c.Offers (dropEnds e p c) := by
  cases p with
  | none => exact .refl
  | some p => exact dropEnd_offers p

theorem offerReport_offers : c.Offers (offerReport e c) := by
  have hoffer := offerFrame_offers (e := e) (c := c) .report
  unfold offerReport
  refine Comms.Offers.trans ?_ (dropEnds_offers _)
  split
  · exact hoffer.trans ⟨rfl, rfl, id, fun _ => .inl⟩
  · exact hoffer

theorem reportEvent_offers : c.Offers (reportEvent e c) := by
  unfold reportEvent
  split
  · exact .refl
  · split
    · unfold foldReport
      split
      · exact ⟨rfl, rfl, id, fun _ => .inl⟩
      · exact .countPeer _ fun _ => rfl
    · split
      · exact ⟨rfl, rfl, id, fun _ => .inl⟩
      · exact offerReport_offers

theorem takeUpMark_offers (p : Payload) : c.Offers (takeUpMark e p c) := by
  unfold takeUpMark
  split
  · exact Comms.Offers.trans (c := c.onLink _) ⟨rfl, rfl, id, fun _ => .inl⟩ reportEvent_offers
  · exact .refl

/-! ## A report event on a queue with a place (R88) -/

/-- A report event on a queue with a place changes no fan, and leaves every frame. -/
theorem reportEvent_of_place (h : c.link.queue.length ≤ 7) :
    (reportEvent e c).fan = c.fan ∧ (∀ g ∈ c.link.queue, g ∈ (reportEvent e c).link.queue) ∧
      (reportEvent e c).link.queue.length ≤ c.link.queue.length + 1 := by
  unfold reportEvent
  split
  · exact ⟨rfl, fun _ => id, Nat.le_succ _⟩
  next hon =>
    split
    · unfold foldReport
      split <;> exact ⟨rfl, fun _ => id, Nat.le_succ _⟩
    · split
      · exact ⟨rfl, fun _ => id, Nat.le_succ _⟩
      · rw [offerReport_of_room (fun hs => hon (.inr hs)) (Nat.lt_succ_of_le h)]
        exact ⟨rfl, fun g hg => mem_join.mpr (.inr hg), Nat.le_of_eq (length_join ..)⟩

theorem takeUpMark_of_place {p : Payload} (h : c.link.queue.length ≤ 7) :
    (takeUpMark e p c).fan = c.fan ∧ (∀ g ∈ c.link.queue, g ∈ (takeUpMark e p c).link.queue) ∧
      (takeUpMark e p c).link.queue.length ≤ c.link.queue.length + 1 := by
  unfold takeUpMark
  split
  · exact reportEvent_of_place (c := c.onLink _) h
  · exact ⟨rfl, fun _ => id, Nat.le_succ _⟩

end

/-! ## The frame in flight leaves (R71, R72) -/

theorem mem_removeFlight {l : Link} {g : Frame} : g ∈ l.removeFlight.queue ↔ g ∈ l.queue ∧ g.inFlight = false := by
  rw [Link.removeFlight, List.mem_filter, Bool.not_eq_true']

theorem length_removeFlight {l : Link} {f : Frame} (h : l.flight = some f) :
    l.removeFlight.queue.length < l.queue.length := by
  have hmem : f ∈ l.queue := List.mem_of_find?_eq_some h
  have hflight : f.inFlight = true := by simpa using List.find?_some h
  exact List.length_filter_lt_length_iff_exists.mpr ⟨f, hmem, by simp [hflight]⟩

end Sys2Proof.Machine
end


section
/-! A delivered frame (R19, R44, R71, R72, R80, R86). -/

namespace Sys2Proof.Machine

section
variable {e : Env} {c : Comms}

/-! ## The end of a delivered START NOTICE (R44) -/

theorem mem_enterNotice (now unit fan w : Nat) (c : Comms) :
    ⟨unit, fan, now, w, 1000 * w⟩ ∈ (enterNotice now unit fan w c).notices := by
  unfold enterNotice
  dsimp only
  split
  · exact List.mem_append_right _ List.mem_cons_self
  · split <;> exact List.mem_append_right _ List.mem_cons_self

/-- The bus side with a delivered notice of this station in the list, and its fan started (R44). -/
def Comms.admitted (e : Env) (i : Fin 4) (c : Comms) : Comms :=
  permitted e i (enterNotice e.now e.settings.unit i.val e.settings.window c)

/-- Entry in the list and the start leave the queue and the responder, and move no fan but the one named. -/
theorem admitted_keeps (i : Fin 4) : ∃ p, (c.admitted e i).link = { c.link with peer := p } ∧
    (c.admitted e i).service = c.service ∧ (c.admitted e i).fan.noVent = c.fan.noVent := by
  obtain ⟨p, n, h, -⟩ := enterNotice_peer (now := e.now) (unit := e.settings.unit) (fan := i.val)
    (w := e.settings.window) (c := c)
  refine ⟨p, ?_⟩
  unfold Comms.admitted permitted
  rw [h]
  split <;> exact ⟨rfl, rfl, rfl⟩

theorem admitted_listed (i : Fin 4) :
    ⟨e.settings.unit, i.val, e.now, e.settings.window, 1000 * e.settings.window⟩ ∈ (c.admitted e i).notices := by
  have hentry := mem_enterNotice e.now e.settings.unit i.val e.settings.window c
  unfold Comms.admitted permitted
  split
  · exact hentry
  · exact hentry

theorem enterNotice_fan (now unit fan w : Nat) (c : Comms) : (enterNotice now unit fan w c).fan = c.fan := by
  obtain ⟨p, n, h, -⟩ := enterNotice_peer (now := now) (unit := unit) (fan := fan) (w := w) (c := c)
  rw [h]

theorem permitted_of_waiting {i : Fin 4} (h : (c.fanAt i).state = .waitPermit) :
    (permitted e i c).fanAt i = (c.fanAt i).spun (stageDuty e.settings c.fan.stage) ∧
      (permitted e i c).fan.counters.fanStarts = bump c.fan.counters.fanStarts := by
  unfold permitted
  rw [if_pos h]
  exact ⟨(startFan_fans e i i c).trans (if_pos rfl), rfl⟩

theorem admitted_starts {i : Fin 4} (h : (c.fanAt i).state = .waitPermit) :
    (c.admitted e i).fanAt i = (c.fanAt i).spun (stageDuty e.settings c.fan.stage) ∧
      (c.admitted e i).fan.counters.fanStarts = bump c.fan.counters.fanStarts := by
  have hfan := enterNotice_fan e.now e.settings.unit i.val e.settings.window c
  unfold Comms.admitted
  unfold Comms.fanAt at h
  rw [← hfan] at h
  have hstart := permitted_of_waiting (e := e) h
  unfold Comms.fanAt at hstart ⊢
  rw [hfan] at hstart
  exact hstart

theorem admitted_of_other {i : Fin 4} (h : (c.fanAt i).state ≠ .waitPermit) : (c.admitted e i).fan = c.fan := by
  have hfan := enterNotice_fan e.now e.settings.unit i.val e.settings.window c
  unfold Comms.fanAt at h
  rw [← hfan] at h
  unfold Comms.admitted permitted
  exact (congrArg Comms.fan (if_neg h)).trans hfan

end

/-! ## The link after a delivery (R71, R72, R80) -/

/-- The bus side whose frame in flight has been delivered, before the frame's end (R71). -/
def Comms.relieved (c : Comms) : Comms :=
  (c.onLink Link.afterDelivery).countLink fun k => { k with framesDelivered := bump k.framesDelivered }

theorem delivered_eq (e : Env) (f : Frame) (c : Comms) : delivered e f c =
    if c.link.state = .isolated then resumeStarts e (deliveredEnd e f.payload c.relieved)
    else deliveredEnd e f.payload c.relieved := rfl

/-- What the end of a delivered frame leaves of the link. -/
theorem deliveredEnd_frame (e : Env) (p : Payload) (c : Comms) :
    (deliveredEnd e p c).link.wire = c.link.wire ∧ (deliveredEnd e p c).link.unheardDrops = c.link.unheardDrops ∧
    (deliveredEnd e p c).link.counters = c.link.counters ∧ (deliveredEnd e p c).link.state = c.link.state ∧
    (deliveredEnd e p c).link.busFreeCount = c.link.busFreeCount ∧
    (deliveredEnd e p c).fan.noVent = c.fan.noVent ∧ (deliveredEnd e p c).service.queue = c.service.queue := by
  cases p with
  | report => simp [deliveredEnd]
  | startNotice i =>
    obtain ⟨q, hlink, hservice, hvent⟩ := admitted_keeps (e := e) (c := c) i
    have hexp : deliveredEnd e (.startNotice i) c = resumeStarts e (c.admitted e i) := rfl
    rw [hexp]
    simp [hlink, hservice, hvent]
  | transit _ _ _ => exact ⟨rfl, rfl, rfl, rfl, rfl, rfl, rfl⟩
  | reply _ => exact ⟨rfl, rfl, rfl, rfl, rfl, rfl, rfl⟩

/-- The frame's end adds frames that wait alone. -/
theorem deliveredEnd_idle {e : Env} {p : Payload} {c : Comms} (h : ∀ g ∈ c.link.queue, g.inFlight = false) :
    ∀ g ∈ (deliveredEnd e p c).link.queue, g.inFlight = false := by
  have hoffers {d : Comms} (hd : c.Offers d) : ∀ g ∈ d.link.queue, g.inFlight = false := fun g hg =>
    (hd.waits g hg).elim (h g) id
  cases p with
  | report => exact hoffers (takeUpMark_offers _)
  | startNotice i =>
    obtain ⟨q, hlink, -⟩ := admitted_keeps (e := e) (c := c) i
    have hidle : ∀ g ∈ (c.admitted e i).link.queue, g.inFlight = false := by rw [hlink]; exact h
    exact fun g hg => ((resumeStarts_offers (e := e) (c := c.admitted e i)).waits g hg).elim (hidle g) id
  | transit _ _ _ => exact h
  | reply _ => exact h

/-- The frame's end on a queue with two places leaves the frames that wait, and a place for a notice. -/
theorem deliveredEnd_keeps {e : Env} {p : Payload} {c : Comms} (h : c.link.queue.length ≤ 6) :
    (deliveredEnd e p c).fits ∧ ∀ g ∈ c.link.queue, g ∈ (deliveredEnd e p c).link.queue := by
  have hfits : c.fits := Comms.fits_of_length (by omega)
  cases p with
  | report =>
    obtain ⟨-, hkeep, hlength⟩ := takeUpMark_of_place (e := e) (c := c) (p := .report) (by omega)
    exact ⟨Comms.fits_of_length (hlength.trans (by omega)), hkeep⟩
  | startNotice i =>
    obtain ⟨q, hlink, -⟩ := admitted_keeps (e := e) (c := c) i
    have hadmitted : (c.admitted e i).fits := Comms.fits_of_length (by rw [hlink]; exact h.trans (by decide))
    refine ⟨(resumeStarts_noticed hadmitted).fits, fun g hg => ?_⟩
    have hg' : g ∈ (c.admitted e i).link.queue := by rw [hlink]; exact hg
    exact mem_resumeStarts hadmitted hg'
  | transit _ _ _ => exact ⟨hfits, fun _ => id⟩
  | reply _ => exact ⟨hfits, fun _ => id⟩

/-- A delivery on a bus side, but for what the frame's own end does (R71, R72, R80). -/
theorem delivered_frame {e : Env} {f : Frame} {c : Comms} :
    (delivered e f c).link.flight = none ∧ (delivered e f c).link.wire = [] ∧
    (delivered e f c).link.unheardDrops = 0 ∧
    (delivered e f c).link.counters.framesDelivered = bump c.link.counters.framesDelivered ∧
    (delivered e f c).link.state = (if c.link.state = .isolated then .active else c.link.state) ∧
    (delivered e f c).link.busFreeCount = 0 ∧ (delivered e f c).fan.noVent = c.fan.noVent ∧
    (delivered e f c).service.queue = c.service.queue := by
  have hrest : ∀ g ∈ c.relieved.link.queue, g.inFlight = false := fun g hg => (mem_removeFlight.mp hg).2
  have hidle := deliveredEnd_idle (e := e) (p := f.payload) hrest
  obtain ⟨hwire, hdrops, hcounters, hstate, hbus, hvent, hrequests⟩ := deliveredEnd_frame e f.payload c.relieved
  rw [delivered_eq]
  generalize deliveredEnd e f.payload c.relieved = d at *
  have hmoved : (if c.link.state = .isolated then resumeStarts e d else d).link.flight = none := by
    split
    · exact resumeStarts_offers.idle hidle
    · exact Comms.Offers.refl.idle hidle
  refine ⟨hmoved, ?_⟩
  have hsame : (if c.link.state = .isolated then resumeStarts e d else d).link.wire = d.link.wire ∧
      (if c.link.state = .isolated then resumeStarts e d else d).link.unheardDrops = d.link.unheardDrops ∧
      (if c.link.state = .isolated then resumeStarts e d else d).link.counters = d.link.counters ∧
      (if c.link.state = .isolated then resumeStarts e d else d).link.state = d.link.state ∧
      (if c.link.state = .isolated then resumeStarts e d else d).link.busFreeCount = d.link.busFreeCount ∧
      (if c.link.state = .isolated then resumeStarts e d else d).fan.noVent = d.fan.noVent ∧
      (if c.link.state = .isolated then resumeStarts e d else d).service.queue = d.service.queue := by
    split <;> simp
  obtain ⟨hw, hd, hc, hs, hb, hv, hr⟩ := hsame
  rw [hw, hd, hc, hs, hb, hv, hr, hwire, hdrops, hcounters, hstate, hbus, hvent, hrequests]
  exact ⟨rfl, rfl, rfl, rfl, rfl, rfl, rfl⟩

/-- After its own end a delivered frame moves what the tries for a notice move. -/
theorem delivered_tries (e : Env) (f : Frame) (c : Comms) :
    (deliveredEnd e f.payload c.relieved).Starts (delivered e f c) ∧
      (deliveredEnd e f.payload c.relieved).Offers (delivered e f c) ∧
      (delivered e f c).notices = (deliveredEnd e f.payload c.relieved).notices := by
  rw [delivered_eq]
  split
  · exact ⟨resumeStarts_starts .., resumeStarts_offers, by simp⟩
  · exact ⟨.refl, .refl, rfl⟩

theorem delivered_keeps {e : Env} {f : Frame} {c : Comms} (hf : c.link.flight = some f)
    (h : c.link.queue.length ≤ 7) {g : Frame} (hg : g ∈ c.link.queue) (hwait : g.inFlight = false) :
    g ∈ (delivered e f c).link.queue := by
  have hlength : c.relieved.link.queue.length ≤ 6 :=
    Nat.le_of_lt_succ (Nat.lt_of_lt_of_le (length_removeFlight (l := c.link.endAttempt) hf) h)
  obtain ⟨hfits, hkeep⟩ := deliveredEnd_keeps (e := e) (p := f.payload) hlength
  have hmem := hkeep g (mem_removeFlight.mpr ⟨hg, hwait⟩)
  rw [delivered_eq]
  split
  · exact mem_resumeStarts hfits hmem
  · exact hmem

theorem delivered_notice {e : Env} {f : Frame} {c : Comms} {i : Fin 4} (hp : f.payload = .startNotice i) :
    ⟨e.settings.unit, i.val, e.now, e.settings.window, 1000 * e.settings.window⟩ ∈ (delivered e f c).notices ∧
    ((c.fanAt i).state = .waitPermit →
      (delivered e f c).fanAt i = (c.fanAt i).spun (stageDuty e.settings c.fan.stage) ∧
      (delivered e f c).fan.counters.fanStarts = bump c.fan.counters.fanStarts) ∧
    ((c.fanAt i).state ≠ .waitPermit →
      (delivered e f c).fanAt i = c.fanAt i ∧
      (delivered e f c).fan.counters.fanStarts = c.fan.counters.fanStarts) := by
  obtain ⟨hstarts, hoffers, hnotices⟩ := delivered_tries e f c
  have hexp : deliveredEnd e f.payload c.relieved = resumeStarts e (c.relieved.admitted e i) := by rw [hp]; rfl
  rw [hexp] at hstarts hoffers hnotices
  have hstarts' := (resumeStarts_starts e (c.relieved.admitted e i)).trans hstarts
  have hoffers' := (resumeStarts_offers (e := e) (c := c.relieved.admitted e i)).trans hoffers
  refine ⟨?_, fun hwait => ?_, fun hother => ?_⟩
  · rw [hnotices]
    have hlisted := admitted_listed (e := e) (c := c.relieved) i
    simpa using hlisted
  · obtain ⟨hspun, hcount⟩ := admitted_starts (e := e) (c := c.relieved) hwait
    exact ⟨(hstarts'.kept (by rw [hspun]; nofun)).trans hspun, hoffers'.starts.trans hcount⟩
  · have hsame := admitted_of_other (e := e) (c := c.relieved) hother
    have hfan : (c.relieved.admitted e i).fanAt i = c.fanAt i := congrArg (fun fc => fc.fans.get i) hsame
    exact ⟨(hstarts'.kept (by rw [hfan]; exact hother)).trans hfan, hoffers'.starts.trans (by rw [hsame]; rfl)⟩

/-- The fume unit once a frame has been delivered: a report clears the flags that it carried (R19). -/
def State.reportHeard (s : State) (f : Frame) : Fume :=
  if f.payload.isReport then s.fume.onFlags RangeFlag.delivered else s.fume

/-- The station in which a frame of its own has been delivered, and nothing follows. -/
theorem done_delivered {s : State} {f : Frame} (h : s.quiet = true) (hf : s.comms.link.flight = some f) :
    ∃ e : Env, e.settings = s.settings ∧ e.now = s.now ∧ exec .frameDelivered s = .next { s with
      fume := s.reportHeard f, comms := delivered e f s.comms, moment := s.moment + 1 } := by
  have hstep : ∃ e : Env, e.settings = s.settings ∧ e.now = s.now ∧
      s.frameDelivered = { s with fume := s.reportHeard f, comms := delivered e f s.comms } := by
    simp only [State.frameDelivered, hf]
    unfold State.reportHeard
    split <;> exact ⟨_, rfl, rfl, rfl⟩
  obtain ⟨e, hset, hnow, hstep⟩ := hstep
  obtain ⟨-, -, -, -, -, hbus, hvent, hrequests⟩ := delivered_frame (e := e) (f := f) (c := s.comms)
  have hquiet : ({ s with fume := s.reportHeard f, comms := delivered e f s.comms } : State).quiet = true := by
    rw [State.quiet_iff] at h ⊢
    obtain ⟨htold, hnone, -⟩ := h
    exact ⟨fun ho => (htold ho).trans hvent.symm, hrequests.trans hnone, by dsimp only; rw [hbus]; nofun⟩
  have hexec : exec .frameDelivered s = done s.frameDelivered := rfl
  exact ⟨e, hset, hnow, by rw [hexec, hstep, done_of_quiet hquiet]⟩

/-- Settles O33: the delivery takes the frame off the queue, its end goes to its block, and the tries after it leave
both as they are. -/
theorem deliveredFrameIsHandedBack : Obligations.DeliveredFrameIsHandedBack := by
  unfold Obligations.DeliveredFrameIsHandedBack
  intro f s h hf
  obtain ⟨e, hset, hnow, hexec⟩ := done_delivered h hf
  obtain ⟨hflight, hwire, hdrops, hcount, hstate, -⟩ := delivered_frame (e := e) (f := f) (c := s.comms)
  obtain ⟨hstarts, hoffers, hnotices⟩ := delivered_tries e f s.comms
  refine ⟨_, hexec, rfl, hflight, hwire, hdrops, hcount, hstate,
    fun hlength g hg hwait => delivered_keeps hf hlength hg hwait, fun hr => if_neg (by rw [hr]; nofun),
    fun hr => ?_, fun i hp => ?_, fun target d p hp => ?_, fun r hp => ?_⟩
  · have hfume : s.reportHeard f = s.fume.onFlags RangeFlag.delivered := if_pos hr
    dsimp only
    rw [hfume]
    refine ⟨rfl, fun g => ?_⟩
    rw [Fume.onFlags_get]
    exact ⟨rfl, rfl, rfl⟩
  · have hnotice := delivered_notice (e := e) (c := s.comms) hp
    rw [hset, hnow] at hnotice
    exact hnotice
  · have hend : deliveredEnd e f.payload s.comms.relieved = s.comms.relieved.countPeer
        fun k => { k with transitsSent := bump k.transitsSent } := by rw [hp]; rfl
    rw [hend] at hoffers hnotices
    exact ⟨hoffers.sent, hnotices⟩
  · have hend : deliveredEnd e f.payload s.comms.relieved = { s.comms.relieved with
        service := { s.comms.relieved.service with current := none } } := by rw [hp]; rfl
    rw [hend] at hoffers hnotices
    exact ⟨hoffers.current rfl, hnotices⟩

end Sys2Proof.Machine
end


section
/-! A frame dropped after its third failed attempt (R45, R72, R76, R80, R86). -/

namespace Sys2Proof.Machine

/-! ## The end of a dropped frame (R86) -/

section
variable {e : Env} {c d : Comms}

theorem localStarts_noticeDropped :
    (localStarts e c).fan.counters.noticeDropped = c.fan.counters.noticeDropped := by
  have hclear : (clearRelease c).fan.counters = c.fan.counters := by
    unfold clearRelease
    split
    · rfl
    · split <;> rfl
  rw [← hclear]
  unfold localStarts
  dsimp only
  split
  · rfl
  · split
    · rfl
    · split
      · split <;> rfl
      · rfl

/-- On a queue that takes a notice no try drops one (R42, R45). -/
theorem resumeStarts_noticeDropped (h : c.fits) :
    (resumeStarts e c).fan.counters.noticeDropped = c.fan.counters.noticeDropped := by
  have hlocal : c.Noticed (localStarts e c) := .of_link h (by simp)
  rw [← localStarts_noticeDropped (e := e) (c := c)]
  unfold resumeStarts
  obtain hsame | hdefer | ⟨-, i, hjoin⟩ := tryNotice_of_fits (n := 2) (e := e) hlocal.fits
  · rw [hsame]
  · rw [hdefer]; rfl
  · rw [hjoin]; rfl

/-- What the end of a dropped frame does to the block that queued it, and what it leaves in the queue. -/
structure Comms.DropEnded (p : Payload) (c d : Comms) : Prop where
  offers : c.Offers d
  plain : ∀ g ∈ c.link.queue, g.payload.isStartNotice = false → g ∈ d.link.queue
  lost : ∀ target dir q, p = .transit target dir q → d.link.peer.transitsLost = bump c.link.peer.transitsLost
  reply : ∀ r, p = .reply r → d.service.current = none
  notice : ∀ i, p = .startNotice i → d.fan.counters.noticeDropped = bump c.fan.counters.noticeDropped
  report : p.isReport = true → d.fan.counters.noticeDropped = c.fan.counters.noticeDropped

theorem dropEnd_ended (p : Payload) (h : c.link.queue.length ≤ 7) :
    c.DropEnded p (takeUpMark e p (dropEnd e p c)) := by
  cases p with
  | report =>
    obtain ⟨hfan, hkeep, -⟩ := takeUpMark_of_place (e := e) (p := .report) h
    exact ⟨takeUpMark_offers _, fun g hg _ => hkeep g hg, nofun, nofun, nofun, fun _ => congrArg (·.counters.noticeDropped) hfan⟩
  | startNotice i =>
    have hlink : (releaseFan i c).link = c.link := by simp
    have hfits : (releaseFan i c).fits := Comms.fits_of_length (by rw [hlink]; exact h)
    have hcount : (releaseFan i c).fan.counters.noticeDropped = bump c.fan.counters.noticeDropped := by
      unfold releaseFan
      dsimp only
      split <;> rfl
    refine ⟨(releaseFan_offers i).trans resumeStarts_offers, fun g hg hplain => ?_, nofun, nofun, fun _ _ => ?_, nofun⟩
    · exact (resumeStarts_noticed hfits).mem (by rw [hlink]; exact hg) hplain
    · exact (resumeStarts_noticeDropped hfits).trans hcount
  | transit _ _ _ =>
    exact ⟨.countPeer _ fun _ => rfl, fun _ hg _ => hg, fun _ _ _ _ => rfl, nofun, nofun, nofun⟩
  | reply _ => exact ⟨.freeService, fun _ hg _ => hg, nofun, fun _ _ => rfl, nofun, nofun⟩

/-- A link that turns ISOLATED withdraws a notice that waits, and changes nothing else of a frame's end (R46, R80). -/
theorem Comms.DropEnded.isolate {p : Payload} (h : c.DropEnded p d) : c.DropEnded p (isolate e d) := by
  have hlocal : (Machine.isolate e d).link.queue = (withdrawNotice d).link.queue := by
    simp [Machine.isolate]
    rfl
  have hpeer : (Machine.isolate e d).link.peer = d.link.peer := by simp
  have hservice : (Machine.isolate e d).service = d.service := by simp
  have hcount : (Machine.isolate e d).fan.counters.noticeDropped = d.fan.counters.noticeDropped :=
    localStarts_noticeDropped
  have hmoved : d.Offers (Machine.isolate e d) := by
    refine ⟨by rw [hpeer], ?_, fun hc => hservice ▸ hc, fun g hg => ?_⟩
    · exact (localStarts_offers (e := e)).starts
    · rw [hlocal] at hg
      exact .inl (List.mem_of_mem_eraseP hg)
  refine ⟨h.offers.trans hmoved, fun g hg hplain => ?_, fun t q x hp => ?_, fun r hp => ?_, fun i hp => ?_, fun hp => ?_⟩
  · rw [hlocal]
    exact (List.mem_eraseP_of_neg (by simp [hplain])).mpr (h.plain g hg hplain)
  · rw [hpeer]; exact h.lost t q x hp
  · rw [hservice]; exact h.reply r hp
  · rw [hcount]; exact h.notice i hp
  · rw [hcount]; exact h.report hp

end

/-! ## The drop (R72, R80) -/

/-- The bus side without its frame in flight, whose drop is counted (R72). -/
def Comms.shed (unheard : Bool) (c : Comms) : Comms :=
  (c.onLink fun l => { l.removeFlight with unheardDrops := nextUnheard unheard l.unheardDrops }).countLink
    fun k => { k with framesDropped := bump k.framesDropped }

/-- The bus side at the end of the dropped frame. -/
def Comms.ended (e : Env) (f : Frame) (c : Comms) : Comms :=
  takeUpMark e f.payload (dropEnd e f.payload (c.shed f.unheard))

theorem dropFlight_eq (e : Env) (f : Frame) (c : Comms) : dropFlight e f c =
    if (c.ended e f).link.state = .active ∧ (c.ended e f).link.unheardDrops = 3 then isolate e (c.ended e f)
    else c.ended e f := rfl

section
variable {e : Env} {f : Frame} {c : Comms}

theorem ended_frame : (c.ended e f).link.state = c.link.state ∧
    (c.ended e f).link.unheardDrops = nextUnheard f.unheard c.link.unheardDrops ∧
    (c.ended e f).link.counters = { c.link.counters with framesDropped := bump c.link.counters.framesDropped } := by
  unfold Comms.ended
  simp only [takeUpMark_frame, dropEnd_frame]
  exact ⟨rfl, rfl, rfl⟩

theorem isolate_state (d : Comms) : (isolate e d).link.state = .isolated ∧
    (isolate e d).link.counters = { d.link.counters with isolations := bump d.link.counters.isolations } := by
  simp [isolate, Comms.onLink, Link.count]

/-- The link after a drop: three unheard drops in a row isolate it (R72, R80). -/
theorem dropFlight_link :
    (dropFlight e f c).link.unheardDrops = nextUnheard f.unheard c.link.unheardDrops ∧
    (dropFlight e f c).link.state = (if c.link.state = .active ∧ nextUnheard f.unheard c.link.unheardDrops = 3
      then .isolated else c.link.state) ∧
    (dropFlight e f c).link.counters = { c.link.counters with
      framesDropped := bump c.link.counters.framesDropped
      isolations := if c.link.state = .active ∧ nextUnheard f.unheard c.link.unheardDrops = 3
        then bump c.link.counters.isolations else c.link.counters.isolations } := by
  obtain ⟨hstate, hdrops, hcounters⟩ := ended_frame (e := e) (f := f) (c := c)
  rw [dropFlight_eq, hstate, hdrops]
  split
  · obtain ⟨hisolated, hcount⟩ := isolate_state (e := e) (c.ended e f)
    rw [hisolated, hcount, hcounters]
    exact ⟨by simp [hdrops], rfl, rfl⟩
  · rw [hstate, hdrops, hcounters]
    exact ⟨rfl, rfl, rfl⟩

theorem dropFlight_ended {g : Frame} (hg : c.link.flight = some g) (h : c.link.queue.length ≤ 8) :
    (c.shed f.unheard).DropEnded f.payload (dropFlight e f c) := by
  have hlength : (c.shed f.unheard).link.queue.length ≤ 7 :=
    Nat.le_of_lt_succ (Nat.lt_of_lt_of_le (length_removeFlight hg) h)
  have hended : (c.shed f.unheard).DropEnded f.payload (c.ended e f) := dropEnd_ended f.payload hlength
  rw [dropFlight_eq]
  split
  · exact hended.isolate
  · exact hended

end

/-- What a third failed attempt leaves of a bus side whose frame in flight it drops. -/
structure Comms.DropsFrame (unheard : Bool) (f : Frame) (c d : Comms) : Prop where
  flight : d.link.flight = none
  wire : d.link.wire = []
  bus : d.link.busFreeCount = 0
  noVent : d.fan.noVent = c.fan.noVent
  requests : d.service.queue = c.service.queue
  dropped : d.link.counters.framesDropped = bump c.link.counters.framesDropped
  drops : d.link.unheardDrops = nextUnheard (f.unheard && unheard) c.link.unheardDrops
  state : d.link.state = (if c.link.state = .active ∧ d.link.unheardDrops = 3 then .isolated else c.link.state)
  isolations : d.link.counters.isolations = (if c.link.state = .active ∧ d.link.unheardDrops = 3
    then bump c.link.counters.isolations else c.link.counters.isolations)
  plain : ∀ g ∈ c.link.queue, g.inFlight = false → g ≠ f → g.payload.isStartNotice = false → g ∈ d.link.queue
  lost : ∀ target dir q, f.payload = .transit target dir q →
    d.link.peer.transitsLost = bump c.link.peer.transitsLost
  reply : ∀ r, f.payload = .reply r → d.service.current = none
  notice : ∀ i, f.payload = .startNotice i → d.fan.counters.noticeDropped = bump c.fan.counters.noticeDropped
  report : f.payload.isReport = true → d.fan.counters.noticeDropped = c.fan.counters.noticeDropped

theorem failAttempt_drops {e : Env} {u : Bool} {f : Frame} {c : Comms} (hf : c.link.flight = some f)
    (ha : 2 ≤ f.attempt) (h : c.link.queue.length ≤ 8) : c.DropsFrame u f (failAttempt e u c) := by
  have hexp : failAttempt e u c = dropFlight e { f with unheard := f.unheard && u } (c.onLink Link.endAttempt) := by
    unfold failAttempt
    rw [hf]
    exact if_pos ha
  obtain ⟨hdrops, hstate, hcounters⟩ := dropFlight_link (e := e) (f := { f with unheard := f.unheard && u })
    (c := c.onLink Link.endAttempt)
  have hended := dropFlight_ended (e := e) (f := { f with unheard := f.unheard && u })
    (c := c.onLink Link.endAttempt) hf h
  rw [hexp]
  refine ⟨hended.offers.idle fun g hg => (mem_removeFlight.mp hg).2, by simp [Comms.onLink, Link.endAttempt],
    by simp [Comms.onLink, Link.endAttempt], by simp [Comms.onLink], by simp [Comms.onLink], by rw [hcounters]; rfl,
    hdrops, by rw [hstate, hdrops]; rfl, by rw [hcounters, hdrops]; rfl, fun g hg hwait _ hplain => ?_, hended.lost,
    hended.reply, hended.notice, hended.report⟩
  exact hended.plain g (mem_removeFlight.mpr ⟨hg, hwait⟩) hplain

/-- The same drop, seen from a bus side that differs in what the drop does not name. -/
theorem Comms.DropsFrame.rebase {u : Bool} {f g : Frame} {b c d : Comms} (h : c.DropsFrame u g d)
    (hpayload : g.payload = f.payload) (hunheard : g.unheard = f.unheard) (hfan : c.fan = b.fan)
    (hservice : c.service = b.service) (hstate : c.link.state = b.link.state)
    (hdropped : c.link.counters.framesDropped = b.link.counters.framesDropped)
    (hisolations : c.link.counters.isolations = b.link.counters.isolations)
    (hdrops : c.link.unheardDrops = b.link.unheardDrops) (hpeer : c.link.peer = b.link.peer)
    (hqueue : ∀ x ∈ b.link.queue, x.inFlight = false → x ≠ f → x ∈ c.link.queue ∧ x ≠ g) : b.DropsFrame u f d where
  flight := h.flight
  wire := h.wire
  bus := h.bus
  noVent := hfan ▸ h.noVent
  requests := hservice ▸ h.requests
  dropped := hdropped ▸ h.dropped
  drops := hunheard ▸ hdrops ▸ h.drops
  state := hstate ▸ h.state
  isolations := by rw [h.isolations, hstate, hisolations]
  plain x hx hwait hne hplain := by
    obtain ⟨hmem, hne'⟩ := hqueue x hx hwait hne
    exact h.plain x hmem hwait hne' hplain
  lost := hpayload ▸ hpeer ▸ h.lost
  reply := hpayload ▸ h.reply
  notice := hpayload ▸ hfan ▸ h.notice
  report := hpayload ▸ hfan ▸ h.report

/-- The stuck timer runs beside a drop. -/
theorem Comms.DropsFrame.stuck {u : Bool} {f : Frame} {c d : Comms} (h : c.DropsFrame u f d) (x : Timer) :
    c.DropsFrame u f (d.onLink fun l => { l with stuck := x }) :=
  ⟨h.flight, h.wire, h.bus, h.noVent, h.requests, h.dropped, h.drops, h.state, h.isolations, h.plain, h.lost, h.reply,
    h.notice, h.report⟩

/-! ## The third failed attempt by its commands (R70, R72, R76) -/

section
variable {e : Env} {f : Frame} {c : Comms} (ha : 2 ≤ f.attempt) (h : c.link.queue.length ≤ 8)
include ha h

theorem countedFailure_drops {u : Bool} {k : LinkCounters → LinkCounters} (hf : c.link.flight = some f)
    (hdropped : (k c.link.counters).framesDropped = c.link.counters.framesDropped)
    (hisolations : (k c.link.counters).isolations = c.link.counters.isolations) :
    c.DropsFrame u f (countedFailure e u k c) := by
  have hflight : c.link.flight.isSome = true := by rw [hf]; rfl
  rw [countedFailure, if_pos hflight]
  exact (failAttempt_drops (c := c.countLink k) hf ha h).rebase rfl rfl rfl rfl rfl hdropped hisolations rfl rfl
    fun x hx _ hne => ⟨hx, hne⟩

variable (hs : c.link.state ≠ .silent)
include hs

theorem stuckExpiry_drops_flight (hf : c.link.flight = some f) : c.DropsFrame true f (stuckExpiry e c) := by
  have hflight : c.link.flight.isSome = true := by rw [hf]; rfl
  rw [stuckExpiry_eq, lineReset, if_neg (show (c.countLink _).link.state ≠ .silent from hs),
    if_pos (show (c.countLink _).link.flight.isSome = true from hflight)]
  refine Comms.DropsFrame.stuck (c := c) ?_ _
  exact (failAttempt_drops (c := (c.countLink _).onLink Link.resetLine) hf ha h).rebase (b := c) (f := f) rfl rfl rfl rfl
    rfl rfl rfl rfl rfl fun x hx _ hne => ⟨hx, hne⟩

theorem stuckExpiry_drops_first (hf : c.link.flight = none) (hp : c.link.stuckSpell = true)
    (hm : c.link.maySend e.operating = true) (hfirst : c.link.queue.head? = some f)
    (hk : f.payload.isStartNotice = true → c.liveCount < e.settings.allowance) :
    c.DropsFrame true f (stuckExpiry e c) := by
  obtain ⟨rest, hq⟩ : ∃ rest, c.link.queue = f :: rest := List.head?_eq_some_iff.mp hfirst
  have hlength : (f :: rest).length ≤ 8 := hq ▸ h
  rw [stuckExpiry_of_again hs hf hp, stuckAgain_of_live (c := c.again) hm hq hk]
  have hdrop := failAttempt_drops (e := e) (u := true) (f := { f with inFlight := true })
    (c := { c.again with link := { c.again.link with queue := { f with inFlight := true } :: rest } }) rfl ha hlength
  refine Comms.DropsFrame.stuck (c := c) (hdrop.rebase (b := c) (f := f) rfl rfl rfl rfl rfl rfl rfl rfl rfl ?_) _
  intro x hx hwait hne
  rw [hq] at hx
  refine ⟨List.mem_cons_of_mem _ ((List.mem_cons.mp hx).resolve_left hne), ?_⟩
  rintro rfl
  cases hwait

end

/-- Settles O32: whichever command brings the third failure, the frame leaves the queue and its end goes to its
block. -/
theorem thirdFailureDropsTheFrame : Obligations.ThirdFailureDropsTheFrame := by
  unfold Obligations.ThirdFailureDropsTheFrame
  intro c f s h hcase ha hlength
  have hdrop : ∃ d, exec c s = done { s with comms := d } ∧
      s.comms.DropsFrame (decide (c ≠ .attemptVoided)) f d := by
    rcases hcase with ⟨rfl | rfl, hf⟩ | ⟨rfl, hs, hf | ⟨hf, hp, hm, hfirst, hk⟩⟩
    · exact ⟨_, rfl, countedFailure_drops (e := s.env) ha hlength hf rfl rfl⟩
    · exact ⟨_, rfl, countedFailure_drops (e := s.env) ha hlength hf rfl rfl⟩
    · exact ⟨_, rfl, stuckExpiry_drops_flight (e := s.env) ha hlength hs hf⟩
    · exact ⟨_, rfl, stuckExpiry_drops_first (e := s.env) ha hlength hs hf hp hm hfirst hk⟩
  obtain ⟨d, hexec, hd⟩ := hdrop
  have hdrops : d.link.unheardDrops =
      if c ≠ .attemptVoided ∧ f.unheard = true then min 3 (s.comms.link.unheardDrops + 1) else 0 := by
    rw [hd.drops, nextUnheard]
    refine if_congr ?_ rfl rfl
    rw [Bool.and_eq_true, decide_eq_true_eq, and_comm]
  exact ⟨_, hexec.trans (done_still h hd.noVent hd.requests hd.bus), rfl, hd.flight, hd.wire, hd.dropped, hdrops,
    hd.state, hd.isolations, hd.plain, hd.lost, hd.reply, hd.notice, hd.report⟩

end Sys2Proof.Machine
end


section
/-! The two resets into COMMISSION, and what a start keeps of the store (R165, R166, R168, R172, R173). -/

namespace Sys2Proof.Machine

/-- A reset keeps whether a valid image stands (R172). -/
theorem Store.storedValid_afterReset (draw : Nat) (x : Store) : (x.afterReset draw).storedValid = x.storedValid := by
  unfold Store.storedValid Store.afterReset
  cases x.storedBad <;> by_cases h : x.status = .commitWrite <;> simp [h]

theorem State.start_of_commission {s : State} {pins : Pins} {kept : Option Kept}
    (h : pins.strapLow = true ∨ s.store.storedValid = false) : s.start pins kept = s.stopped.enterCommission := by
  refine if_pos ?_
  have hvalid : s.stopped.store.storedValid = s.store.storedValid := Store.storedValid_afterReset ..
  rw [hvalid]
  rcases h with h | h <;> simp [h]

theorem State.start_of_operating {s : State} {pins : Pins} {kept : Option Kept}
    (hstrap : pins.strapLow = false) (hvalid : s.store.storedValid = true) :
    s.start pins kept = (s.zoneStarted pins kept).reworkDemand.presentCounts := by
  refine if_neg ?_
  have hkept : s.stopped.store.storedValid = s.store.storedValid := Store.storedValid_afterReset ..
  rw [hkept, hstrap, hvalid]
  nofun

/-- Nothing follows the entry to COMMISSION (R166). -/
theorem done_commission {s : State} {pins : Pins} {kept : Option Kept}
    (h : pins.strapLow = true ∨ s.store.storedValid = false) :
    done (s.start pins kept) = .next { s.stopped.enterCommission with moment := s.moment + 1 } := by
  rw [State.start_of_commission h]
  exact done_of_quiet rfl

/-- The guidance unit at the entry to COMMISSION: the record of sign 0 is on the line (R139, R142). -/
theorem commission_guide (u : Nat) : ((Guide.reset u).markBoth).startRecord.line.map (·.sign) = some 0 ∧
    ((Guide.reset u).markBoth).startRecord.counters = ⟨0, 0, 0, 0, 1⟩ ∧
    (∀ i, (((Guide.reset u).markBoth).startRecord.signs.get i).legend = .counts 0 0) ∧
    ∀ i j, (((Guide.reset u).markBoth).startRecord.signs.get i).slots.get j = .dark := by
  have hnext : ((Guide.reset u).markBoth).nextSign = some 0 :=
    Guide.nextSign_of_other (g := (Guide.reset u).markBoth) (i := 0) (show (1 : Fin 2) ≠ 0 by decide)
      (by simp [Guide.markBoth])
  have hstart := Guide.startRecord_of_some (g := (Guide.reset u).markBoth) rfl hnext
  have hsign (i : Fin 2) : ((Guide.reset u).markBoth.signs.get i) = { Sign.reset with mark := true } := by
    simp [Guide.markBoth, Guide.reset]
  refine ⟨by rw [hstart]; rfl, by rw [hstart]; rfl, fun i => ?_, fun i j => ?_⟩
  · rw [(Guide.startRecord_signs _ i).2, hsign]
    rfl
  · rw [(Guide.startRecord_signs _ i).1, hsign]
    exact Tbl.get_const ..

/-- In COMMISSION the counters read 0 but for those of the link and of the store (R177). -/
theorem counterGroups_of_commission {s : State} (h : s.operating = false)
    (hlink : s.comms.link.counters.list = List.replicate 14 0) (hstore : s.store.counters.list = List.replicate 3 0) :
    ∀ l ∈ s.counterGroups, ∀ n ∈ l, n = 0 := by
  have hread (l : List Nat) : ∀ n ∈ s.readGroup l, n = 0 := by
    rw [State.readGroup, h]
    simp
  have hzero (k : Nat) : ∀ n ∈ List.replicate k 0, n = 0 := fun n hn => List.eq_of_mem_replicate hn
  rw [State.counterGroups, hlink, hstore]
  simp only [List.forall_mem_cons]
  exact ⟨hread _, hread _, hread _, hzero _, hread _, hread _, hread _, hread _, hread _, hread _, hzero _, nofun⟩

/-- Settles O5: the station enters COMMISSION and nothing follows. -/
theorem powerOnResetIntoCommission : Obligations.PowerOnResetIntoCommission := by
  unfold Obligations.PowerOnResetIntoCommission
  intro pins s h
  have hvalid : s.stopped.store.storedValid = s.store.storedValid := Store.storedValid_afterReset ..
  obtain ⟨hline, hcounters, hlegend, hslots⟩ := commission_guide s.stopped.store.settings.unit
  have hgroups := counterGroups_of_commission (s := { s.stopped.enterCommission with moment := s.moment + 1 }) rfl
    rfl rfl
  refine ⟨_, done_commission h, rfl, rfl, fun h => ?_, rfl, rfl, rfl, rfl, fun i => ?_, rfl, rfl, rfl, rfl, rfl, rfl,
    fun n => ?_, fun b => ?_, rfl, rfl, fun k => ?_, rfl, rfl, hslots, hlegend, ?_, hcounters, hline, rfl, rfl, rfl, ?_⟩
  · exact ⟨congrArg Head.state (Tbl.get_const ..), congrArg Head.latest (Tbl.get_const ..)⟩
  · exact ⟨congrArg Fan.state (Tbl.get_const ..), congrArg Fan.duty (Tbl.get_const ..)⟩
  · exact Tbl.get_const ..
  · exact congrArg Bay.state (Tbl.get_const ..)
  · exact ⟨congrArg Channel.level (Tbl.get_const ..), congrArg Channel.target (Tbl.get_const ..)⟩
  · exact fun g l hl => hgroups l (List.mem_of_getElem? hl)
  · exact congrArg (fun b : Bool => if b then s.store.stored else Tbl.const 512 0) hvalid

end Sys2Proof.Machine
end


section
/-! A joining link while a start runs: no fan can start yet, and reports alone are queued (R46, R57, R78). -/

namespace Sys2Proof.Machine

/-! ## The bus side of a start -/

/-- The bus side of a station whose link is JOINING since the entry to OPERATING; `b` is the bus side of that entry. A
fan of it that stood STOPPED may wait for its permit, and no other has changed. -/
structure Comms.Joins (b c : Comms) : Prop where
  state : c.link.state = .joining
  join : c.link.join = b.link.join
  bus : c.link.busFreeCount = b.link.busFreeCount
  release : c.fan.release = none
  lead : c.fan.lead = b.fan.lead
  fans : ∀ i, c.fanAt i = b.fanAt i ∨
    (b.fanAt i).state = .stopped ∧ c.fanAt i = { b.fanAt i with state := .waitPermit }
  reports : ∀ f ∈ c.link.queue, f.payload.isReport = true
  service : c.service = b.service
  notices : c.notices = b.notices

namespace Comms.Joins

variable {b c d : Comms} {e : Env}

/-- A change of the link beside its state, its timer, the bus and the queue. -/
theorem of_link (h : b.Joins c) (hfan : d.fan = c.fan) (hservice : d.service = c.service)
    (hnotices : d.notices = c.notices) (hstate : d.link.state = c.link.state) (hjoin : d.link.join = c.link.join)
    (hbus : d.link.busFreeCount = c.link.busFreeCount)
    (hqueue : ∀ f ∈ d.link.queue, f ∈ c.link.queue ∨ f.payload.isReport = true) : b.Joins d := by
  refine ⟨hstate.trans h.state, hjoin.trans h.join, hbus.trans h.bus, by rw [hfan]; exact h.release,
    by rw [hfan]; exact h.lead, fun i => ?_, fun f hf => (hqueue f hf).elim (h.reports f) id, hservice.trans h.service,
    hnotices.trans h.notices⟩
  have hi : d.fanAt i = c.fanAt i := congrArg (fun fc => fc.fans.get i) hfan
  rw [hi]
  exact h.fans i

theorem reorder (h : b.Joins c) : b.Joins (reorderQueue e c) :=
  h.of_link rfl rfl rfl rfl rfl rfl fun _ hf => .inl ((reorder_perm _ _).mem_iff.mp hf)

/-- A queue of reports alone that holds no report is empty. -/
theorem empty (h : b.Joins c) (hno : c.link.hasReport = false) : c.link.queue = [] := by
  refine List.eq_nil_iff_forall_not_mem.mpr fun f hf => ?_
  have hreport : c.link.hasReport = true := List.any_eq_true.mpr ⟨f, hf, h.reports f hf⟩
  rw [hno] at hreport
  cases hreport

theorem reportEvent (h : b.Joins c) : b.Joins (Machine.reportEvent e c) := by
  unfold Machine.reportEvent
  split
  · exact h
  next hon =>
    split
    · unfold foldReport
      split <;> exact h.of_link rfl rfl rfl rfl rfl rfl fun _ => .inl
    next hno =>
      split
      · exact h.of_link rfl rfl rfl rfl rfl rfl fun _ => .inl
      · have hempty : c.link.queue = [] := h.empty (by simpa using hno)
        rw [offerReport_of_room (fun hs => hon (.inr hs)) (by rw [hempty]; decide)]
        refine h.of_link rfl rfl rfl rfl rfl rfl fun f hf => ?_
        obtain rfl | hf := mem_join.mp hf
        · exact .inr rfl
        · exact .inl hf

/-- While the link joins, nothing follows a change of fans: no notice is queued, and no fan may start (R42, R46). -/
theorem afterFanChange (h : b.Joins c) (old : Comms) : Machine.afterFanChange e old c = c := by
  have hnone : c.queuedNotice = none := by
    have hfind : c.link.queue.find? (fun f => f.payload.isStartNotice && !f.inFlight) = none := by
      rw [List.find?_eq_none]
      intro f hf hnotice
      have hreport := h.reports f hf
      cases hp : f.payload <;> simp_all [Payload.isReport, Payload.isStartNotice]
    unfold Comms.queuedNotice
    rw [hfind]
  have hstays : c.noticeStranded = false := by
    unfold Comms.noticeStranded
    rw [hnone]
  have hlocal : localStarts e c = c := by
    unfold localStarts
    rw [clearRelease_of_none h.release]
    simp only [h.release, h.state, LinkState.startsLocally]
    split <;> rfl
  have htries : ∀ k, tryTimes k e c = c := by
    intro k
    induction k with
    | zero => rfl
    | succ k ih => rw [tryTimes, tryNotice_of_inactive (by rw [h.state]; nofun), ih]
  unfold Machine.afterFanChange
  rw [hstays]
  simp only [Bool.false_eq_true, if_false, hlocal, htries]

end Comms.Joins

/-- The fans of an entry to OPERATING: off, no mark set, and none waiting (R57). -/
def Comms.unstarted (b : Comms) : Prop :=
  ∀ i, (b.fanAt i).handover = false ∧
    ((b.fanAt i).state = .stopped ∨ (b.fanAt i).state = .fault ∨ (b.fanAt i).state = .locked)

/-- A run of selection on a fan that is off and does not wait. -/
theorem Fan.select_unstarted (f : Fan) (h : f.state = .stopped ∨ f.state = .fault ∨ f.state = .locked) (d : Nat)
    (w : Bool) : f.select d w = f ∨ f.state = .stopped ∧ f.select d w = { f with state := .waitPermit } := by
  unfold Fan.select
  rcases h with h | h | h
  · rw [h]
    cases w
    · exact .inl rfl
    · exact .inr ⟨rfl, rfl⟩
  · rw [h]; exact .inl rfl
  · rw [h]; exact .inl rfl

/-- A run of selection on a fan that waits, and stood STOPPED before. -/
theorem Fan.select_waiting (f : Fan) (h : f.state = .stopped) (d : Nat) (w : Bool) :
    ({ f with state := .waitPermit } : Fan).select d w = f ∨
      f.state = .stopped ∧ ({ f with state := .waitPermit } : Fan).select d w = { f with state := .waitPermit } := by
  cases w
  · exact .inl (by rw [Fan.select]; simp [← h])
  · exact .inr ⟨h, rfl⟩

namespace Comms.Joins

variable {b c : Comms} {e : Env}

theorem select (hb : b.unstarted) (h : b.Joins c) : b.Joins (Machine.select e c) := by
  have hselected : b.Joins { c with fan := c.fan.selected e } := by
    refine { h with release := ?_, lead := ?_, fans := fun i => ?_ }
    · exact h.release
    · exact h.lead
    · obtain ⟨hmark, hstate⟩ := hb i
      have hrecord := selected_record e c i
      have hget : ({ c with fan := c.fan.selected e } : Comms).fanAt i = (c.fan.selected e).fans.get i := rfl
      rw [hget, hrecord]
      rcases h.fans i with hsame | ⟨hstop, hwait⟩
      · rw [hsame, Fan.unmarked hmark]
        exact (b.fanAt i).select_unstarted hstate _ _
      · rw [hwait, Fan.unmarked (x := { b.fanAt i with state := .waitPermit }) hmark]
        exact (b.fanAt i).select_waiting hstop _ _
  rw [select_eq, hselected.afterFanChange]
  exact hselected

theorem setStage (hb : b.unstarted) (h : b.Joins c) (n : Nat) : b.Joins (Machine.setStage e n c) :=
  (select hb (c := { c with fan := c.fan.atStage e n }) { h with }).reportEvent

theorem reworkDemand (hb : b.unstarted) (h : b.Joins c) : b.Joins (Machine.reworkDemand e c) := by
  rw [reworkDemand_cases]
  split
  · exact h
  · exact h.setStage hb _

end Comms.Joins

end Sys2Proof.Machine
end


section
/-! A station while a start into OPERATING runs: what the lanes, the zone state and the demand leave of the blocks just
loaded (R2, R57, R102, R128, R152, R162, R167). -/

namespace Sys2Proof.Machine

/-! ## The lamps' levels (R148, R149) -/

/-- Targets may have changed, and no level, nor the ramp and the PWM timer. -/
structure Lamps.Level (x y : Lamps) : Prop where
  level : ∀ k, (y.channels.get k).level = (x.channels.get k).level
  ramp : y.ramp = x.ramp
  pwm : y.pwm = x.pwm

theorem Lamps.Level.refl (x : Lamps) : x.Level x := ⟨fun _ => rfl, rfl, rfl⟩

theorem Lamps.Level.trans {x y z : Lamps} (h : x.Level y) (k : y.Level z) : x.Level z :=
  ⟨fun i => (k.level i).trans (h.level i), k.ramp.trans h.ramp, k.pwm.trans h.pwm⟩

theorem State.onChannel_level (s : State) (k : Fin 8) (f : Channel → Channel) (hf : ∀ ch, (f ch).level = ch.level) :
    s.lamps.Level (s.onChannel k f).lamps := by
  refine ⟨fun j => ?_, rfl, rfl⟩
  by_cases hj : j = k
  · subst hj
    exact (congrArg Channel.level (Tbl.get_modify_self ..)).trans (hf _)
  · exact congrArg Channel.level (Tbl.get_modify_ne _ _ hj)

theorem State.retargetAll_level (s : State) : s.lamps.Level s.retargetAll.lamps :=
  ⟨fun k => (congrArg Channel.level (Tbl.get_mapIdx (fun k ch =>
    Channel.retarget s.forced (s.settings.lamps.get k) ch) s.lamps.channels k)).trans rfl, rfl, rfl⟩

theorem State.lampsZoneChange_level (s : State) (w : Bool) : s.lamps.Level (s.lampsZoneChange w).lamps := by
  unfold State.lampsZoneChange
  dsimp only
  split
  · exact s.retargetAll_level.trans ⟨fun _ => rfl, rfl, rfl⟩
  · exact s.retargetAll_level

theorem State.presenceStart_level (s : State) (k : Option (Fin 8)) : s.lamps.Level (s.presenceStart k).lamps := by
  cases k with
  | none => exact .refl _
  | some k =>
    have hchannel := s.onChannel_level k (fun ch => { ch with lanes := ch.lanes + 1, presence := .held }) fun _ => rfl
    exact ⟨hchannel.level, hchannel.ramp, hchannel.pwm⟩

theorem State.reformLeadInOf_level (s : State) (k : Fin 8) : s.lamps.Level (s.reformLeadInOf k).lamps := by
  unfold State.reformLeadInOf
  dsimp only
  split
  · exact .refl _
  · unfold State.presentLeadIn
    dsimp only
    have hchannel (t : State) (ht : t.lamps = s.lamps) (d : Bool) :
        s.lamps.Level (t.onChannel k fun ch => { ch with leadIn := d }).lamps :=
      ht ▸ t.onChannel_level k _ fun _ => rfl
    split
    · exact (hchannel _ rfl _).trans ⟨fun _ => rfl, rfl, rfl⟩
    · exact hchannel _ rfl _

theorem State.reformLeadIn_level (s : State) : s.lamps.Level s.reformLeadIn.lamps := by
  unfold State.reformLeadIn
  induction List.finRange 8 generalizing s with
  | nil => exact .refl _
  | cons k l ih => exact (s.reformLeadInOf_level k).trans (ih _)

theorem State.startLane_level (s : State) (p : Fin 4) (loops : Loops) :
    s.lamps.Level (s.startLane p loops).lamps := by
  unfold State.startLane
  dsimp only
  split
  · exact State.presenceStart_level ((s.setLane p _).setLane p _) _
  · exact .refl _

/-! ## Heads that stand no request and cannot rest (R4, R9, R13) -/

/-- No head is in ACTIVE or ZEROING, and the converter is idle. -/
def GasFront.asleep (g : GasFront) : Prop :=
  g.converter = .idle ∧ ∀ h, (g.heads.get h).state ≠ .active ∧ (g.heads.get h).state ≠ .zeroing

section
variable {g : GasFront} (hg : g.asleep)
include hg

theorem GasFront.restTest_of_asleep (cfg : Settings) (grave : Bool) (fs : Nat) (h : Fin 4) :
    g.restTest cfg grave fs h = g := by
  have hstate := (hg.2 h).1
  refine if_neg ?_
  simp [GasFront.mayRest, hstate]

theorem GasFront.withdraw_of_asleep (h : Fin 4) : g.withdraw h = g := if_neg (hg.2 h).2

theorem GasFront.arbitrate_of_asleep (cfg : Settings) : g.arbitrate cfg = g := by
  have hnone (k : Fin 4) : requestOf cfg g k = none := by
    obtain ⟨hactive, hzeroing⟩ := hg.2 k
    unfold requestOf
    dsimp only
    cases hs : (g.heads.get k).state <;> simp_all
  have hfirst (l : Level) : g.firstAt cfg l = none := firstAt_eq_none.mpr fun k => by rw [hnone k]; nofun
  have habort : g.abortZero cfg = g := by simp [GasFront.abortZero, hg.1]
  have hgrant : g.nextGrant cfg = none := by simp [GasFront.nextGrant, hfirst]
  rw [GasFront.arbitrate, habort, GasFront.grant, hgrant]
  simp

end

theorem foldl_fixed {α β : Type} {f : β → α → β} {b : β} (h : ∀ a, f b a = b) : ∀ l : List α, l.foldl f b = b
  | [] => rfl
  | a :: l => by rw [List.foldl_cons, h a, foldl_fixed h l]

theorem State.gasZoneChange_of_asleep {s : State} (h : s.gas.asleep) (w : Bool) : s.gasZoneChange w = s := by
  unfold State.gasZoneChange
  split
  · rw [State.onGas, State.restTests, foldl_fixed (fun k => GasFront.restTest_of_asleep h _ _ _ k), GasFront.arbitrate_of_asleep h]
  · split
    · rfl
    · rw [State.onGas, foldl_fixed fun k => GasFront.withdraw_of_asleep h k, GasFront.arbitrate_of_asleep h]

/-! ## A change of zone state that finds no arrival (R126) -/

theorem State.holdRound_of_empty {s : State} (h : s.tracker.list = []) : s.holdRound = s := by
  unfold State.holdRound
  rw [h]
  rfl

theorem State.release_of_unheld {s : State} {b : Fin 48} (h : s.bayState b ≠ .held) : s.release b = s := if_neg h

/-- With no arrival and no bay HELD, a change of zone state re-forms the lead-in demands at most. -/
theorem State.arrivalsZoneChange_of_empty {s : State} (hlist : s.tracker.list = []) (hheld : ∀ b, s.bayState b ≠ .held)
    (w : Bool) : (s.arrivalsZoneChange w).tracker.list = [] ∧ (s.arrivalsZoneChange w).scanner = s.scanner ∧
      (s.arrivalsZoneChange w).comms = s.comms ∧ s.lamps.Level (s.arrivalsZoneChange w).lamps := by
  unfold State.arrivalsZoneChange
  split
  · exact ⟨hlist, rfl, rfl, .refl _⟩
  · split
    · unfold State.clearArrivals
      dsimp only
      generalize hmid : (s.setList []).countArrival (fun k =>
        { k with cleared := bumpBy s.tracker.list.length k.cleared }) = u
      have hscanner : u.reformLeadIn.scanner = s.scanner := by
        rw [show u.reformLeadIn.scanner = u.scanner by simp, ← hmid]
        rfl
      have hbay (b : Fin 48) : u.reformLeadIn.bayState b ≠ .held := by
        unfold State.bayState
        rw [hscanner]
        exact hheld b
      rw [foldl_fixed fun b => State.release_of_unheld (hbay b)]
      refine ⟨?_, hscanner, ?_, ?_⟩
      · rw [u.reformLeadIn_tracker.1, ← hmid]
        rfl
      · simp [← hmid]
      · have hlevel := u.reformLeadIn_level
        rw [show u.lamps = s.lamps by rw [← hmid]; rfl] at hlevel
        exact hlevel
    · rw [State.holdRound_of_empty hlist]
      exact ⟨hlist, rfl, rfl, .refl _⟩

/-! ## The station while a start runs -/

/-- The blocks of an entry to OPERATING, as they are loaded: no head in use, no fan on or waiting, no bay HELD (R2, R57,
R102). -/
structure State.Loaded (b : State) : Prop where
  heads : b.gas.asleep
  fans : b.comms.unstarted
  bays : ∀ i, b.bayState i ≠ .held

/-- What a start into OPERATING leaves, up to its end, of the blocks `b` that it has loaded. -/
structure State.Started (b s : State) : Prop where
  mode : s.mode = b.mode
  settings : s.settings = b.settings
  pending : s.pending = b.pending
  gas : s.gas = b.gas
  fume : s.fume = b.fume
  peers : s.peers = b.peers
  store : s.store = b.store
  comms : b.comms.Joins s.comms
  bays : ∀ i, s.bayState i = b.bayState i
  list : s.tracker.list = []
  lamps : b.lamps.Level s.lamps

namespace State.Started

variable {b s t : State}

/-- A change that leaves all but the guidance, the zone state controller and the clocks to be checked. -/
theorem of_same (h : b.Started s) (hmode : t.mode = s.mode) (hsettings : t.settings = s.settings)
    (hpending : t.pending = s.pending) (hgas : t.gas = s.gas) (hfume : t.fume = s.fume) (hpeers : t.peers = s.peers)
    (hstore : t.store = s.store) (hcomms : b.comms.Joins t.comms) (hbays : ∀ i, t.bayState i = s.bayState i)
    (hlist : t.tracker.list = []) (hlamps : s.lamps.Level t.lamps) : b.Started t :=
  ⟨hmode.trans h.mode, hsettings.trans h.settings, hpending.trans h.pending, hgas.trans h.gas, hfume.trans h.fume,
    hpeers.trans h.peers, hstore.trans h.store, hcomms, fun i => (hbays i).trans (h.bays i), hlist,
    h.lamps.trans hlamps⟩

theorem startLane (h : b.Started s) (p : Fin 4) (loops : Loops) : b.Started (s.startLane p loops) := by
  have hlevel := s.startLane_level p loops
  obtain ⟨lamps, heq, -⟩ := s.startLane_eq p loops
  rw [heq] at hlevel ⊢
  exact h.of_same rfl rfl rfl rfl rfl rfl rfl h.comms (fun _ => rfl) h.list hlevel

theorem startLanes (h : b.Started s) (pins : Pins) (l : List (Fin 4)) :
    b.Started (l.foldl (startLaneOf pins) s) := by
  induction l generalizing s with
  | nil => exact h
  | cons p l ih =>
    refine ih ?_
    unfold startLaneOf
    split
    · exact h.startLane p _
    · exact h

theorem beginScan (h : b.Started s) : b.Started s.beginScan :=
  h.of_same rfl rfl rfl rfl rfl rfl rfl h.comms
    (fun i => (congrArg Bay.state (Tbl.get_map (Bay.resend s.scanner.flashOn) s.scanner.bays i)).trans rfl) h.list
    (.refl _)

theorem reported (h : b.Started s) {c : Comms} (hc : s.comms.Reported c) : b.comms.Joins c := by
  induction hc with
  | refl => exact h.comms
  | tail _ hlast ih =>
    obtain ⟨e, rfl⟩ := hlast
    exact ih.reportEvent

theorem reformGuide (h : b.Started s) : b.Started s.reformGuide :=
  h.of_same (by simp) (by simp) (by simp) (by simp) (by simp) (by simp) (by simp) (h.reported s.reformGuide_reported)
    (fun _ => by simp [State.bayState]) (by simp [h.list]) (by simpa using .refl _)

theorem presentCounts (h : b.Started s) : b.Started s.presentCounts :=
  State.Started.reformGuide (s := { s with guide := { s.guide with own := s.ownOffer } }) { h with }

theorem reportEvent (h : b.Started s) : b.Started s.reportEvent := { h with comms := h.comms.reportEvent }

theorem reworkDemand (hb : b.Loaded) (h : b.Started s) : b.Started s.reworkDemand :=
  { h with comms := h.comms.reworkDemand hb.fans }

theorem zoneEntered (h : b.Started s) (st : ZoneState) : b.Started (s.zoneEntered st) := by
  unfold State.zoneEntered
  dsimp only
  split
  · exact { h with }
  · exact { h with comms := h.comms.reorder }

theorem reformIndicators (h : b.Started s) : b.Started s.reformIndicators :=
  h.of_same rfl rfl rfl rfl rfl rfl rfl h.comms
    (fun i => (congrArg Bay.state (Tbl.get_mapIdx (fun i (b : Bay) => b.reform s.grave s.scanner.flashOn
      (s.settings.bays.get i).cls) s.scanner.bays i)).trans rfl) h.list (.refl _)

theorem arrivalsZoneChange (hb : b.Loaded) (h : b.Started s) (w : Bool) : b.Started (s.arrivalsZoneChange w) := by
  obtain ⟨hlist, hscanner, hcomms, hlevel⟩ := State.arrivalsZoneChange_of_empty h.list
    (fun i => by rw [h.bays i]; exact hb.bays i) w
  exact h.of_same (by simp) (by simp) (by simp) (by simp) (by simp) (by simp) (by simp) (hcomms ▸ h.comms)
    (fun _ => by rw [State.bayState, hscanner]; rfl) hlist hlevel

theorem setZone (hb : b.Loaded) (h : b.Started s) (st : ZoneState) : b.Started (s.setZone st) := by
  have harrivals := (h.zoneEntered st).reformIndicators.arrivalsZoneChange hb s.grave
  have hlit : b.Started (s.zoneLit st) := by
    unfold State.zoneLit
    rw [State.gasZoneChange_of_asleep (by rw [harrivals.gas]; exact hb.heads)]
    exact harrivals.of_same (by simp) (by simp) (by simp) (by simp) (by simp) (by simp) (by simp)
      (by simpa using harrivals.comms) (fun _ => by simp [State.bayState]) (by simp [harrivals.list])
      (State.lampsZoneChange_level _ _)
  rw [State.setZone_eq]
  exact (State.Started.reworkDemand hb hlit.reformGuide).reportEvent

theorem evaluate (hb : b.Loaded) (h : b.Started s) : b.Started s.evaluate := by
  unfold State.evaluate
  split
  · exact h
  · exact h.setZone hb _

theorem startZone (hb : b.Loaded) (h : b.Started s) (pins : Pins) : b.Started (s.startZone pins) :=
  State.Started.evaluate (s := { s with zone := _ }) hb { h with }

theorem ventSettle (hb : b.Loaded) (h : b.Started s) : b.Started s.ventSettle := by
  unfold State.ventSettle
  split
  · exact State.Started.evaluate (s := { s with zone := _ }) hb { h with }
  · exact h

end State.Started

/-- A fan's record at the entry to OPERATING (R57). -/
theorem startFanRecord_unstarted (cfg : FanCfg) (locked : Bool) (kept : Option Fan) :
    (startFanRecord cfg locked kept).handover = false ∧ ((startFanRecord cfg locked kept).state = .stopped ∨
      (startFanRecord cfg locked kept).state = .fault ∨ (startFanRecord cfg locked kept).state = .locked) := by
  unfold startFanRecord
  split
  · exact ⟨rfl, .inl rfl⟩
  · split
    · exact ⟨rfl, .inr (.inr rfl)⟩
    · split
      · split
        · exact ⟨rfl, .inr (.inl rfl)⟩
        · exact ⟨rfl, .inl rfl⟩
      · exact ⟨rfl, .inl rfl⟩

/-- A head's record at the entry to OPERATING (R2). -/
theorem startHead_asleep (cfg : HeadCfg) (kept : Option Head) :
    (startHead cfg kept).state ≠ .active ∧ (startHead cfg kept).state ≠ .zeroing := by
  unfold startHead
  split
  · exact ⟨nofun, nofun⟩
  · split
    next x =>
      split
      next hfault =>
        unfold Head.faulted at hfault
        dsimp only
        constructor <;> intro hs <;> simp [hs] at hfault
      · exact ⟨nofun, nofun⟩
    · exact ⟨nofun, nofun⟩

/-- A bay's record at the entry to OPERATING (R102). -/
theorem startBay_entry (cfg : BayCfg) : (startBay cfg).state =
    if !cfg.inUse then .unused else if cfg.closed then .closed else .unknown := by
  unfold startBay
  split
  · rfl
  · split <;> rfl

section
variable (s : State) (kept : Option Kept)

/-- The blocks that a start of the station loads (R167). -/
abbrev State.loaded : State := s.stopped.loadBlocks kept

theorem State.loaded_head (h : Fin 4) : (s.loaded kept).gas.heads.get h =
    startHead ((settingsOf s.store.stored).heads.get h) (kept.map fun k => k.heads.get h) := Tbl.get_ofFn ..

theorem State.loaded_fan (i : Fin 4) : (s.loaded kept).comms.fanAt i =
    startFanRecord ((settingsOf s.store.stored).fans.get i)
      (lockRead (settingsOf s.store.stored).fans (s.loaded kept).store.lockRecord i) (kept.map fun k => k.fans.get i) :=
  Tbl.get_ofFn ..

theorem State.loaded_bay (b : Fin 48) : (s.loaded kept).bayState b =
    if !((settingsOf s.store.stored).bays.get b).inUse then .unused
    else if ((settingsOf s.store.stored).bays.get b).closed then .closed else .unknown :=
  (congrArg Bay.state (Tbl.get_ofFn ..)).trans (startBay_entry _)

theorem State.loaded_loaded : (s.loaded kept).Loaded where
  heads := ⟨rfl, fun h => by rw [s.loaded_head]; exact startHead_asleep _ _⟩
  fans i := by rw [s.loaded_fan]; exact startFanRecord_unstarted _ _ _
  bays i := by
    rw [s.loaded_bay]
    split
    · nofun
    · split <;> nofun

theorem State.loaded_started : (s.loaded kept).Started (s.loaded kept) where
  mode := rfl
  settings := rfl
  pending := rfl
  gas := rfl
  fume := rfl
  peers := rfl
  store := rfl
  comms := ⟨rfl, rfl, rfl, rfl, rfl, fun _ => .inl rfl, nofun, rfl, rfl⟩
  bays _ := rfl
  list := rfl
  lamps := .refl _

variable (pins : Pins)

theorem State.zoneStarted_started : (s.loaded kept).Started (s.zoneStarted pins kept) :=
  (((s.loaded_started kept).startLanes pins (List.finRange 4)).beginScan).startZone (s.loaded_loaded kept) pins

/-- The station at the end of a start into OPERATING, NO_VENT told (R157, R167). -/
def State.startDone : State := (s.zoneStarted pins kept).reworkDemand.presentCounts.ventSettle

theorem State.startDone_started : (s.loaded kept).Started (s.startDone kept pins) :=
  ((s.zoneStarted_started kept pins).reworkDemand (s.loaded_loaded kept)).presentCounts.ventSettle (s.loaded_loaded kept)

variable {s kept pins}

/-- A start into OPERATING ends with NO_VENT told. -/
theorem done_operating (hstrap : pins.strapLow = false) (hvalid : s.store.storedValid = true) :
    ∃ m, done (s.start pins kept) = .next { s.startDone kept pins with moment := m } := by
  have hbefore : (s.loaded kept).Started (s.zoneStarted pins kept).reworkDemand.presentCounts :=
    ((s.zoneStarted_started kept pins).reworkDemand (s.loaded_loaded kept)).presentCounts
  have hqueue : (s.zoneStarted pins kept).reworkDemand.presentCounts.comms.service.queue = [] := by
    rw [hbefore.comms.service]; rfl
  have hbus : (s.zoneStarted pins kept).reworkDemand.presentCounts.comms.link.busFreeCount ≠ Config.busFreeBits := by
    rw [hbefore.comms.bus]; nofun
  rw [State.start_of_operating hstrap hvalid]
  exact ⟨_, done_of_settle (State.settle_of_busy hqueue hbus)⟩

end

end Sys2Proof.Machine
end


section
/-! The two resets into OPERATING: the stage, the zone state, the fans and the store at the end of the start (R57, R165,
R167, R168, R173). -/

namespace Sys2Proof.Machine

/-! ## A zone state entered, before any block has taken it (R84, R161) -/

/-- Of all blocks the zone state controller and the queue's order alone have changed. -/
@[simp] theorem State.zoneEntered_fields (s : State) (st : ZoneState) :
    (s.zoneEntered st).mode = s.mode ∧ (s.zoneEntered st).settings = s.settings ∧ (s.zoneEntered st).now = s.now ∧
    (s.zoneEntered st).gas = s.gas ∧ (s.zoneEntered st).fume = s.fume ∧ (s.zoneEntered st).peers = s.peers ∧
    (s.zoneEntered st).scanner = s.scanner ∧ (s.zoneEntered st).tracker = s.tracker ∧
    (s.zoneEntered st).guide = s.guide ∧ (s.zoneEntered st).lamps = s.lamps ∧
    (s.zoneEntered st).zone = s.zone.enter s.settings st ∧ (s.zoneEntered st).store = s.store ∧
    (s.zoneEntered st).pending = s.pending := by
  unfold State.zoneEntered
  dsimp only
  split <;> exact ⟨rfl, rfl, rfl, rfl, rfl, rfl, rfl, rfl, rfl, rfl, rfl, rfl, rfl⟩

/-! ## The stage with a gas INVALID (R37, R38) -/

theorem failSafe_le_stageAfter {e : Env} {fc : FanCtl} (ho : e.operating = true) (hinvalid : e.invalid = true)
    (hle : e.settings.failSafe ≤ 4) : e.settings.failSafe ≤ stageAfter e fc := by
  have hdemand : e.settings.failSafe ≤ demand e fc := by
    unfold demand
    split
    · exact hle
    · exact (le_max_right _ _).trans (le_max_left _ _)
  unfold stageAfter
  rw [ho]
  simp only [Bool.not_true, Bool.false_eq_true, if_false]
  split
  · exact hdemand
  · split <;> omega

/-- The station reads a fitted gas INVALID while OPERATING. -/
def State.gasLost (s : State) : Prop := s.operating = true ∧ s.env.invalid = true ∧ s.settings.failSafe ≤ 4

section
variable {s t : State}

theorem State.gasLost_congr (h : s.gasLost) (hmode : t.mode = s.mode) (hset : t.settings = s.settings)
    (hfume : t.fume = s.fume) : t.gasLost := by
  unfold State.gasLost State.operating State.env State.invalid State.operating at *
  rw [hmode, hset, hfume]
  exact h

theorem State.gasLost.reworkDemand (h : s.gasLost) : s.settings.failSafe ≤ s.reworkDemand.comms.fan.stage := by
  obtain ⟨ho, hinvalid, hle⟩ := h
  have hstage : s.reworkDemand.comms.fan.stage = stageAfter s.env s.comms.fan := reworkDemand_stage ..
  rw [hstage]
  exact failSafe_le_stageAfter (e := s.env) ho hinvalid hle

theorem State.gasLost.setZone (h : s.gasLost) (st : ZoneState) :
    s.settings.failSafe ≤ (s.setZone st).comms.fan.stage := by
  have hset : (s.zoneLit st).presentZone.settings = s.settings := by simp [State.zoneLit]
  have hlost : (s.zoneLit st).presentZone.gasLost :=
    State.gasLost_congr h (by simp [State.zoneLit]) hset
      (by simp [State.zoneLit])
  have hstage := hlost.reworkDemand
  rw [hset] at hstage
  rw [State.setZone_eq]
  exact hstage.trans_eq (by simp [State.reportEvent, State.onComms])

theorem State.gasLost.evaluate (h : s.gasLost) (hle : s.settings.failSafe ≤ s.comms.fan.stage) :
    s.settings.failSafe ≤ s.evaluate.comms.fan.stage := by
  unfold State.evaluate
  split
  · exact hle
  · exact h.setZone _

theorem State.gasLost.ventSettle (h : s.gasLost) (hle : s.settings.failSafe ≤ s.comms.fan.stage) :
    s.settings.failSafe ≤ s.ventSettle.comms.fan.stage := by
  unfold State.ventSettle
  split
  · exact State.gasLost.evaluate (s := { s with zone := { s.zone with ventCause := s.comms.fan.noVent } })
      (State.gasLost_congr h rfl rfl rfl) hle
  · exact hle

theorem State.presentCounts_reported (s : State) : s.comms.Reported s.presentCounts.comms :=
  ({ s with guide := { s.guide with own := s.ownOffer } } : State).reformGuide_reported

/-- The demand worked out again, the guidance re-formed and NO_VENT told. -/
theorem State.gasLost.settled (h : s.gasLost) :
    s.settings.failSafe ≤ s.reworkDemand.presentCounts.ventSettle.comms.fan.stage := by
  have hcounts := s.reworkDemand.presentCounts_reported
  have hset : s.reworkDemand.presentCounts.settings = s.settings := by simp [State.reworkDemand, State.onComms]
  have hlost : s.reworkDemand.presentCounts.gasLost :=
    State.gasLost_congr h (by simp [State.reworkDemand, State.onComms]) hset
      (by simp [State.reworkDemand, State.onComms])
  have hcounted : s.reworkDemand.presentCounts.settings.failSafe ≤ s.reworkDemand.presentCounts.comms.fan.stage := by
    rw [hcounts.starts.stage, hset]
    exact h.reworkDemand
  have hsettled := hlost.ventSettle hcounted
  rw [hset] at hsettled
  exact hsettled

end

/-! ## The zone state of a start (R158, R162) -/

theorem ZoneCtl.evaluated_of_purge {cfg : Settings} {z : ZoneCtl} (h : z.purgeIn = true) :
    (z.evaluated cfg).state = .purge := by
  rw [ZoneCtl.evaluated_state, ZoneCtl.evaluation, h, if_pos rfl]

theorem ZoneCtl.evaluated_of_gas {cfg : Settings} {z : ZoneCtl} (hp : z.purgeIn = false) (hs : z.state.grave = false)
    (hlow : z.fsLast < cfg.alarmOn) (hg : (z.gasCause.co || z.gasCause.no2) = true) :
    (z.evaluated cfg).state = .divert := by
  have hcause : z.causeHolds = true := by
    unfold ZoneCtl.causeHolds
    rw [Bool.or_assoc z.scoreCause, hg]
    simp
  rw [ZoneCtl.evaluated_state, ZoneCtl.evaluation_of_calm hp hs, if_neg (Nat.not_le.mpr hlow), ZoneCtl.byCauses,
    hcause, if_pos rfl]

/-- The zone state that a start forms from the PURGE input and the causes, FS being 0 (R162). -/
structure ZoneCtl.Begun (cfg : Settings) (purge gas : Bool) (z : ZoneCtl) : Prop where
  purgeIn : z.purgeIn = purge
  fs : z.fsLast = 0
  cause : (z.gasCause.co || z.gasCause.no2) = gas
  purged : purge = true → z.state = .purge
  diverted : purge = false → gas = true → z.state = .divert

theorem ZoneCtl.Begun.evaluated {cfg : Settings} {purge gas : Bool} {z : ZoneCtl} (hp : z.purgeIn = purge)
    (hfs : z.fsLast = 0) (hg : (z.gasCause.co || z.gasCause.no2) = gas) (hon : 0 < cfg.alarmOn)
    (hs : purge = false → gas = true → z.state.grave = false) : ZoneCtl.Begun cfg purge gas (z.evaluated cfg) := by
  refine ⟨by simp [hp], by simp [hfs], by simp [hg], fun h => ?_, fun h hgas => ?_⟩
  · exact ZoneCtl.evaluated_of_purge (hp.trans h)
  · exact ZoneCtl.evaluated_of_gas (hp.trans h) (hs h hgas) (by rw [hfs]; exact hon) (hg.trans hgas)

theorem State.ventSettle_begun {s : State} {purge gas : Bool} (hon : 0 < s.settings.alarmOn)
    (h : ZoneCtl.Begun s.settings purge gas s.zone) : ZoneCtl.Begun s.settings purge gas s.ventSettle.zone := by
  unfold State.ventSettle
  split
  · rw [State.evaluate_zone]
    exact ZoneCtl.Begun.evaluated (z := { s.zone with ventCause := s.comms.fan.noVent }) h.purgeIn h.fs h.cause hon
      fun hp hg => by rw [show s.zone.state = _ from h.diverted hp hg]; rfl
  · exact h

theorem State.startZone_begun {u : State} {pins : Pins} {gas : Bool} (hzone : u.zone = ZoneCtl.reset)
    (hgas : (u.invalid .co || u.invalid .no2) = gas) (hon : 0 < u.settings.alarmOn) :
    ZoneCtl.Begun u.settings pins.purge gas (u.startZone pins).zone := by
  unfold State.startZone
  rw [State.evaluate_zone, hzone]
  exact ZoneCtl.Begun.evaluated rfl rfl hgas hon fun _ _ => rfl

section
variable (s : State) (kept : Option Kept) (pins : Pins)

/-- The station with its blocks loaded, the lanes and the first scan started (R102, R110, R167). -/
def State.scanStarted : State := ((List.finRange 4).foldl (startLaneOf pins) (s.loaded kept)).beginScan

theorem State.zoneStarted_eq : s.zoneStarted pins kept = (s.scanStarted kept pins).startZone pins := rfl

theorem State.scanStarted_started : (s.loaded kept).Started (s.scanStarted kept pins) :=
  ((s.loaded_started kept).startLanes pins (List.finRange 4)).beginScan

/-- Before the zone state is formed its controller stands as after a reset (R162). -/
theorem State.scanStarted_zone : (s.scanStarted kept pins).zone = ZoneCtl.reset := by
  have hlane (t : State) (p : Fin 4) : (startLaneOf pins t p).zone = t.zone := by
    unfold startLaneOf
    split <;> simp
  have hlanes := foldl_keeps (fun t : State => t.zone) (startLaneOf pins) hlane (List.finRange 4) (s.loaded kept)
  have hscan (t : State) : t.beginScan.zone = t.zone := rfl
  rw [State.scanStarted, hscan]
  exact hlanes

/-- The gas causes that a start presents: every fitted gas is INVALID (R33, R157). -/
theorem State.Started.gasCause {b t : State} (h : b.Started t) (hmode : b.mode = .operating)
    (hvalid : ∀ g, (b.fume.gases.get g).valid = false) (g : Gas) : t.invalid g = b.settings.fitted g := by
  unfold State.invalid State.operating
  rw [h.mode, hmode, h.settings, h.fume, hvalid g]
  simp

theorem State.loaded_invalid (g : Gas) : ((s.loaded kept).fume.gases.get g).valid = false := by
  cases g <;> rfl

theorem State.zoneStarted_begun (hon : 0 < (s.loaded kept).settings.alarmOn) :
    ZoneCtl.Begun (s.loaded kept).settings pins.purge
      ((s.loaded kept).settings.fitted .co || (s.loaded kept).settings.fitted .no2) (s.zoneStarted pins kept).zone := by
  have hbefore := s.scanStarted_started kept pins
  have hgas := hbefore.gasCause rfl (s.loaded_invalid kept)
  rw [State.zoneStarted_eq]
  generalize hu : s.scanStarted kept pins = u at *
  have hzone : u.zone = ZoneCtl.reset := hu ▸ s.scanStarted_zone kept pins
  have hbegun := State.startZone_begun (pins := pins) hzone
    (congrArg₂ (· || ·) (hgas .co) (hgas .no2)) (by rw [hbefore.settings]; exact hon)
  rw [hbefore.settings] at hbegun
  exact hbegun

theorem State.startDone_begun (hon : 0 < (s.loaded kept).settings.alarmOn) :
    ZoneCtl.Begun (s.loaded kept).settings pins.purge
      ((s.loaded kept).settings.fitted .co || (s.loaded kept).settings.fitted .no2) (s.startDone kept pins).zone := by
  have hset : (s.zoneStarted pins kept).reworkDemand.presentCounts.settings = (s.loaded kept).settings :=
    ((s.zoneStarted_started kept pins).reworkDemand (s.loaded_loaded kept)).presentCounts.settings
  have hbegun := s.zoneStarted_begun kept pins hon
  have hzone : (s.zoneStarted pins kept).reworkDemand.presentCounts.zone = (s.zoneStarted pins kept).zone := by
    rw [show (s.zoneStarted pins kept).reworkDemand.presentCounts.zone = (s.zoneStarted pins kept).reworkDemand.zone by
      simp]
    rfl
  rw [← hzone, ← hset] at hbegun
  have hdone := State.ventSettle_begun (hset ▸ hon) hbegun
  rw [hset] at hdone hbegun
  exact hdone

/-- The stage at the end of a start meets the fail-safe stage of a fitted gas (R37). -/
theorem State.startDone_stage (hfitted : ((s.loaded kept).settings.fitted .co ||
      (s.loaded kept).settings.fitted .no2) = true) (hle : (s.loaded kept).settings.failSafe ≤ 4) :
    (s.loaded kept).settings.failSafe ≤ (s.startDone kept pins).comms.fan.stage := by
  have hstarted := s.zoneStarted_started kept pins
  have hlost : (s.zoneStarted pins kept).gasLost := by
    refine ⟨?_, ?_, by rw [hstarted.settings]; exact hle⟩
    · unfold State.operating
      rw [hstarted.mode]
      rfl
    · have hgas := hstarted.gasCause rfl (s.loaded_invalid kept)
      exact (congrArg₂ (· || ·) (hgas .co) (hgas .no2)).trans hfitted
  have hsettled := hlost.settled
  rw [hstarted.settings] at hsettled
  exact hsettled

end

/-! ## The records of the entry (R2, R57, R167) -/

section
variable {s : State} {kept : Option Kept} {pins : Pins} {i : Fin 4}

/-- No fan's drive is on at the end of a start (R57). -/
theorem State.startDone_off (i : Fin 4) : ((s.startDone kept pins).comms.fanAt i).driveOn = false := by
  have hrecord := (s.startDone_started kept pins).comms.fans i
  have hoff := ((s.loaded_loaded kept).fans i).2
  rcases hrecord with hsame | ⟨-, hwait⟩
  · rw [hsame, Fan.driveOn]
    rcases hoff with h | h | h <;> rw [h]
  · rw [hwait]
    rfl

/-- A fan that the entry has put into FAULT or LOCKED stays as it was put. -/
theorem State.startDone_shut (h : ((s.loaded kept).comms.fanAt i).state ≠ .stopped) :
    (s.startDone kept pins).comms.fanAt i = (s.loaded kept).comms.fanAt i :=
  ((s.startDone_started kept pins).comms.fans i).resolve_right fun hwait => h hwait.1

theorem startHead_new (cfg : HeadCfg) : startHead cfg none =
    if cfg.present then ⟨.warming, none, cfg.zc, 0, .running Config.warmUpMs, .stopped, .stopped⟩ else Head.absent := by
  unfold startHead
  cases cfg.present <;> rfl

theorem startFanRecord_of_locked {cfg : FanCfg} (hp : cfg.present = true) {x : Option Fan} {locked : Bool}
    (hl : locked = true) : startFanRecord cfg locked x = { Fan.stopped with state := .locked } := by
  simp [startFanRecord, hp, hl]

theorem lockRecordErased_iff (r : LockRecord) : lockRecordErased r = true ↔ r = Tbl.const 5 0xFF := by
  rw [lockRecordErased, List.all_eq_true]
  constructor
  · intro h
    refine Tbl.ext_get fun i => ?_
    rw [Tbl.get_const]
    exact eq_of_beq (h _ (List.getElem_mem _))
  · rintro rfl
    simp [Tbl.const]

/-- A record that no start can read (R167). -/
theorem lockRecordBad_iff (fans : Tbl 4 FanCfg) (r : LockRecord) : lockRecordBad fans r = true ↔
    r ≠ Tbl.const 5 0xFF ∧ (r.get 4 ≠ crc8 (r.cells.take 4) ∨
      ∃ i : Fin 4, (fans.get i).present = true ∧ r.get (i.castLE (by decide)) ≠ 0x5A ∧
        r.get (i.castLE (by decide)) ≠ 0xA5) := by
  rw [lockRecordBad, Bool.and_eq_true, Bool.not_eq_true', ← Bool.not_eq_true, lockRecordErased_iff]
  simp [lockByteAt, and_assoc]

end

/-- Settles O6: the start loads the blocks, and the lanes, the zone state and the demand leave them as loaded but for
the stage, the targets and the fans that wait for a permit. -/
theorem powerOnResetIntoOperating : Obligations.PowerOnResetIntoOperating := by
  unfold Obligations.PowerOnResetIntoOperating
  intro pins s hstrap hvalid hon hle
  obtain ⟨m, hdone⟩ := done_operating (s := s) (kept := none) hstrap hvalid
  have hstarted := s.startDone_started none pins
  have hbegun := s.startDone_begun none pins hon
  have hstage := s.startDone_stage none pins
  have hoff := fun i => State.startDone_off (s := s) (kept := none) (pins := pins) i
  have hshut := fun i => State.startDone_shut (s := s) (kept := none) (pins := pins) (i := i)
  generalize s.startDone none pins = u at *
  obtain ⟨hmode, hset, hpending, hgas, hfume, hpeers, hstore, hcomms, hbays, hlist, hlamps⟩ := hstarted
  refine ⟨_, hdone, ?_⟩
  dsimp only
  rw [hset, hfume, hstore, hgas, hpeers]
  refine ⟨hmode, hpending, rfl, fun h => ?_, rfl, fun g => ?_, rfl, rfl, rfl, rfl, rfl, hcomms.lead, fun i hp hl => ?_,
    hoff, fun hfitted => hstage hfitted hle, hcomms.state, hcomms.join, hcomms.service, hcomms.notices,
    fun n => Tbl.get_const .., fun b => (hbays b).trans (s.loaded_bay none b), hlist, hbegun.purged, hbegun.diverted,
    fun k => ?_, hlamps.ramp, hlamps.pwm, rfl, rfl, rfl, fun hlock => ?_, lockRecordBad_iff _ _⟩
  · exact (s.loaded_head none h).trans (startHead_new _)
  · cases g <;> exact ⟨rfl, rfl⟩
  · have hlocked : (s.loaded none).comms.fanAt i = { Fan.stopped with state := .locked } :=
      (s.loaded_fan none i).trans (startFanRecord_of_locked hp hl)
    rw [hshut i (by rw [hlocked]; nofun), hlocked]
  · exact (hlamps.level k).trans (congrArg Channel.level (Tbl.get_ofFn ..))
  · unfold State.loaded State.loadBlocks State.stopped Store.afterReset Store.recordAfterReset
    dsimp only
    split
    next r hr => exact absurd hr (hlock r)
    next => rfl

end Sys2Proof.Machine
end


section
/-! A restart: what it keeps of the heads, the fans and the lead order (R2, R57, R173). -/

namespace Sys2Proof.Machine

theorem exec_restartTaken_of_due {s : State} (pins : Pins) (h : s.restartDue = true) :
    exec (.restartTaken pins) s = done (s.start pins s.kept) := congrArg done (if_pos h)

theorem startHead_of_faulted {cfg : HeadCfg} {x : Head} (hp : cfg.present = true) (hf : x.faulted = true) :
    startHead cfg (some x) = ⟨x.state, none, cfg.zc, 0, .stopped, .stopped, .stopped⟩ := by
  simp [startHead, hp, hf]

theorem startHead_of_sound {cfg : HeadCfg} {x : Head} (hp : cfg.present = true) (hf : x.faulted = false) :
    (startHead cfg (some x)).state = .warming := by
  simp [startHead, hp, hf]

theorem startFanRecord_of_fault {cfg : FanCfg} {x : Fan} (hp : cfg.present = true) (hf : x.state = .fault) :
    startFanRecord cfg false (some x) = { Fan.stopped with state := .fault, cause := x.cause } := by
  simp [startFanRecord, hp, hf]

/-- A start that keeps nothing holds no fan's fault (R57, R173). -/
theorem startFanRecord_new (cfg : FanCfg) (locked : Bool) :
    (startFanRecord cfg locked none).state ≠ .fault ∧ (startFanRecord cfg locked none).cause = none := by
  unfold startFanRecord
  split
  · exact ⟨nofun, rfl⟩
  · split <;> exact ⟨nofun, rfl⟩

section
variable (pins : Pins) (s : State)

/-- What a restart leaves of a head that the start has loaded (R2). -/
theorem State.startDone_head (kept : Option Kept) (h : Fin 4) : (s.startDone kept pins).gas.heads.get h =
    startHead ((s.startDone kept pins).settings.heads.get h) (kept.map fun k => k.heads.get h) := by
  have hstarted := s.startDone_started kept pins
  rw [hstarted.gas, hstarted.settings]
  exact s.loaded_head kept h

theorem State.startDone_lead (kept : Option Kept) :
    (s.startDone kept pins).comms.fan.lead = (kept.map Kept.lead).getD (s.startDone kept pins).settings.lead := by
  have hstarted := s.startDone_started kept pins
  rw [hstarted.settings, hstarted.comms.lead]
  cases kept <;> rfl

/-- A fan whose FAULT is kept, and which the lock record does not show locked, stands in FAULT (R57). -/
theorem State.startDone_fault {k : Kept} {i : Fin 4}
    (hp : ((s.startDone (some k) pins).settings.fans.get i).present = true)
    (hl : lockRead (s.startDone (some k) pins).settings.fans (s.startDone (some k) pins).store.lockRecord i = false)
    (hf : (k.fans.get i).state = .fault) :
    (s.startDone (some k) pins).comms.fanAt i =
      { Fan.stopped with state := .fault, cause := (k.fans.get i).cause } := by
  have hstarted := s.startDone_started (some k) pins
  have hshut := s.startDone_shut (kept := some k) (pins := pins) (i := i)
  rw [hstarted.settings] at hp hl
  rw [hstarted.store] at hl
  have hrecord : (s.loaded (some k)).comms.fanAt i =
      { Fan.stopped with state := .fault, cause := (k.fans.get i).cause } := by
    refine (s.loaded_fan (some k) i).trans ?_
    rw [show lockRead (settingsOf s.store.stored).fans (s.loaded (some k)).store.lockRecord i = false from hl]
    exact startFanRecord_of_fault hp hf
  rw [hshut (by rw [hrecord]; nofun), hrecord]

/-- A start that keeps nothing leaves no fan in FAULT (R57, R173). -/
theorem State.startDone_newFan (i : Fin 4) : ((s.startDone none pins).comms.fanAt i).state ≠ .fault ∧
    ((s.startDone none pins).comms.fanAt i).cause = none := by
  have hstarted := s.startDone_started none pins
  have hnew := startFanRecord_new ((settingsOf s.store.stored).fans.get i)
    (lockRead (settingsOf s.store.stored).fans (s.loaded none).store.lockRecord i)
  rcases hstarted.comms.fans i with hsame | ⟨-, hwait⟩
  · rw [hsame, s.loaded_fan]
    exact hnew
  · rw [hwait]
    refine ⟨nofun, ?_⟩
    dsimp only
    rw [s.loaded_fan]
    exact hnew.2

end

/-- A restart into COMMISSION leaves no fault and the configured lead order (R173). -/
theorem stopped_enterCommission_faultless (s : State) :
    (∀ h, (s.stopped.enterCommission.gas.heads.get h).state = .absent) ∧
    (∀ i, (s.stopped.enterCommission.comms.fanAt i).state = .stopped ∧
      (s.stopped.enterCommission.comms.fanAt i).cause = none) ∧
    s.stopped.enterCommission.comms.fan.lead = s.stopped.store.settings.lead :=
  ⟨fun _ => congrArg Head.state (Tbl.get_const ..), fun _ =>
    ⟨congrArg Fan.state (Tbl.get_const ..), congrArg Fan.cause (Tbl.get_const ..)⟩, rfl⟩

/-- Settles O7: the start loads what is kept, and what follows it in the start leaves heads, faulted fans and the lead
order. -/
theorem restartKeepsLatchedFaultsAndTheLead : Obligations.RestartKeepsLatchedFaultsAndTheLead := by
  unfold Obligations.RestartKeepsLatchedFaultsAndTheLead
  intro pins s hrest
  refine ⟨fun hdue ho hstrap hvalid => ?_, fun hdue ho hstrap hvalid => ?_, fun hdue hcom => ?_, fun hdue => ?_⟩
  · have hkept : s.kept = some ⟨s.gas.heads, s.comms.fan.fans, s.comms.fan.lead⟩ := if_pos ho
    obtain ⟨m, hdone⟩ := done_operating (s := s) (kept := s.kept) hstrap hvalid
    rw [exec_restartTaken_of_due pins hdue, hdone, hkept]
    have hstarted := s.startDone_started (some ⟨s.gas.heads, s.comms.fan.fans, s.comms.fan.lead⟩) pins
    have hhead := s.startDone_head pins (some ⟨s.gas.heads, s.comms.fan.fans, s.comms.fan.lead⟩)
    have hlead := s.startDone_lead pins (some ⟨s.gas.heads, s.comms.fan.fans, s.comms.fan.lead⟩)
    have hfault := fun i => s.startDone_fault pins (k := ⟨s.gas.heads, s.comms.fan.fans, s.comms.fan.lead⟩) (i := i)
    generalize s.startDone (some ⟨s.gas.heads, s.comms.fan.fans, s.comms.fan.lead⟩) pins = u at *
    exact ⟨{ u with moment := m }, rfl, hstarted.mode, hstarted.settings, hlead, hstarted.comms.service,
      hstarted.comms.state, fun h hp hf => (hhead h).trans (startHead_of_faulted hp hf),
      fun h hp hf => (congrArg Head.state (hhead h)).trans (startHead_of_sound hp hf),
      fun i hp hl hf => ⟨congrArg Fan.state (hfault i hp hl hf), (congrArg Fan.cause (hfault i hp hl hf)).trans rfl⟩⟩
  · have hkept : s.kept = none := if_neg (by rw [ho]; nofun)
    obtain ⟨m, hdone⟩ := done_operating (s := s) (kept := s.kept) hstrap hvalid
    rw [exec_restartTaken_of_due pins hdue, hdone, hkept]
    have hstarted := s.startDone_started none pins
    have hhead := s.startDone_head pins none
    have hlead := s.startDone_lead pins none
    have hfan := s.startDone_newFan pins
    generalize s.startDone none pins = u at *
    refine ⟨{ u with moment := m }, rfl, hstarted.mode, hstarted.settings, hlead, fun h => ?_, hfan⟩
    exact (congrArg Head.state ((hhead h).trans (startHead_new _))).trans (apply_ite Head.state _ _ _)
  · obtain ⟨hheads, hfans, hlead⟩ := stopped_enterCommission_faultless s
    have hvalid : s.stopped.store.storedValid = s.store.storedValid := Store.storedValid_afterReset ..
    rw [exec_restartTaken_of_due pins hdue, done_commission hcom]
    refine ⟨_, rfl, rfl, hheads, hfans, hlead.trans ?_⟩
    rw [Store.settings, hvalid]
    split <;> rfl
  · have hexec : exec (.restartTaken pins) s = done s := congrArg done (if_neg (by rw [hdue]; nofun))
    rw [hexec]
    exact done_of_atRest hrest

end Sys2Proof.Machine
end


section
/-! PURGE and the alarm hold: what a change of the zone state brings to every block (R13, R37, R108, R126, R134, R138,
R147, R158 to R162). -/

namespace Sys2Proof.Machine

/-! ## A change of zone state by its blocks (R161) -/

section
variable (s : State) (st : ZoneState)

/-- The station with a zone state entered and its indicators re-formed. -/
def State.zoneShown : State := (s.zoneEntered st).reformIndicators

theorem State.zoneLit_eq : s.zoneLit st =
    (((s.zoneShown st).arrivalsZoneChange s.grave).gasZoneChange s.grave).lampsZoneChange s.grave := rfl

@[simp] theorem State.zoneShown_fields :
    (s.zoneShown st).mode = s.mode ∧ (s.zoneShown st).settings = s.settings ∧ (s.zoneShown st).now = s.now ∧
    (s.zoneShown st).gas = s.gas ∧ (s.zoneShown st).fume = s.fume ∧ (s.zoneShown st).peers = s.peers ∧
    (s.zoneShown st).tracker = s.tracker ∧ (s.zoneShown st).guide = s.guide ∧ (s.zoneShown st).lamps = s.lamps ∧
    (s.zoneShown st).zone = s.zone.enter s.settings st ∧ (s.zoneShown st).store = s.store ∧
    (s.zoneShown st).pending = s.pending := by
  simp [State.zoneShown]

theorem State.zoneShown_grave : (s.zoneShown st).grave = st.grave := by
  unfold State.grave
  rw [show (s.zoneShown st).zone = s.zone.enter s.settings st by simp]
  rfl

/-- The indicators follow the zone state (R108). -/
theorem State.zoneShown_indicator (b : Fin 48) : ((s.zoneShown st).scanner.bays.get b).indicator =
    indicatorOf st.grave (s.settings.bays.get b).cls (s.bayState b) := by
  have hgrave : (s.zoneEntered st).grave = st.grave := s.zoneShown_grave st
  refine (congrArg Bay.indicator (Tbl.get_mapIdx _ _ b)).trans ?_
  dsimp only [Bay.reform]
  rw [hgrave, show (s.zoneEntered st).settings = s.settings by simp,
    show (s.zoneEntered st).scanner = s.scanner by simp]
  rfl

/-- The blocks past the lamps move the guidance and the bus side alone. -/
theorem State.setZone_blocks : (s.setZone st).gas = (s.zoneLit st).gas ∧
    (s.setZone st).scanner = (s.zoneLit st).scanner ∧ (s.setZone st).tracker = (s.zoneLit st).tracker ∧
    (s.setZone st).lamps = (s.zoneLit st).lamps ∧
    (s.setZone st).guide = (s.zoneLit st).presentZone.guide := by
  rw [State.setZone_eq]
  simp [State.reworkDemand, State.reportEvent, State.onComms, State.presentZone]

/-- What of the bus side a change of zone state leaves. -/
theorem State.setZone_calm : s.comms.Calm s.settings (s.setZone st).comms := by
  have hentered : s.comms.Calm s.settings (s.zoneEntered st).comms := by
    unfold State.zoneEntered
    dsimp only
    split
    · exact .refl
    · exact ⟨fun _ => rfl, fun h _ => h, rfl, rfl, rfl, rfl⟩
  have hlit : (s.zoneEntered st).comms.Calm s.settings (s.zoneLit st).comms := by
    rw [show (s.zoneLit st).comms = ((s.zoneShown st).arrivalsZoneChange s.grave).comms by simp [State.zoneLit_eq]]
    exact ((s.zoneShown st).arrivalsZoneChange_reported s.grave).calm
  have hguide : (s.zoneLit st).comms.Calm s.settings (s.zoneLit st).presentZone.comms :=
    (s.zoneLit st).reformGuide_reported.calm
  have hset : (s.zoneLit st).presentZone.settings = s.settings := by simp [State.zoneLit_eq, State.presentZone]
  have hrework := reworkDemand_calm (s.zoneLit st).presentZone.env (s.zoneLit st).presentZone.comms
  rw [show (s.zoneLit st).presentZone.env.settings = s.settings from hset] at hrework
  have hreport (t : State) : t.comms.Calm s.settings t.reportEvent.comms :=
    Comms.Reported.calm (Relation.ReflTransGen.single ⟨_, rfl⟩)
  rw [State.setZone_eq]
  exact (((hentered.trans hlit).trans hguide).trans hrework).trans (hreport (s.zoneLit st).presentZone.reworkDemand)

end

/-! ## A quiet station with a fan available -/

/-- A change of zone state that ends a command leaves nothing for the end of the step. -/
theorem done_setZone {s : State} (hq : s.quiet = true) (hv : s.vented = true) {z : ZoneCtl}
    (hvent : z.ventCause = s.zone.ventCause) (st : ZoneState) :
    done (({ s with zone := z } : State).setZone st) =
      .next { ({ s with zone := z } : State).setZone st with moment := s.moment + 1 } := by
  have hcomms := ({ s with zone := z } : State).setZone_calm st
  have hmode : (({ s with zone := z } : State).setZone st).mode = s.mode := by simp
  have hmoment : (({ s with zone := z } : State).setZone st).moment = s.moment := by simp
  have hzone : (({ s with zone := z } : State).setZone st).zone = z.enter s.settings st := State.setZone_zone _ _
  generalize ({ s with zone := z } : State).setZone st = t at *
  obtain ⟨hnoVent, hany⟩ := s.vented_iff.mp hv
  obtain ⟨htold, hempty, hbusy⟩ := s.quiet_iff.mp hq
  rw [← hmoment]
  refine done_of_quiet (t.quiet_iff.mpr ⟨fun ho => ?_, hcomms.requests.trans hempty, hcomms.bus ▸ hbusy⟩)
  rw [hzone, hcomms.noVent hnoVent hany, ← hnoVent]
  exact hvent.trans (htold (by unfold State.operating at ho ⊢; rwa [hmode] at ho))

/-- An evaluation that gives another state. -/
theorem State.evaluate_of_ne {s : State} (h : s.zone.evaluation s.settings ≠ s.zone.state) :
    s.evaluate = s.setZone (s.zone.evaluation s.settings) := if_neg h

/-! ## From one grave state to the other (R13, R126, R147) -/

section
variable {s : State} {st : ZoneState} (hs : s.grave = true) (hst : st.grave = true)
include hs hst

/-- Between ALARM and PURGE neither the heads nor the arrivals take the change. -/
theorem State.zoneLit_of_grave : s.zoneLit st = (s.zoneShown st).retargetAll := by
  have hgrave := s.zoneShown_grave st
  have harrivals : (s.zoneShown st).arrivalsZoneChange s.grave = s.zoneShown st := if_pos (by rw [hgrave, hst, hs])
  have hgas : (s.zoneShown st).gasZoneChange s.grave = s.zoneShown st := by
    unfold State.gasZoneChange
    rw [hgrave, hst, hs]
    rfl
  have hlamps : (s.zoneShown st).lampsZoneChange s.grave = (s.zoneShown st).retargetAll := by
    unfold State.lampsZoneChange
    dsimp only
    rw [hs]
    simp
  rw [State.zoneLit_eq, harrivals, hgas, hlamps]

theorem State.zoneLit_lamps_of_grave (h : s.lampsSound) : (s.zoneLit st).lamps = s.lamps := by
  have hforced : (s.zoneShown st).forced = s.forced := by
    unfold State.forced
    rw [s.zoneShown_grave st, hst, hs]
    simp
  have hlamps : (s.zoneShown st).lamps = s.lamps := by simp
  have hset : (s.zoneShown st).settings = s.settings := by simp
  have hchannels : (s.zoneShown st).retargetAll.lamps.channels = s.lamps.channels := by
    refine Tbl.ext_get fun k => ?_
    refine (Tbl.get_mapIdx _ _ k).trans ?_
    rw [hlamps, hset, hforced]
    dsimp only [Channel.retarget]
    rw [← s.lampsSound_iff.mp h k]
  rw [State.zoneLit_of_grave hs hst]
  have hrest : (s.zoneShown st).retargetAll.lamps =
      { (s.zoneShown st).lamps with channels := (s.zoneShown st).retargetAll.lamps.channels } := rfl
  rw [hrest, hchannels, hlamps]

theorem State.setZone_of_grave : (s.setZone st).gas = s.gas ∧ (s.setZone st).tracker = s.tracker ∧
    (s.setZone st).lamps.counters = s.lamps.counters ∧ (s.lampsSound → (s.setZone st).lamps = s.lamps) := by
  obtain ⟨hgas, -, htracker, hlamps, -⟩ := s.setZone_blocks st
  have hlit := State.zoneLit_of_grave hs hst
  rw [hgas, htracker, hlamps]
  refine ⟨?_, ?_, ?_, fun h => State.zoneLit_lamps_of_grave hs hst h⟩
  · rw [hlit, show (s.zoneShown st).retargetAll.gas = (s.zoneShown st).gas from rfl]
    simp
  · rw [hlit, show (s.zoneShown st).retargetAll.tracker = (s.zoneShown st).tracker from rfl]
    simp
  · rw [hlit, show (s.zoneShown st).retargetAll.lamps.counters = (s.zoneShown st).lamps.counters from rfl]
    simp

end

/-! ## From a calm state into PURGE (R13, R37, R126, R134, R138, R147) -/

/-- After the withdrawals of a list of heads none of them is at rest (R13). -/
theorem foldl_withdraw_zeroing : ∀ (hs : List (Fin 4)) (g : GasFront) {k : Fin 4},
    ((hs.foldl GasFront.withdraw g).heads.get k).state = .zeroing → k ∉ hs ∧ (g.heads.get k).state = .zeroing
  | [], _, _, hk => ⟨List.not_mem_nil, hk⟩
  | h :: hs, g, k, hk => by
    obtain ⟨hrest, hone⟩ := foldl_withdraw_zeroing hs (g.withdraw h) hk
    obtain ⟨hne, hz⟩ := (GasFront.withdraw_zeroing h k).mp hone
    exact ⟨fun hmem => (List.mem_cons.mp hmem).elim hne hrest, hz⟩

theorem State.gasZoneChange_awake {s : State} (h : s.grave = true) (k : Fin 4) :
    ((s.gasZoneChange false).gas.heads.get k).state ≠ .zeroing := by
  intro hk
  have hheads : (s.gasZoneChange false).gas.heads =
      ((List.finRange 4).foldl GasFront.withdraw s.gas).heads := by
    unfold State.gasZoneChange
    rw [h]
    exact GasFront.arbitrate_heads ..
  rw [hheads] at hk
  exact (foldl_withdraw_zeroing _ _ hk).1 (List.mem_finRange k)

/-- In ALARM and PURGE a release leaves every dark indicator dark (R108). -/
theorem State.release_dark {s : State} (hlist : s.tracker.list = []) (hg : s.grave = true)
    (hdark : ∀ c, (s.scanner.bays.get c).indicator = .dark) (b : Fin 48) :
    (s.release b).tracker.list = [] ∧ (s.release b).grave = true ∧
      ∀ c, ((s.release b).scanner.bays.get c).indicator = .dark := by
  unfold State.release
  split
  · have hempty : (s.changeBay b (Bay.enter .free)).tracker.list = [] := by simpa using hlist
    rw [State.holdRound_of_empty hempty]
    refine ⟨hempty, ?_, fun c => ?_⟩
    · unfold State.grave at hg ⊢
      rw [show (s.changeBay b (Bay.enter .free)).zone = s.zone by simp]
      exact hg
    · rw [State.changeBay_scanner]
      by_cases hc : c = b
      · subst hc
        rw [State.setBay_get_self, hg]
        rfl
      · rw [State.setBay_get_ne _ hc]
        exact hdark c
  · exact ⟨hlist, hg, hdark⟩

theorem foldl_release_dark : ∀ (l : List (Fin 48)) {s : State}, s.tracker.list = [] → s.grave = true →
    (∀ c, (s.scanner.bays.get c).indicator = .dark) →
    ∀ c, ((l.foldl State.release s).scanner.bays.get c).indicator = .dark
  | [], _, _, _, hdark => hdark
  | b :: l, _, hlist, hg, hdark => by
    obtain ⟨hlist', hg', hdark'⟩ := State.release_dark hlist hg hdark b
    exact foldl_release_dark l hlist' hg' hdark'

theorem State.clearArrivals_dark {s : State} (hg : s.grave = true)
    (hdark : ∀ c, (s.scanner.bays.get c).indicator = .dark) (c : Fin 48) :
    (s.clearArrivals.scanner.bays.get c).indicator = .dark := by
  unfold State.clearArrivals
  dsimp only
  generalize hmid : (s.setList []).countArrival (fun k =>
    { k with cleared := bumpBy s.tracker.list.length k.cleared }) = u
  refine foldl_release_dark _ ?_ ?_ (fun b => ?_) c
  · rw [u.reformLeadIn_tracker.1, ← hmid]
    rfl
  · unfold State.grave at hg ⊢
    rw [show u.reformLeadIn.zone = u.zone by simp, ← hmid]
    exact hg
  · rw [show u.reformLeadIn.scanner = u.scanner by simp, ← hmid]
    exact hdark b

theorem State.zoneLit_entry_grave {s : State} {st : ZoneState} (hst : st.grave = true) :
    (s.zoneShown st).clearArrivals.grave = true ∧
      ((s.zoneShown st).clearArrivals.gasZoneChange false).grave = true := by
  have hgrave := s.zoneShown_grave st
  unfold State.grave at hgrave ⊢
  rw [show ((s.zoneShown st).clearArrivals.gasZoneChange false).zone = (s.zoneShown st).zone by simp,
    show (s.zoneShown st).clearArrivals.zone = (s.zoneShown st).zone by simp]
  exact ⟨hgrave.trans hst, hgrave.trans hst⟩

section
variable {s : State} {st : ZoneState} (hs : s.grave = false) (hst : st.grave = true)
include hs hst

/-- An entry to ALARM or PURGE from a calm state clears the arrivals. -/
theorem State.zoneLit_of_entry : s.zoneLit st =
    ((s.zoneShown st).clearArrivals.gasZoneChange false).lampsZoneChange false := by
  have hgrave := s.zoneShown_grave st
  have harrivals : (s.zoneShown st).arrivalsZoneChange false = (s.zoneShown st).clearArrivals := by
    unfold State.arrivalsZoneChange
    rw [hgrave, hst]
    rfl
  rw [State.zoneLit_eq, hs, harrivals]

/-- What every block but the bus side and the zone state controller takes of an entry to ALARM or PURGE. -/
theorem State.setZone_of_entry :
    (∀ k, ((s.setZone st).lamps.channels.get k).target = 1023) ∧ (s.setZone st).tracker.list = [] ∧
    (∀ b, (s.setZone st).bayState b ≠ .held ∧ ((s.setZone st).scanner.bays.get b).indicator = .dark) ∧
    (∀ h, ((s.setZone st).gas.heads.get h).state ≠ .zeroing) := by
  obtain ⟨hgas, hscanner, htracker, hlamps, -⟩ := s.setZone_blocks st
  obtain ⟨hgrave, hgrave'⟩ := State.zoneLit_entry_grave (s := s) hst
  have hlit := State.zoneLit_of_entry hs hst
  have hcleared := fun b => (s.zoneShown st).clearArrivals_empty b
  have hdark := State.clearArrivals_dark (s := s.zoneShown st) ((s.zoneShown_grave st).trans hst)
    fun c => by rw [s.zoneShown_indicator, hst]; rfl
  have hbays : (s.setZone st).scanner = (s.zoneShown st).clearArrivals.scanner := by
    rw [hscanner, hlit]
    simp
  refine ⟨fun k => ?_, ?_, fun b => ⟨?_, ?_⟩, fun h => ?_⟩
  · rw [hlamps, hlit]
    generalize (s.zoneShown st).clearArrivals.gasZoneChange false = u at hgrave'
    have hchannels : (u.lampsZoneChange false).lamps.channels = u.retargetAll.lamps.channels := by
      unfold State.lampsZoneChange
      dsimp only
      split <;> rfl
    rw [hchannels]
    refine (congrArg Channel.target (Tbl.get_mapIdx _ _ k)).trans ?_
    exact if_pos (by rw [State.forced, hgrave']; simp)
  · rw [htracker, hlit, show (((s.zoneShown st).clearArrivals.gasZoneChange false).lampsZoneChange false).tracker =
      (s.zoneShown st).clearArrivals.tracker by simp]
    exact (hcleared 0).1
  · unfold State.bayState
    rw [hbays]
    exact (hcleared b).2
  · rw [hbays]
    exact hdark b
  · rw [hgas, hlit, show (((s.zoneShown st).clearArrivals.gasZoneChange false).lampsZoneChange false).gas =
      ((s.zoneShown st).clearArrivals.gasZoneChange false).gas by simp]
    exact State.gasZoneChange_awake hgrave h

end

end Sys2Proof.Machine
end


section
/-! PURGE and the alarm hold: the commands (R156 to R162). -/

namespace Sys2Proof.Machine

/-! ## What an entry to PURGE gives the guidance and the fans (R37, R134, R138) -/

section
variable {s : State} {st : ZoneState} (hst : st.grave = true)
include hst

theorem State.setZone_guide_of_grave :
    (s.setZone st).guide.advGeneral = 0 ∧ (s.setZone st).guide.advAccessible = 0 ∧
    (s.setZone st).guide.advOffer.value = 0 ∧ ∀ i, ((s.setZone st).guide.signs.get i).legend = .closed := by
  obtain ⟨-, -, -, -, hguide⟩ := s.setZone_blocks st
  have hstate : (s.zoneLit st).zone.state = st := by
    rw [show (s.zoneLit st).zone = s.zone.enter s.settings st by simp [State.zoneLit_eq]]
    rfl
  have hreformed := (s.zoneLit st).reformGuide_reformed
  rw [hguide]
  change State.GuideReformed (s.zoneLit st) (s.zoneLit st).presentZone.guide at hreformed
  generalize (s.zoneLit st).presentZone.guide = g at hreformed
  generalize s.zoneLit st = u at hstate hreformed
  have hadvert : (⟨g.advGeneral, g.advAccessible, g.advOffer⟩ : Advert) = ⟨0, 0, Offer.zero u.settings.unit⟩ := by
    refine hreformed.advert.trans (if_neg fun hnormal => ?_)
    rw [show st = .normal from hstate.symm.trans hnormal] at hst
    exact Bool.false_ne_true hst
  obtain ⟨hgeneral, haccessible, hoffer⟩ := Advert.mk.injEq .. ▸ hadvert
  refine ⟨hgeneral, haccessible, congrArg Offer.value hoffer, fun i => (hreformed.legend i).trans (if_pos ?_)⟩
  rw [State.grave, hstate]
  exact hst

/-- The demand is 4 in ALARM and PURGE, and the stage rises to it at once (R37, R38). -/
theorem State.setZone_stage_of_grave (ho : s.operating = true) (h : s.comms.fan.stage ≤ 4) :
    (s.setZone st).comms.fan.stage = 4 := by
  obtain ⟨e, e', c, hstarts, hcomms, -, -, -, hoperating, hgrave⟩ := s.setZone_comms st
  have hdemand : demand e c.fan = 4 := demand_of_grave (hgrave.trans hst)
  rw [hcomms, (reportEvent_starts e' _).stage, reworkDemand_stage, stageAfter, hdemand, hstarts.stage,
    hoperating.trans ho, hgrave.trans hst]
  split
  · contradiction
  · split
    · rfl
    · simp only [Bool.true_eq_false, and_false, if_false]
      omega

end

/-! ## The end of a step in PURGE -/

/-- While the input is asserted, in PURGE, NO_VENT told changes the cause alone (R158). -/
theorem State.ventSettle_of_purge {s : State} (hin : s.zone.purgeIn = true) (hst : s.zone.state = .purge) :
    ∃ x, s.ventSettle = { s with zone := { s.zone with ventCause := x } } := by
  unfold State.ventSettle
  split
  · exact ⟨_, if_pos ((if_pos hin).trans hst.symm)⟩
  · exact ⟨_, rfl⟩

theorem State.linkSettle_stage (s : State) : s.linkSettle.comms.fan.stage = s.comms.fan.stage := by
  obtain h | h := s.linkSettle_cases <;> rw [h]
  unfold State.startFirst State.launch
  split
  · split
    · simp [State.onComms]
    · simp [State.onComms]
  · rfl

/-- What the end of a step leaves in PURGE, while the input is asserted and no request waits. -/
theorem State.settle_of_purge {s : State} (hq : s.comms.service.queue = []) (hin : s.zone.purgeIn = true)
    (hst : s.zone.state = .purge) :
    (∃ x, s.settle.zone = { s.zone with ventCause := x }) ∧ s.settle.comms.fan.stage = s.comms.fan.stage ∧
    s.settle.lamps = s.lamps ∧ s.settle.tracker = s.tracker ∧ s.settle.scanner = s.scanner ∧
    s.settle.gas = s.gas ∧ s.settle.guide = s.guide ∧ s.settle.mode = s.mode ∧ s.settle.settings = s.settings ∧
    s.settle.now = s.now ∧ s.settle.peers = s.peers ∧ s.settle.store = s.store ∧ s.settle.pending = s.pending := by
  obtain ⟨x, hx⟩ := State.ventSettle_of_purge hin hst
  rw [State.settle_of_noRequests hq, hx, State.linkSettle_stage]
  exact ⟨⟨x, by simp⟩, rfl, by simp⟩

/-! ## The PURGE input taken (R158, R160) -/

/-- The station with the level of the PURGE input taken. -/
def State.purgeSet (s : State) (level : Bool) : State := { s with zone := { s.zone with purgeIn := level } }

theorem exec_purgeAssertion {s : State} (ho : s.operating = true) (hne : s.zone.state ≠ .purge) :
    exec .purgeAssertionTaken s = done ((s.purgeSet true).setZone .purge) :=
  congrArg done ((if_pos ho).trans (State.evaluate_of_ne (s := s.purgeSet true) hne.symm))

theorem done_purgeSet {s : State} (hq : s.quiet = true) (hv : s.vented = true) (level : Bool) (st : ZoneState) :
    done ((s.purgeSet level).setZone st) = .next { (s.purgeSet level).setZone st with moment := s.moment + 1 } :=
  done_setZone hq hv (z := { s.zone with purgeIn := level }) rfl st

/-- From NORMAL or DIVERT the whole zone goes to PURGE. -/
theorem purgeAssertion_of_calm {s : State} (ho : s.operating = true) (hq : s.comms.service.queue = [])
    (hg : s.grave = false) (hstage : s.comms.fan.stage ≤ 4) :
    ∃ t, exec .purgeAssertionTaken s = .next t ∧ t.zone.state = .purge ∧ t.zone.purgeIn = true ∧
      t.zone.hold = .stopped ∧ t.zone.counters.purgeEntries = bump s.zone.counters.purgeEntries ∧
      t.zone.counters.stateChanges = bump s.zone.counters.stateChanges ∧ t.comms.fan.stage = 4 ∧
      (∀ k, (t.lamps.channels.get k).target = 1023) ∧ t.tracker.list = [] ∧
      (∀ b, t.bayState b ≠ .held ∧ (t.scanner.bays.get b).indicator = .dark) ∧
      (∀ h, (t.gas.heads.get h).state ≠ .zeroing) ∧
      t.guide.advGeneral = 0 ∧ t.guide.advAccessible = 0 ∧ t.guide.advOffer.value = 0 ∧
      (∀ i, (t.guide.signs.get i).legend = .closed) ∧
      t.mode = s.mode ∧ t.settings = s.settings ∧ t.now = s.now ∧ t.peers = s.peers ∧
      t.scanner.lanes = s.scanner.lanes ∧ t.store = s.store ∧ t.pending = s.pending := by
  have hne : s.zone.state ≠ .purge := fun h => by
    rw [State.grave, h] at hg
    exact Bool.false_ne_true hg.symm
  have hzone : ((s.purgeSet true).setZone .purge).zone = (s.purgeSet true).zone.enter s.settings .purge :=
    State.setZone_zone _ _
  have hqueue := ((s.purgeSet true).setZone_requests .purge).trans hq
  have hfour := State.setZone_stage_of_grave (s := s.purgeSet true) (st := .purge) rfl ho hstage
  obtain ⟨htargets, hlist, hbays, hheads⟩ := State.setZone_of_entry (s := s.purgeSet true) (st := .purge) hg rfl
  obtain ⟨hgeneral, haccessible, hoffer, hlegends⟩ :=
    State.setZone_guide_of_grave (s := s.purgeSet true) (st := .purge) rfl
  obtain ⟨hmode, hset, hnow, -, -, hpeers, hstore, hpending, hlanes, -⟩ := (s.purgeSet true).setZone_frame .purge
  rw [exec_purgeAssertion ho hne, done]
  refine ⟨_, rfl, ?_⟩
  generalize (s.purgeSet true).setZone .purge = u at *
  obtain ⟨⟨x, htzone⟩, htstage, htlamps, httracker, htscanner, htgas, htguide, htmode, htset, htnow, htpeers, htstore,
    htpending⟩ := State.settle_of_purge hqueue (by rw [hzone]; rfl) (by rw [hzone]; rfl)
  dsimp only [State.bayState]
  rw [htzone, hzone, htstage, htlamps, httracker, htscanner, htgas, htguide, htmode, htset, htnow, htpeers, htstore,
    htpending]
  exact ⟨rfl, rfl, rfl, rfl, rfl, hfour, htargets, hlist, hbays, hheads, hgeneral, haccessible, hoffer, hlegends,
    hmode, hset, hnow, hpeers, hlanes, hstore, hpending⟩

/-- From ALARM the zone goes to PURGE, and no block takes the change (R13, R126, R147). -/
theorem purgeAssertion_of_alarm {s : State} (ho : s.operating = true) (hq : s.quiet = true) (hv : s.vented = true)
    (hst : s.zone.state = .alarm) :
    ∃ t, exec .purgeAssertionTaken s = .next t ∧
      t.zone = { s.zone with
        state := .purge, purgeIn := true, hold := .stopped
        counters := { s.zone.counters with
          stateChanges := bump s.zone.counters.stateChanges
          purgeEntries := bump s.zone.counters.purgeEntries } } ∧
      t.gas = s.gas ∧ t.tracker = s.tracker ∧ t.lamps.counters = s.lamps.counters ∧
      (s.lampsSound → t.lamps = s.lamps) ∧
      t.mode = s.mode ∧ t.settings = s.settings ∧ t.fume = s.fume ∧ t.peers = s.peers ∧
      t.scanner.lanes = s.scanner.lanes ∧ t.store = s.store ∧ t.pending = s.pending := by
  have hgrave : (s.purgeSet true).grave = true := congrArg ZoneState.grave hst
  obtain ⟨hgas, htracker, hcounters, hlamps⟩ := State.setZone_of_grave (st := .purge) hgrave rfl
  obtain ⟨hmode, hset, -, -, hfume, hpeers, hstore, hpending, hlanes, -⟩ := (s.purgeSet true).setZone_frame .purge
  have hzone : ((s.purgeSet true).setZone .purge).zone = (s.purgeSet true).zone.enter s.settings .purge :=
    State.setZone_zone _ _
  have hexec := (exec_purgeAssertion ho (by rw [hst]; decide)).trans (done_purgeSet hq hv true .purge)
  generalize (s.purgeSet true).setZone .purge = t at *
  exact ⟨{ t with moment := s.moment + 1 }, hexec, hzone, hgas, htracker, hcounters, hlamps, hmode, hset, hfume, hpeers, hlanes, hstore, hpending⟩

/-- The state that PURGE is left for (R160). -/
theorem ZoneCtl.evaluation_of_release {z : ZoneCtl} (cfg : Settings) (hin : z.purgeIn = false)
    (hst : z.state = .purge) :
    z.evaluation cfg = if cfg.alarmOff ≤ z.fsLast then .alarm else z.byCauses := by
  rw [ZoneCtl.evaluation, hin, hst]
  rfl

theorem ZoneCtl.byCauses_ne_grave (z : ZoneCtl) : z.byCauses ≠ .purge ∧ z.byCauses ≠ .alarm := by
  unfold ZoneCtl.byCauses
  split <;> decide

/-- The release of the input forms the zone state afresh. -/
theorem purgeRelease_of_purge {s : State} (ho : s.operating = true) (hq : s.quiet = true) (hv : s.vented = true)
    (hst : s.zone.state = .purge) :
    ∃ t, exec .purgeReleaseTaken s = .next t ∧ t.zone.purgeIn = false ∧
      t.zone.state = (if s.settings.alarmOff ≤ s.zone.fsLast then .alarm else s.zone.byCauses) ∧
      t.zone.hold = (if s.settings.alarmOff ≤ s.zone.fsLast then s.settings.holdTimer else .stopped) ∧
      t.mode = s.mode ∧ t.settings = s.settings ∧ t.fume = s.fume ∧ t.peers = s.peers ∧
      t.scanner.lanes = s.scanner.lanes ∧ t.store = s.store ∧ t.pending = s.pending := by
  have hform : (s.purgeSet false).zone.evaluation s.settings =
      if s.settings.alarmOff ≤ s.zone.fsLast then .alarm else s.zone.byCauses :=
    ZoneCtl.evaluation_of_release _ rfl hst
  have hne : (s.purgeSet false).zone.evaluation s.settings ≠ s.zone.state := by
    rw [hform, hst]
    split
    · decide
    · exact s.zone.byCauses_ne_grave.1
  have hexec : exec .purgeReleaseTaken s =
      done ((s.purgeSet false).setZone ((s.purgeSet false).zone.evaluation s.settings)) :=
    congrArg done ((if_pos ho).trans (State.evaluate_of_ne (s := s.purgeSet false) hne))
  rw [hform] at hexec
  generalize hst' : (if s.settings.alarmOff ≤ s.zone.fsLast then ZoneState.alarm else s.zone.byCauses) = st at hexec
  obtain ⟨hmode, hset, -, -, hfume, hpeers, hstore, hpending, hlanes, -⟩ := (s.purgeSet false).setZone_frame st
  have hzone : ((s.purgeSet false).setZone st).zone = (s.purgeSet false).zone.enter s.settings st :=
    State.setZone_zone _ _
  replace hexec := hexec.trans (done_purgeSet hq hv false st)
  generalize (s.purgeSet false).setZone st = t at *
  refine ⟨{ t with moment := s.moment + 1 }, hexec, congrArg ZoneCtl.purgeIn hzone, congrArg ZoneCtl.state hzone,
    (congrArg ZoneCtl.hold hzone).trans ?_, hmode, hset, hfume, hpeers, hlanes, hstore, hpending⟩
  subst hst'
  dsimp only [ZoneCtl.enter]
  split
  · rfl
  · exact if_neg s.zone.byCauses_ne_grave.2

/-! ## The alarm hold (R159) -/

section
variable {s : State} (hq : s.quiet = true) (hst : s.zone.state = .alarm) (hhold : s.zone.hold.isRunning = true)
include hq hst hhold

theorem alarmHold_of_low (hv : s.vented = true) (hlow : s.zone.fsLast < s.settings.alarmOff) :
    ∃ t, exec .alarmHoldTimerExpiry s = .next t ∧ t.zone.hold = .stopped ∧ t.zone.state = s.zone.byCauses ∧
      t.mode = s.mode ∧ t.settings = s.settings ∧ t.fume = s.fume ∧ t.peers = s.peers ∧
      t.scanner.lanes = s.scanner.lanes ∧ t.store = s.store ∧ t.pending = s.pending := by
  have hafter : s.zone.afterHold s.settings = s.zone.byCauses := if_pos hlow
  have hexec : exec .alarmHoldTimerExpiry s = done (s.setZone s.zone.byCauses) := by
    refine congrArg done ((if_pos ⟨hst, hhold⟩).trans ?_)
    rw [hafter]
    exact if_neg s.zone.byCauses_ne_grave.2
  obtain ⟨hmode, hset, -, -, hfume, hpeers, hstore, hpending, hlanes, -⟩ := s.setZone_frame s.zone.byCauses
  have hzone : (s.setZone s.zone.byCauses).zone = s.zone.enter s.settings s.zone.byCauses := State.setZone_zone _ _
  exact ⟨_, hexec.trans (done_setZone hq hv (z := s.zone) rfl s.zone.byCauses),
    (congrArg ZoneCtl.hold hzone).trans (if_neg s.zone.byCauses_ne_grave.2), congrArg ZoneCtl.state hzone,
    hmode, hset, hfume, hpeers, hlanes, hstore, hpending⟩

theorem alarmHold_of_high (hhigh : s.settings.alarmOff ≤ s.zone.fsLast) :
    exec .alarmHoldTimerExpiry s = .next { s with
      zone := { s.zone with hold := s.settings.holdTimer }, moment := s.moment + 1 } := by
  have hafter : s.zone.afterHold s.settings = .alarm := if_neg (Nat.not_lt.mpr hhigh)
  have hexec : exec .alarmHoldTimerExpiry s =
      done { s with zone := { s.zone with hold := s.settings.holdTimer } } :=
    congrArg done ((if_pos ⟨hst, hhold⟩).trans (if_pos hafter))
  have hquiet : ({ s with zone := { s.zone with hold := s.settings.holdTimer } } : State).quiet = true := hq
  rw [hexec, done_of_quiet hquiet]

end

/-- In COMMISSION a command of the zone state controller does nothing (R162). -/
theorem done_whenOperating_of_commission {s t : State} (ho : s.operating = false) (hr : s.atRest = true) :
    done (s.whenOperating t) = .next { s with moment := s.moment + 1 } := by
  rw [State.whenOperating, ho]
  exact done_of_atRest hr

/-- Settles O54: an entry to PURGE reaches every block, one from ALARM none, and PURGE and ALARM are left for the state
that FS and the causes give. -/
theorem purgeAndAlarmMoveTheWholeZone : Obligations.PurgeAndAlarmMoveTheWholeZone := by
  unfold Obligations.PurgeAndAlarmMoveTheWholeZone
  exact fun s => ⟨purgeAssertion_of_calm, purgeAssertion_of_alarm, purgeRelease_of_purge,
    fun _ hq hv hst hhold => ⟨alarmHold_of_low hq hst hhold hv, alarmHold_of_high hq hst hhold⟩,
    fun ho hr => ⟨done_whenOperating_of_commission ho hr, done_whenOperating_of_commission ho hr⟩⟩

end Sys2Proof.Machine
end
